-- ==== Sys2Proof/Word.lean ====
section
/-! DEFINITION. The words of the control ports, audio samples, and fixed-size tables. -/

namespace Sys2Proof

/-- A word of a control port transaction (10 R158). -/
abbrev Word := BitVec 16

/-- An audio sample of any line: a signed integer of 24 bits (00, "Samples and levels"). -/
abbrev Sample := BitVec 24

/-- A table of exactly `n` cells. -/
structure Tab (α : Type) (n : Nat) where
  cells : List α
  size : cells.length = n
  deriving DecidableEq, Repr

namespace Tab

variable {α β : Type} {n : Nat}

def get (t : Tab α n) (i : Fin n) : α := t.cells.get (i.cast t.size.symm)

def set (t : Tab α n) (i : Fin n) (a : α) : Tab α n := ⟨t.cells.set i a, by simp [t.size]⟩

def fill (n : Nat) (a : α) : Tab α n := ⟨List.replicate n a, by simp⟩

def map (f : α → β) (t : Tab α n) : Tab β n := ⟨t.cells.map f, by simp [t.size]⟩

def modify (t : Tab α n) (i : Fin n) (f : α → α) : Tab α n := t.set i (f (t.get i))

/-- The table whose cell `i` is `f i`. -/
def build (n : Nat) (f : Fin n → α) : Tab α n := ⟨(List.finRange n).map f, by simp⟩

end Tab

/-- The lowest index at which `p` holds. -/
def firstIdx {n : Nat} (p : Fin n → Bool) : Option (Fin n) := (List.finRange n).find? p

/-- The number of indices at which `p` holds. -/
def countIdx {n : Nat} (p : Fin n → Bool) : Nat := (List.finRange n).countP p

/-- Fold `f` over every index in rising order. -/
def eachIdx {σ : Type} (n : Nat) (f : Fin n → σ → σ) (s : σ) : σ :=
  (List.finRange n).foldl (fun s i => f i s) s

end Sys2Proof
end

