-- ==== Sys2Proof/Syntax.lean ====
section
/-! DEFINITION. The commands the part takes: one constructor of `Instr` for each row of
spec/opcode_table.json, and the operands they carry.

A request's operands are what its body words say, before any check: a number is a `Nat` or an `Int`
of any size, and an enumeration, a yes/no value or a set is the `Nat` its word holds (10 R167), so
that a malformed or out-of-range request is a command like any other. -/

namespace Sys2Proof

/-! ## Names -/

/-- The two control ports (00, "Ports and rights"). -/
inductive Port where
  | front | rear
  deriving DecidableEq, Repr

def Port.other : Port → Port
  | .front => .rear
  | .rear => .front

/-- One value for each port. -/
structure PerPort (α : Type) where
  front : α
  rear : α
  deriving DecidableEq, Repr

namespace PerPort
variable {α : Type}
def get (t : PerPort α) : Port → α
  | .front => t.front
  | .rear => t.rear
def set (t : PerPort α) (p : Port) (a : α) : PerPort α :=
  match p with
  | .front => { t with front := a }
  | .rear => { t with rear := a }
def both (a : α) : PerPort α := ⟨a, a⟩
end PerPort

/-- The five zones (01 section 1.1). -/
inductive Zone where
  | z0 | z1 | z2 | z3 | z4
  deriving DecidableEq, Repr

namespace Zone
def all : List Zone := [.z0, .z1, .z2, .z3, .z4]
def toNat : Zone → Nat
  | z0 => 0 | z1 => 1 | z2 => 2 | z3 => 3 | z4 => 4
def ofNat? : Nat → Option Zone
  | 0 => some z0 | 1 => some z1 | 2 => some z2 | 3 => some z3 | 4 => some z4 | _ => none
end Zone

/-- One value for each zone. -/
structure PerZone (α : Type) where
  z0 : α
  z1 : α
  z2 : α
  z3 : α
  z4 : α
  deriving DecidableEq, Repr

namespace PerZone
variable {α β γ : Type}
def get (t : PerZone α) : Zone → α
  | .z0 => t.z0 | .z1 => t.z1 | .z2 => t.z2 | .z3 => t.z3 | .z4 => t.z4
def set (t : PerZone α) (z : Zone) (a : α) : PerZone α :=
  match z with
  | .z0 => { t with z0 := a }
  | .z1 => { t with z1 := a }
  | .z2 => { t with z2 := a }
  | .z3 => { t with z3 := a }
  | .z4 => { t with z4 := a }
def build (f : Zone → α) : PerZone α := ⟨f .z0, f .z1, f .z2, f .z3, f .z4⟩
def fill (a : α) : PerZone α := ⟨a, a, a, a, a⟩
def map (f : α → β) (t : PerZone α) : PerZone β := build fun z => f (t.get z)
def modify (t : PerZone α) (z : Zone) (f : α → α) : PerZone α := t.set z (f (t.get z))
end PerZone

/-- A set of zones. -/
abbrev ZoneSet := PerZone Bool

namespace ZoneSet
def none : ZoneSet := PerZone.fill false
def of (zs : List Zone) : ZoneSet := PerZone.build fun z => zs.contains z
def union (a b : ZoneSet) : ZoneSet := PerZone.build fun z => a.get z || b.get z
def isEmpty (a : ZoneSet) : Bool := Zone.all.all fun z => !a.get z
end ZoneSet

/-- The two programme channels (05). -/
inductive Chan where
  | pc0 | pc1
  deriving DecidableEq, Repr

def Chan.other : Chan → Chan
  | .pc0 => .pc1
  | .pc1 => .pc0

structure PerChan (α : Type) where
  pc0 : α
  pc1 : α
  deriving DecidableEq, Repr

namespace PerChan
variable {α : Type}
def get (t : PerChan α) : Chan → α
  | .pc0 => t.pc0
  | .pc1 => t.pc1
def set (t : PerChan α) (c : Chan) (a : α) : PerChan α :=
  match c with
  | .pc0 => { t with pc0 := a }
  | .pc1 => { t with pc1 := a }
end PerChan

/-- The two tuners (05). -/
inductive TunerId where
  | t0 | t1
  deriving DecidableEq, Repr

def TunerId.other : TunerId → TunerId
  | .t0 => .t1
  | .t1 => .t0

structure PerTuner (α : Type) where
  t0 : α
  t1 : α
  deriving DecidableEq, Repr

namespace PerTuner
variable {α : Type}
def get (t : PerTuner α) : TunerId → α
  | .t0 => t.t0
  | .t1 => t.t1
def set (t : PerTuner α) (i : TunerId) (a : α) : PerTuner α :=
  match i with
  | .t0 => { t with t0 := a }
  | .t1 => { t with t1 := a }
end PerTuner

/-- The fourteen zone channels in zone channel order (08 R143): Z0 FL, FR, C, SUB; Z1 RL, RR, LL, LR;
Z2 HL, HR; Z3 L, R; Z4 L, R. -/
abbrev ZoneChan := Fin 14

/-- The kinds of amplifier node (08 R139). -/
inductive NodeKind where
  | speakerAmp | headphoneAmp | subAmp
  deriving DecidableEq, Repr

/-- The announcement kinds that a zone's accept set may hold (01 R1). -/
structure AcceptSet where
  traffic : Bool
  nav : Bool
  chime : Bool
  deriving DecidableEq, Repr

/-! ## Operands of requests -/

/-- A handle as a request names it (10 R167): the list is 0 but for a route handle. -/
structure Handle where
  list : Nat := 0
  slot : Nat
  gen : Nat
  deriving DecidableEq, Repr

/-- A source as a request names it: kind 0 is STATION and 1 is MEDIA (10 R167). -/
structure RawSource where
  kind : Nat
  medium : Nat
  station : Handle
  deriving DecidableEq, Repr

/-- The body of Place Route (01 R15); `slot = none` is "first free". -/
structure PlaceArgs where
  list : Nat
  slot : Option Nat
  source : RawSource
  gain : Int
  priority : Int
  duck : Nat
  shared : Nat
  pinned : Nat
  present : Nat
  deriving DecidableEq, Repr

/-- The fields Alter Route selects (01 R16). -/
structure AlterArgs where
  source : Option RawSource := none
  gain : Option Int := none
  priority : Option Int := none
  duck : Option Nat := none
  shared : Option Nat := none
  pinned : Option Nat := none
  deriving DecidableEq, Repr

/-- The fields Set Zone selects (01 R19). -/
structure ZoneArgs where
  present : Option Nat := none
  volume : Option Int := none
  ceiling : Option Int := none
  duckDepth : Option Int := none
  callDuckDepth : Option Int := none
  traffic : Option Int := none
  nav : Option Int := none
  chime : Option Int := none
  ring : Option Int := none
  accept : Option Nat := none
  userMute : Option Nat := none
  deriving DecidableEq, Repr

/-- The fields Set Pattern selects (06 R112). -/
structure PatternArgs where
  tone : Option Int := none
  on : Option Int := none
  off : Option Int := none
  repeats : Option Int := none
  priority : Option Int := none
  targets : Option Nat := none
  deriving DecidableEq, Repr

/-- What Open Call carries (07 R123). -/
structure OpenArgs where
  listeners : Option Nat := none
  level : Option Int := none
  talker : Option Nat := none
  joinable : Option Nat := none
  deriving DecidableEq, Repr

/-- The fields Set Call selects (07 R128). -/
structure CallArgs where
  level : Option Int := none
  talker : Option Nat := none
  uplinkMute : Option Nat := none
  privacy : Option Nat := none
  joinable : Option Nat := none
  deriving DecidableEq, Repr

/-! ## Operands of events -/

/-- The three figures of a measurement (05 R86): field strength in dBµV, multipath, adjacent channel. -/
structure Figures where
  fs : Nat
  multipath : Nat
  adjacent : Nat
  deriving DecidableEq, Repr

/-- What a programme data group carries besides its code (04 R71 to R74). -/
inductive GroupContent where
  | ident (tp ta : Bool)
  | name (seg : Fin 4) (first second : BitVec 8)
  | alts (f g : Option Nat)
  deriving DecidableEq, Repr

/-- A data group as received (04 R71): identity code, whether its check passes, content. -/
structure DataGroup where
  code : Nat
  ok : Bool
  content : GroupContent
  deriving DecidableEq, Repr

/-- What is found in the return slot of one position (08 R145). -/
inductive ReturnWord where
  | good | corrupt | empty
  deriving DecidableEq, Repr

/-- A returning ring frame (08 R138). -/
structure RingFrame where
  synchronised : Bool
  words : Tab ReturnWord 6
  deriving DecidableEq, Repr

/-- The kind of an ability page (08 R141); `base none …` gives a node kind that is none of the three. -/
inductive PageKind where
  | base (kind : Option NodeKind) (channels : Nat) (levelClass : Fin 8)
  | channel (n : Nat)
  deriving DecidableEq, Repr

/-- An ability page (08 R141). -/
structure AbilityPage where
  toggle : Bool
  more : Bool
  kind : PageKind
  deriving DecidableEq, Repr

/-- The fault flags of a status report (08 R144). -/
structure FaultFlags where
  overTemperature : Bool
  outputShort : Bool
  nodeSupply : Bool
  deriving DecidableEq, Repr

/-- A stereo sample. -/
structure Stereo where
  l : Sample
  r : Sample
  deriving DecidableEq, Repr

/-- What the audio lines and the demodulators give at one sample instant (02 R27, 07 R132). -/
structure SampleIn where
  media : Tab Stereo 4
  tuner : PerTuner Stereo
  nav : Sample
  phoneDl : Sample
  driver : Sample
  passenger : Sample
  deriving DecidableEq, Repr

/-- The values of the calibration image for one zone (09 R156). -/
structure ZoneImage where
  absoluteCeiling : Int
  defaultCeiling : Int
  duckDepth : Int
  callDuckDepth : Int
  traffic : Int
  nav : Int
  chime : Int
  ring : Int
  accept : AcceptSet
  deriving DecidableEq, Repr

/-- The values of the calibration image (09 R156). A map entry is a node position and a node channel. -/
structure Image where
  zones : PerZone ZoneImage
  map : Tab (Option (Nat × Nat)) 14
  antenna : PerTuner Int
  driverTrim : Int
  passengerTrim : Int
  deriving DecidableEq, Repr

/-- What the calibration loader reads from the EEPROM (09 R155). `others` is every word of the image
but the check word, the length word first; `lengthOk` says whether that length is the length of an
image of this part, and `values` is what the words say, since the layout of the image is not in the
spec (log 11). -/
inductive EepromRead where
  | noAnswer
  | failed
  | read (lengthOk : Bool) (others : List Word) (check : Word) (values : Image)
  deriving DecidableEq, Repr

/-! ## Commands -/

/-- The commands: the rows of spec/opcode_table.json, in its order. -/
inductive Instr where
  -- the transaction (10 R158 to R160)
  | portSelect (p : Port)
  | transactionAbandoned (p : Port)
  | unknownRequest (p : Port) (number length : Nat)
  -- the route directory (01)
  | placeRoute (p : Port) (a : PlaceArgs)
  | alterRoute (p : Port) (h : Handle) (a : AlterArgs)
  | park (p : Port) (h : Handle)
  | unpark (p : Port) (h : Handle)
  | retireRoute (p : Port) (h : Handle)
  | readRoute (p : Port) (h : Handle)
  | clearMarks (p : Port) (h : Handle)
  | setZone (p : Port) (zone : Nat) (a : ZoneArgs)
  | readZone (p : Port) (zone : Nat)
  | linkList (p : Port) (zone : Nat) (list : Option Nat)
  | grantRearControl (p : Port) (value : Nat)
  | clearZoneRoutes (p : Port) (zones : Nat)
  | mediaState (p : Port) (m0 m1 m2 m3 : Option Nat)
  -- plans and Hold (03)
  | enterHold (p : Port)
  | releaseHold (p : Port)
  -- the station table (04) and reception (05)
  | readStation (p : Port) (h : Handle)
  | walkStations (p : Port) (count : Int) (mode : Nat)
  | addStation (p : Port) (band : Nat) (channel : Int)
  | keep (p : Port) (h : Handle)
  | unkeep (p : Port) (h : Handle)
  | retireStation (p : Port) (h : Handle)
  | setTrafficWatch (p : Port) (h : Option Handle) (priority : Int)
  | readReception (p : Port)
  -- announcements and chimes (06)
  | startChime (p : Port) (pattern : Nat) (targets : Option Nat)
  | cancelAnnouncement (p : Port) (h : Handle)
  | startNav (p : Port) (targets : Nat)
  | keepNav (p : Port)
  | endNav (p : Port)
  | setPattern (p : Port) (pattern : Nat) (a : PatternArgs)
  | readPattern (p : Port) (pattern : Nat)
  | readAnnouncements (p : Port)
  -- calls (07)
  | openCall (p : Port) (a : OpenArgs)
  | answer (p : Port) (h : Handle)
  | holdCall (p : Port) (h : Handle)
  | resume (p : Port) (h : Handle)
  | endCall (p : Port) (h : Handle)
  | setListeners (p : Port) (h : Handle) (zones : Nat)
  | setCall (p : Port) (h : Handle) (a : CallArgs)
  | setUplinkGain (p : Port) (gain : Int)
  | joinCall (p : Port) (h : Handle) (zone : Nat)
  | leaveCall (p : Port) (h : Handle) (zone : Nat)
  | readCall (p : Port) (h : Handle)
  -- the speaker ring (08)
  | readRing (p : Port)
  | readNode (p : Port) (position : Nat)
  | restartNode (p : Port) (position : Nat)
  | systemMute (p : Port) (value : Nat)
  -- supply (09)
  | expectDip (p : Port)
  -- control ports (10)
  | readEvents (p : Port)
  | relaySend (p : Port) (w : Word)
  | relayTake (p : Port)
  | liteReset (p : Port)
  -- resets, start-up and the supply (09, 10)
  | liteResetEnd
  | powerOnReset
  | imageLoadEnd (e : EepromRead)
  | supplySample (mv : Nat)
  | settleTimerExpiry
  | recoverStep
  | expectWindowExpiry
  -- the mix (02) and the plans (03)
  | rampTick
  | mixSample (x : SampleIn)
  | planBuildComplete
  -- the tuners (05)
  | measurement (t : TunerId) (f : Figures)
  | diversityOff (c : Chan)
  | diversityTuneComplete
  | retuneComplete (c : Chan)
  | followStart (c : Chan)
  | followProbeComplete (f : Figures)
  | followWinnerTuned
  | excursionStart (c : Chan)
  | excursionEnd (c : Chan) (f : Figures)
  -- the scan and programme data (04)
  | scanMeasurement (f : Figures)
  | dwellTimeout
  | dataGroup (t : TunerId) (g : DataGroup)
  -- chimes and announcements (06)
  | cadenceTick
  | chimeCompleted (voice : Fin 2)
  | navTimeout
  | trafficTimeout (slot : Fin 8)
  -- the canceller (07)
  | echoBlockEnd
  | doubleTalkTimeout
  -- the ring (08)
  | returnFrame (f : RingFrame)
  | ringUp
  | ringDown
  | nodeLost (pos : Fin 6)
  | discoveryPoll
  | pollAnswer (pos : Fin 6)
  | abilityPage (pos : Fin 6) (page : AbilityPage)
  | pageTimerExpiry (pos : Fin 6)
  | configPageAnswer (pos : Fin 6) (acknowledged : Bool)
  | configTimeout (pos : Fin 6)
  | statusReport (pos : Fin 6) (f : FaultFlags)
  | muteLineChange (asserted : Bool)
  -- start-up (09 R154)
  | startUp (mv : Nat) (lineAsserted : Bool)
  deriving DecidableEq, Repr

end Sys2Proof
end

