-- ==== Sys2Proof/Decode.lean ====
section
/-! DEFINITION. The words of a request (10 R158, R160, R167), and the host's decoder of table words. -/

namespace Sys2Proof

/-! ## Fields -/

/-- A field that a word holds unsigned. -/
def unsignedField (w : Word) : Int := w.toNat

/-- The word that stands for none, first free or DEFAULT (10 R167). -/
def isNamed (w : Word) : Bool := decide (w = 65535)

/-- A number, or none for the named alternative (10 R167). -/
def optField (w : Word) : Option Nat := if isNamed w then none else some w.toNat

/-- A route handle: generation in bits 15 to 12, list in bits 11 to 8, slot in bits 7 to 0 (10 R167). -/
def routeHandleOf (w : Word) : Handle := { list := w.toNat / 256 % 16, slot := w.toNat % 256, gen := w.toNat / 4096 }

/-- Any other handle, whose list bits are ignored (10 R167). -/
def handleOf (w : Word) : Handle := { slot := w.toNat % 256, gen := w.toNat / 4096 }

/-- The two words of a source: kind and medium, then the station handle (10 R167; log 12). -/
def sourceOf (w h : Word) : RawSource := { kind := w.toNat / 256, medium := w.toNat % 256, station := handleOf h }

/-! ## Selected fields (10 R167) -/

/-- The words of the selected fields, for fields of these widths; none where the selection sets a bit
beyond the list or the body has another length (10 R167). -/
def takeFields : List Nat → Nat → List Word → Option (List (Option (List Word)))
  | [], sel, ws => if sel = 0 ∧ ws = [] then some [] else none
  | n :: ns, sel, ws =>
    if sel % 2 = 1 then
      if ws.length < n then none else (takeFields ns (sel / 2) (ws.drop n)).map (some (ws.take n) :: ·)
    else (takeFields ns (sel / 2) ws).map (none :: ·)

def natOf : Option (List Word) → Option Nat
  | some [w] => some w.toNat
  | _ => none

def intOf : Option (List Word) → Option Int
  | some [w] => some w.toInt
  | _ => none

def countOf : Option (List Word) → Option Int
  | some [w] => some (unsignedField w)
  | _ => none

def optSourceOf : Option (List Word) → Option RawSource
  | some [w, h] => some (sourceOf w h)
  | _ => none

/-- The fields of Alter Route in the order of 01 R16. -/
def alterFields (sel : Nat) (ws : List Word) : Option AlterArgs :=
  match takeFields [2, 1, 1, 1, 1, 1] sel ws with
  | some [src, gain, priority, duck, shared, pinned] =>
    some { source := optSourceOf src, gain := intOf gain, priority := countOf priority, duck := natOf duck,
           shared := natOf shared, pinned := natOf pinned }
  | _ => none

/-- One of the four words of the announcement levels: 0 traffic, 1 nav, 2 chime, 3 ring (01 R19). -/
def levelOf (n : Nat) : Option (List Word) → Option Int
  | some ws => (ws[n]?).map (·.toInt)
  | none => none

/-- The fields of Set Zone in the order of 01 R19. The announcement levels are one field of four words, with one
selection bit, so that the accept set is bit 6 and user mute bit 7 (10 R167; log 12). -/
def zoneFields (sel : Nat) (ws : List Word) : Option ZoneArgs :=
  match takeFields [1, 1, 1, 1, 1, 4, 1, 1] sel ws with
  | some [present, volume, ceiling, duck, callDuck, levels, accept, mute] =>
    some { present := natOf present, volume := intOf volume, ceiling := intOf ceiling, duckDepth := intOf duck,
           callDuckDepth := intOf callDuck, traffic := levelOf 0 levels, nav := levelOf 1 levels,
           chime := levelOf 2 levels, ring := levelOf 3 levels, accept := natOf accept, userMute := natOf mute }
  | _ => none

/-- The fields of Set Pattern in the order of 06 R112. -/
def patternFields (sel : Nat) (ws : List Word) : Option PatternArgs :=
  match takeFields (List.replicate 6 1) sel ws with
  | some [tone, on, off, repeats, priority, targets] =>
    some { tone := countOf tone, on := countOf on, off := countOf off, repeats := countOf repeats,
           priority := countOf priority, targets := natOf targets }
  | _ => none

/-- The fields of Set Call in the order of 07 R128. -/
def callFields (sel : Nat) (ws : List Word) : Option CallArgs :=
  match takeFields (List.replicate 5 1) sel ws with
  | some [level, talker, mute, privacy, joinable] =>
    some { level := intOf level, talker := natOf talker, uplinkMute := natOf mute, privacy := natOf privacy,
           joinable := natOf joinable }
  | _ => none

/-- The streams of Media State (01 R22). -/
def mediaFields (p : Port) (sel : Nat) (ws : List Word) : Option Instr :=
  match takeFields (List.replicate 4 1) sel ws with
  | some [m0, m1, m2, m3] => some (.mediaState p (natOf m0) (natOf m1) (natOf m2) (natOf m3))
  | _ => none

/-- The fields of Open Call that a body of 0 to 4 words carries (07 R123; log 12). -/
def openFields : List Word → Option OpenArgs
  | [] => some {}
  | [z] => some { listeners := optField z }
  | [z, l] => some { listeners := optField z, level := some l.toInt }
  | [z, l, t] => some { listeners := optField z, level := some l.toInt, talker := optField t }
  | [z, l, t, j] => some { listeners := optField z, level := some l.toInt, talker := optField t, joinable := optField j }
  | _ => none

/-! ## The requests by number (10 section 10.3) -/

/-- Requests 1 to 15, the directory and Hold. A body with a selection begins with the selection word, and the handle,
zone or pattern the request names comes next (10 R167; log 12). -/
def directoryBody (p : Port) (number : Nat) (ws : List Word) : Option Instr :=
  match number, ws with
  | 1, [l, k, s, h, g, pr, d, sh, pn, pz] =>
    some (.placeRoute p { list := l.toNat, slot := optField k, source := sourceOf s h, gain := g.toInt,
                          priority := unsignedField pr, duck := d.toNat, shared := sh.toNat, pinned := pn.toNat,
                          present := pz.toNat })
  | 2, sel :: h :: rest => (alterFields sel.toNat rest).map (.alterRoute p (routeHandleOf h))
  | 3, [h] => some (.park p (routeHandleOf h))
  | 4, [h] => some (.unpark p (routeHandleOf h))
  | 5, [h] => some (.retireRoute p (routeHandleOf h))
  | 6, [h] => some (.readRoute p (routeHandleOf h))
  | 7, [h] => some (.clearMarks p (routeHandleOf h))
  | 8, sel :: z :: rest => (zoneFields sel.toNat rest).map (.setZone p z.toNat)
  | 9, [z] => some (.readZone p z.toNat)
  | 10, [z, l] => some (.linkList p z.toNat (optField l))
  | 11, [v] => some (.grantRearControl p v.toNat)
  | 12, [z] => some (.clearZoneRoutes p z.toNat)
  | 13, sel :: rest => mediaFields p sel.toNat rest
  | 14, [] => some (.enterHold p)
  | 15, [] => some (.releaseHold p)
  | _, _ => none

/-- Requests 16 to 31, the stations, reception and announcements. -/
def programmeBody (p : Port) (number : Nat) (ws : List Word) : Option Instr :=
  match number, ws with
  | 16, [h] => some (.readStation p (handleOf h))
  | 17, [n, m] => some (.walkStations p (unsignedField n) m.toNat)
  | 18, [b, ch] => some (.addStation p b.toNat (unsignedField ch))
  | 19, [h] => some (.keep p (handleOf h))
  | 20, [h] => some (.unkeep p (handleOf h))
  | 21, [h] => some (.retireStation p (handleOf h))
  | 22, [h, pr] => some (.setTrafficWatch p (if isNamed h then none else some (handleOf h)) (unsignedField pr))
  | 23, [] => some (.readReception p)
  | 24, [n, t] => some (.startChime p n.toNat (optField t))
  | 25, [h] => some (.cancelAnnouncement p (handleOf h))
  | 26, [t] => some (.startNav p t.toNat)
  | 27, [] => some (.keepNav p)
  | 28, [] => some (.endNav p)
  | 29, sel :: n :: rest => (patternFields sel.toNat rest).map (.setPattern p n.toNat)
  | 30, [n] => some (.readPattern p n.toNat)
  | 31, [] => some (.readAnnouncements p)
  | _, _ => none

/-- Requests 32 to 51, the calls, the ring, the supply and the ports. -/
def partBody (p : Port) (number : Nat) (ws : List Word) : Option Instr :=
  match number, ws with
  | 32, ws => (openFields ws).map (.openCall p)
  | 33, [h] => some (.answer p (handleOf h))
  | 34, [h] => some (.holdCall p (handleOf h))
  | 35, [h] => some (.resume p (handleOf h))
  | 36, [h] => some (.endCall p (handleOf h))
  | 37, [h, z] => some (.setListeners p (handleOf h) z.toNat)
  | 38, sel :: h :: rest => (callFields sel.toNat rest).map (.setCall p (handleOf h))
  | 39, [g] => some (.setUplinkGain p g.toInt)
  | 40, [h, z] => some (.joinCall p (handleOf h) z.toNat)
  | 41, [h, z] => some (.leaveCall p (handleOf h) z.toNat)
  | 42, [h] => some (.readCall p (handleOf h))
  | 43, [] => some (.readRing p)
  | 44, [n] => some (.readNode p n.toNat)
  | 45, [n] => some (.restartNode p n.toNat)
  | 46, [v] => some (.systemMute p v.toNat)
  | 47, [] => some (.expectDip p)
  | 48, [] => some (.readEvents p)
  | 49, [w] => some (.relaySend p w)
  | 50, [] => some (.relayTake p)
  | 51, [] => some (.liteReset p)
  | _, _ => none

/-- The request of a number and a body; none where the number or the length is bad (10 R160). -/
def decodeBody (p : Port) (number : Nat) (ws : List Word) : Option Instr :=
  if number ≤ 15 then directoryBody p number ws
  else if number ≤ 31 then programmeBody p number ws
  else partBody p number ws

/-- The command that the words shifted in after the first word of a transaction spell: none until the
header and all its body words are in; a bad number, length or selection is an unknown request (10 R158,
R160, R167). -/
def decodeFrame (p : Port) : List Word → Option Instr
  | [] => none
  | header :: rest =>
    let number := header.toNat / 256
    let length := header.toNat % 256
    if rest.length < length then none
    else some (if length ≤ 64 then (decodeBody p number (rest.take length)).getD (.unknownRequest p number length)
      else .unknownRequest p number length)

/-- The command that a table word spells: spec/opcode_table.json gives no row any bits, so none. -/
def decodeTableWord (_nbits _w : Nat) : Option Instr := none

end Sys2Proof
end

