-- ==== Sys2Proof/Config.lean ====
section
/-! DEFINITION. What the spec leaves open and no rule fixes: free values, with no body, so that
nothing can be proved of them. -/

namespace Sys2Proof.Config

/-- The echo canceller's estimate of the echo, from its estimate of the path and the reference, at its `n`-th
use: "the manner in which the canceller forms and adapts its estimate of the echo is not given in this manual"
(07 R133; log 7). -/
opaque echoEstimate : Nat → Int → Nat → Int

/-- The estimate of the path as a sample of the reference and of the selected microphone adapts it, at the `n`-th
use (07 R133; log 7). -/
opaque adaptedPath : Nat → Int → Int → Nat → Nat

/-- How the sine of a chime voice of this frequency is rounded at this sample of its on-period: the
spec gives the sine and its peak and no rounding (06 R111; log 8). Only -1, 0 and 1 are used. -/
opaque toneRounding : Nat → Nat → Int

/-- Whether a time remaining that is no whole number of 100 ms units is rounded up (06 R119; log 9). -/
opaque tenthsRoundUp : Nat → Bool

end Sys2Proof.Config
end

