-- ==== Sys2Proof/Machine/Types.lean ====
section
/-! DEFINITION. The records and enumerations that the part's state is made of. -/

namespace Sys2Proof.Machine

/-! ## Levels (02 section 2.1) -/

/-- A level: a whole number of steps of 0.5 dB, or silent, which is a value of its own (02 R24). -/
inductive Level where
  | silent
  | steps (n : Int)
  deriving DecidableEq, Repr

/-! ## Control ports (10) -/

/-- The part state. `held` is power-on reset with the rail below 5.0 V (09 R154); the other three are
those of the status word (10 R159). -/
inductive PartState where
  | held | starting | running | liteReset
  deriving DecidableEq, Repr

/-- The result codes, in the order of their numbers (10 R160, R167). -/
inductive Result where
  | done | accepted | clamped | stale | denied | full | conflict | wrongState | busy | malformed
  deriving DecidableEq, Repr

/-- A response: result code and body words (10 R158). -/
structure Response where
  result : Result
  body : List Word
  deriving DecidableEq, Repr

/-- The kinds of event in the order R162 gives (10 R162). -/
inductive EventKind where
  | route | zone | stations | traffic | announce | call | echo | hold | supply | ring
  | relayIn | relayDone | mute
  deriving DecidableEq, Repr

/-- An event set: for each of the thirteen kinds whether it is present (10 R162). -/
abbrev EventSet := Tab Bool 13

/-! ## The route directory (01) -/

/-- A station handle held in a record (04 R57). -/
structure StationId where
  slot : Fin 40
  gen : Fin 16
  deriving DecidableEq, Repr

/-- A route handle held in a record (01 R6). -/
structure RouteId where
  list : Fin 8
  slot : Fin 6
  gen : Fin 16
  deriving DecidableEq, Repr

/-- An announcement handle held in a record (06 R104). -/
structure EntryId where
  slot : Fin 8
  gen : Fin 16
  deriving DecidableEq, Repr

/-- A call handle held in a record (07 R121). -/
structure CallId where
  slot : Fin 2
  gen : Fin 16
  deriving DecidableEq, Repr

/-- A route's source (01 R6). -/
inductive Source where
  | station (h : StationId)
  | media (n : Fin 4)
  deriving DecidableEq, Repr

inductive DuckClass where
  | duck | mute | ignore
  deriving DecidableEq, Repr

/-- A route's derived state, in the order of 01 R7. -/
inductive RouteState where
  | parked | unlinked | waiting | tuning | silent | playing
  deriving DecidableEq, Repr

/-- A route record (01 R6). Its handle is its list, its slot and the slot's generation. -/
structure RouteRecord where
  present : Bool
  source : Source
  gain : Int
  priority : Nat
  duck : DuckClass
  owner : Port
  shared : Bool
  pinned : Bool
  heard : Bool
  altered : Bool
  state : RouteState
  deriving DecidableEq, Repr

structure RouteSlot where
  gen : Fin 16
  record : Option RouteRecord
  deriving DecidableEq, Repr

/-- A zone entry (01 R1); Z1's rear control is a field of the directory. -/
structure ZoneEntry where
  present : Bool
  list : Option (Fin 8)
  volume : Int
  ceiling : Int
  duckDepth : Int
  callDuckDepth : Int
  traffic : Int
  nav : Int
  chime : Int
  ring : Int
  accept : AcceptSet
  userMute : Bool
  clip : PerPort Bool
  deriving DecidableEq, Repr

/-! ## The station table (04) -/

inductive Band where
  | fm | mw
  deriving DecidableEq, Repr

/-- A frequency: a band and a channel number on its raster (04 R57). -/
structure Freq where
  band : Band
  chan : Nat
  deriving DecidableEq, Repr

inductive StationState where
  | candidate | listed | lost
  deriving DecidableEq, Repr

inductive Origin where
  | scan | added
  deriving DecidableEq, Repr

/-- An alternate frequency, by its FM channel, and its quality or unmeasured (04 R62). -/
structure Alternate where
  chan : Nat
  quality : Option Nat
  deriving DecidableEq, Repr

/-- Two characters of a station name (04 R58). -/
abbrev Segment := BitVec 8 × BitVec 8

/-- A station record (04 R58). Its handle is its slot and the slot's generation. -/
structure Station where
  state : StationState
  freq : Freq
  quality : Nat
  identity : Option Nat
  deferred : Option Nat
  name : Tab (Option Segment) 4
  tp : Option Bool
  ta : Option Bool
  alternates : List Alternate
  miss : Nat
  received : Bool
  isNew : Bool
  refs : Nat
  kept : PerPort Bool
  watched : Bool
  origin : Origin
  deriving DecidableEq, Repr

structure StationSlot where
  gen : Fin 16
  record : Option Station
  deriving DecidableEq, Repr

/-- The watch station and its priority (04 R82). -/
structure Watch where
  station : StationId
  priority : Nat
  deriving DecidableEq, Repr

/-! ## Tuners and programme channels (05) -/

/-- The tuner roles (05 R92). -/
inductive Role where
  | programme | diversity | scan | followCheck | idle
  deriving DecidableEq, Repr

/-- A tuner's acceptance state (04 R70): the identity run (code, and whether it has been received
twice), the accepted code, the characters last received for each segment, and the traffic run (the
flags of the last IDENT group, and whether the group before it agreed). -/
structure Acceptance where
  run : Option (Nat × Bool)
  accepted : Option Nat
  segments : Tab (Option Segment) 4
  traffic : Option ((Bool × Bool) × Bool)
  deriving DecidableEq, Repr

/-- A tuner (05 R87, R92). `tuning` is the 40 ms tuning of a supporting tuner (05 R94). -/
structure Tuner where
  role : Role
  tuned : Option Freq
  smoothed : Option Nat
  tuning : Bool
  acc : Acceptance
  deriving DecidableEq, Repr

/-- What a follow is doing (05 R96 to R99): probing with the borrowed tuner, tuning the borrowed tuner
to the winner, away on an excursion, or serving between excursions. -/
inductive FollowPhase where
  | probing
  | tuningWinner (chan : Nat)
  | away
  | serving
  deriving DecidableEq, Repr

/-- A follow in flight (05 R96). `pos` is the index in the probe list of the frequency being probed or
next to be probed; `endQuality` is the channel quality at the end of the last excursion (05 R99). -/
structure Follow where
  borrows : Bool
  probes : List Nat
  pos : Nat
  measured : List (Nat × Nat)
  phase : FollowPhase
  endQuality : Nat
  deriving DecidableEq, Repr

/-- A programme channel (05). `partner` says that the DIVERSITY tuner is the selected one (05 R95);
`highRun` counts the consecutive measurements of the channel at 70 or above (05 R94); `measured` says
whether a measurement has been made since the last tuning (05 R102). -/
structure ProgChan where
  station : Option StationId
  serving : Option TunerId
  retuning : Bool
  diversity : Bool
  partner : Bool
  highRun : Nat
  quality : Nat
  measured : Bool
  followCount : Nat
  follow : Option Follow
  deriving DecidableEq, Repr

/-! ## Announcements and chimes (06) -/

/-- A chime pattern (06 R112): tone in Hz, periods in cadence ticks. -/
structure Pattern where
  tone : Nat
  on : Nat
  off : Nat
  repeats : Nat
  priority : Nat
  targets : ZoneSet
  deriving DecidableEq, Repr

/-- The kinds of announcement entry with the fields that belong to each (06 R104). -/
inductive EntryKind where
  | chime (pattern : Fin 8)
  | nav
  | traffic (station : StationId) (chan : Chan)
  | ring (call : CallId)
  | waiting (call : CallId)
  deriving DecidableEq, Repr

/-- An announcement entry (06 R104). `timeLeft` is in milliseconds, for NAV and TRAFFIC. -/
structure Entry where
  kind : EntryKind
  priority : Nat
  targets : ZoneSet
  order : Nat
  timeLeft : Nat
  deriving DecidableEq, Repr

structure EntrySlot where
  gen : Fin 16
  entry : Option Entry
  deriving DecidableEq, Repr

/-- Why an entry ended (06 R109). -/
inductive EndReason where
  | completed | requested | timedOut | cleared | uncarried | displaced | call
  deriving DecidableEq, Repr

/-- An end record (06 R109). -/
structure EndRecord where
  entry : EntryId
  kind : EntryKind
  reason : EndReason
  number : Word
  deriving DecidableEq, Repr

/-- Where a voice stands in its cadence (06 R111): waiting for the tick at which its first on-period
begins, in an on-period or an off-period with some ticks left, or past its last cycle. -/
inductive Cadence where
  | waiting
  | on (ticks : Nat)
  | off (ticks : Nat)
  | finished
  deriving DecidableEq, Repr

/-- A voice that holds the entry in a slot (06 R110, R111). `tone` and `offLength` are those taken at
the start of the present on-period; `sample` is the index of the next sample of the on-period. -/
structure Voice where
  slot : Fin 8
  cadence : Cadence
  cycles : Nat
  tone : Nat
  offLength : Nat
  sample : Nat
  deriving DecidableEq, Repr

/-! ## The mix engine and the plans (02, 03) -/

/-- The source of a route contribution (03 R42). -/
inductive PlanSource where
  | chan (c : Chan)
  | media (n : Fin 4)
  deriving DecidableEq, Repr

/-- A route contribution (03 R42). Whether it is departing is which list of the zone holds it.
`audibleSince` says that its level was above silent at the last ramp tick and that its route has been
live and PLAYING ever since (02 R36). -/
structure RouteShare where
  route : RouteId
  orphaned : Bool
  source : PlanSource
  duck : DuckClass
  planned : Level
  current : Level
  settling : Bool
  audibleSince : Bool
  deriving DecidableEq, Repr

/-- The four zone values recorded at a build (03 R42). -/
structure Recorded where
  ceiling : Int
  userMute : Bool
  duckDepth : Int
  callDuckDepth : Int
  deriving DecidableEq, Repr

/-- The kinds of an audible entry (02 R25). -/
inductive AudibleKind where
  | traffic (c : Chan)
  | nav
  | chime
  | ring
  | waiting
  deriving DecidableEq, Repr

/-- The audible entry of a zone: its handle and kind, and for TRAFFIC its channel (02 R25). -/
structure Audible where
  entry : EntryId
  kind : AudibleKind
  deriving DecidableEq, Repr

/-- What an overlay is keyed by (02 R32): the entry's handle and kind, for TRAFFIC with its channel, or the call's
handle. R32 says the handle alone; what becomes of a departing overlay whose handle comes back after 16 endings of its
slot is the model's choice: taken back by an entry of the same kind, left to depart by another (log 50, DESIGN
CHOICE). -/
inductive OverlayKey where
  | entry (a : Audible)
  | call (h : CallId)
  deriving DecidableEq, Repr

/-- An overlay contribution (02 R25). -/
structure Overlay where
  key : OverlayKey
  current : Level
  deriving DecidableEq, Repr

/-- What the mix engine holds for a zone (02 R25): the plan's zone values, its contributions, those
departing (the earliest departed first), and the duck state. -/
structure MixZone where
  recorded : Option Recorded
  routes : List RouteShare
  leaving : List RouteShare
  overlays : List Overlay
  leavingOverlays : List Overlay
  audible : Option Audible
  listened : Option CallId
  deriving DecidableEq, Repr

/-- The Hold states (03 R55). -/
inductive HoldState where
  | running | pending | holding
  deriving DecidableEq, Repr

/-- One contribution computed by a build (03 R43). -/
structure BuiltShare where
  route : RouteId
  orphaned : Bool
  source : PlanSource
  duck : DuckClass
  planned : Level
  deriving DecidableEq, Repr

/-- A build in flight: what it read at its start (03 R43). -/
structure BuildJob where
  zone : Zone
  shares : List BuiltShare
  values : Recorded
  deriving DecidableEq, Repr

/-! ## Calls (07) -/

inductive CallState where
  | ringing | active | held
  deriving DecidableEq, Repr

inductive Talker where
  | driver | passenger | both
  deriving DecidableEq, Repr

/-- A call record (07 R121). -/
structure CallRecord where
  state : CallState
  listeners : ZoneSet
  privacy : Bool
  joinable : Bool
  level : Int
  talker : Talker
  uplinkMute : Bool
  ringUnplayed : Bool
  tone : Option EntryId
  deriving DecidableEq, Repr

structure CallSlot where
  gen : Fin 16
  record : Option CallRecord
  deriving DecidableEq, Repr

/-- The echo canceller states (07 R133). -/
inductive EchoState where
  | idle | converging | tracking | doubleTalk
  deriving DecidableEq, Repr

/-- The echo canceller (07 R133 to R135): its state, its estimate of the path (0 when cleared; any other number
stands for an estimate the spec does not describe, log 7), the run of good blocks of that state, whether the
block in progress is discarded, the samples of that block so far, and the sums over them of the squares
of the selected microphone signal and of the residual. -/
structure Canceller where
  state : EchoState
  path : Nat
  run : Nat
  discard : Bool
  samples : Nat
  micSquares : Nat
  residualSquares : Nat
  deriving DecidableEq, Repr

/-! ## The speaker ring (08) -/

inductive RingState where
  | down | locking | up
  deriving DecidableEq, Repr

inductive NodeState where
  | absent | discovered | exchanging | configuring | running | fault
  deriving DecidableEq, Repr

inductive NodeFault where
  | exchange | refused | reported
  deriving DecidableEq, Repr

/-- What the controller has sent a position in the control slot and awaits an answer to (08 R138, R140 to R143): a
discovery poll, the ability request, a configuration page, or the final page. -/
inductive NodeMessage where
  | poll
  | abilityRequest
  | configPage (channel : Nat)
  | finalPage
  deriving DecidableEq, Repr

/-- The sticky flags of a node record (08 R139). -/
structure Sticky where
  linkLost : Bool
  overTemperature : Bool
  outputShort : Bool
  nodeSupply : Bool
  deriving DecidableEq, Repr

/-- A node record (08 R139), with the message sent to the position that awaits its answer, the toggle last echoed
to it in acknowledgement of a page of its present exchange (08 R141), and the configuration pages worked out for
it: for each node channel the zone channel named, or unused (08 R143). -/
structure Node where
  state : NodeState
  kind : Option NodeKind
  channels : Option Nat
  levelClass : Option (Fin 8)
  pages : Nat
  toggle : Bool
  retry : Nat
  fault : Option NodeFault
  corrupt : Nat
  sticky : Sticky
  sent : Option NodeMessage
  echoed : Option Bool
  config : List (Option ZoneChan)
  deriving DecidableEq, Repr

inductive PlaceStatus where
  | unplaced | pending | carried
  deriving DecidableEq, Repr

/-- An entry of the placement table (08 R143). -/
structure Placement where
  entry : Option (Nat × Nat)
  status : PlaceStatus
  deriving DecidableEq, Repr

/-- The drive causes of the system mute line (08 R146). -/
structure DriveCauses where
  supply : Bool
  request : Bool
  liteReset : Bool
  deriving DecidableEq, Repr

/-! ## Supply (09) -/

inductive SupplyState where
  | normal | dip | settle | recover | low
  deriving DecidableEq, Repr

end Sys2Proof.Machine
end

