-- ==== Sys2Proof/Machine/Defaults.lean ====
section
/-! DEFINITION. The values that power-on reset and the built-in tables give. -/

namespace Sys2Proof.Machine

def emptyEvents : EventSet := Tab.fill 13 false

/-- The built-in image values of a loudspeaker or headphone zone (09 R156). -/
def builtInZone (abs dflt traffic nav chime ring : Int) (accept : Bool) : ZoneImage where
  absoluteCeiling := abs
  defaultCeiling := dflt
  duckDepth := -24
  callDuckDepth := -40
  traffic := traffic
  nav := nav
  chime := chime
  ring := ring
  accept := ⟨accept, accept, accept⟩

/-- The built-in defaults of the calibration image (09 R156). -/
def builtInImage : Image where
  zones :=
    { z0 := builtInZone 0 (-6) (-20) (-20) (-24) (-20) true
      z1 := builtInZone 0 (-6) (-20) (-20) (-24) (-20) true
      z2 := builtInZone (-12) (-20) (-24) (-24) (-28) (-24) true
      z3 := builtInZone (-24) (-40) (-40) (-40) (-44) (-40) false
      z4 := builtInZone (-24) (-40) (-40) (-40) (-44) (-40) false }
  map := ⟨[some (0, 0), some (0, 1), some (0, 2), some (0, 3),
           some (1, 0), some (1, 1), some (1, 2), some (1, 3),
           some (2, 0), some (2, 1),
           some (3, 0), some (3, 1), some (3, 2), some (3, 3)], rfl⟩
  antenna := ⟨0, 0⟩
  driverTrim := 0
  passengerTrim := 0

/-- The list a zone links after power-on reset (01 R1). -/
def resetList : Zone → Option (Fin 8)
  | .z0 => some 0
  | .z1 => some 0
  | _ => none

/-- A zone entry at its power-on value, the image-sourced fields taken from an image copy (01 R1, R23). -/
def resetZone (img : Image) (z : Zone) : ZoneEntry where
  present := true
  list := resetList z
  volume := -60
  ceiling := min (img.zones.get z).defaultCeiling (img.zones.get z).absoluteCeiling
  duckDepth := (img.zones.get z).duckDepth
  callDuckDepth := (img.zones.get z).callDuckDepth
  traffic := (img.zones.get z).traffic
  nav := (img.zones.get z).nav
  chime := (img.zones.get z).chime
  ring := (img.zones.get z).ring
  accept := (img.zones.get z).accept
  userMute := false
  clip := PerPort.both false

def resetZones (img : Image) : PerZone ZoneEntry := PerZone.build (resetZone img)

/-- The built-in chime patterns (06 R112). -/
def builtInPatterns : Tab Pattern 8 :=
  ⟨[{ tone := 1000, on := 5, off := 0, repeats := 1, priority := 2, targets := ZoneSet.of [.z0, .z1, .z2] },
    { tone := 1500, on := 10, off := 10, repeats := 2, priority := 2, targets := ZoneSet.of [.z0, .z2] },
    { tone := 700, on := 20, off := 20, repeats := 3, priority := 3, targets := ZoneSet.of [.z0, .z2] },
    { tone := 2000, on := 10, off := 5, repeats := 5, priority := 5, targets := ZoneSet.of [.z0, .z1, .z2] },
    { tone := 2500, on := 25, off := 25, repeats := 0, priority := 6, targets := ZoneSet.of [.z0, .z2] },
    { tone := 3000, on := 5, off := 5, repeats := 0, priority := 7, targets := ZoneSet.of Zone.all },
    { tone := 440, on := 20, off := 100, repeats := 0, priority := 6, targets := ZoneSet.of [.z2] },
    { tone := 800, on := 100, off := 100, repeats := 0, priority := 6, targets := ZoneSet.of [.z0, .z2] }], rfl⟩

def emptyAcceptance : Acceptance where
  run := none
  accepted := none
  segments := Tab.fill 4 none
  traffic := none

/-- A tuner that is IDLE and untuned (05 R103). -/
def idleTuner : Tuner where
  role := .idle
  tuned := none
  smoothed := none
  tuning := false
  acc := emptyAcceptance

/-- A programme channel that carries no station (05 R103). -/
def freeChan : ProgChan where
  station := none
  serving := none
  retuning := false
  diversity := false
  partner := false
  highRun := 0
  quality := 0
  measured := false
  followCount := 0
  follow := none

/-- A zone of the mix engine with nothing in it (02 R41). -/
def emptyMixZone : MixZone where
  recorded := none
  routes := []
  leaving := []
  overlays := []
  leavingOverlays := []
  audible := none
  listened := none

/-- The canceller in IDLE (07 R133, R137). -/
def idleCanceller : Canceller where
  state := .idle
  path := 0
  run := 0
  discard := false
  samples := 0
  micSquares := 0
  residualSquares := 0

/-- A node record after power-on reset (08 R139). -/
def absentNode : Node where
  state := .absent
  kind := none
  channels := none
  levelClass := none
  pages := 0
  toggle := false
  retry := 0
  fault := none
  corrupt := 0
  sticky := ⟨false, false, false, false⟩
  sent := none
  echoed := none
  config := []

/-- The placement table after power-on reset (08 R143). -/
def resetPlacement (img : Image) : Tab Placement 14 :=
  img.map.map fun e =>
    { entry := e, status := match e with | none => PlaceStatus.unplaced | some _ => PlaceStatus.pending }

/-- The first channel of a pass (04 R63). -/
def firstFreq : Freq := ⟨.fm, 0⟩

end Sys2Proof.Machine
end

