-- ==== Sys2Proof/Machine/State.lean ====
section
/-! DEFINITION. The part's state: one structure for each block, State.reset, and the reasons a step
can stop. -/

namespace Sys2Proof.Machine

/-- The control ports (10). `relay` holds each port's outgoing slot; `status` the captured status word;
`response` the last response of each port, until the port is selected again (log 28). -/
structure Ports where
  part : PartState
  events : PerPort EventSet
  relay : PerPort (Option Word)
  liteNumber : Word
  status : PerPort Word
  response : PerPort (Option Response)
  deriving DecidableEq, Repr

/-- The route directory (01). -/
structure Directory where
  zones : PerZone ZoneEntry
  rearControl : Bool
  lists : Tab (Tab RouteSlot 6) 8
  media : Tab Bool 4
  deriving DecidableEq, Repr

/-- The mix engine (02). `channels` holds the last sample of each zone channel. -/
structure Mix where
  zones : PerZone MixZone
  channels : Tab Int 14
  deriving DecidableEq, Repr

/-- The plan builder (03). -/
structure Builder where
  hold : HoldState
  stale : PerZone Bool
  position : Zone
  job : Option BuildJob
  deriving DecidableEq, Repr

/-- The station table and the scan (04). `dwell` is the raw quality of the channel whose identity dwell
is in progress. -/
structure StationTable where
  slots : Tab StationSlot 40
  watch : Option Watch
  position : Freq
  dwell : Option Nat
  tableFull : Bool
  cursor : PerPort (Option Freq)
  deriving DecidableEq, Repr

/-- The tuner allocator (05). `stopped` is the stopping of the tuners in supply LOW (05 R101). -/
structure Allocator where
  tuners : PerTuner Tuner
  chans : PerChan ProgChan
  stopped : Bool
  deriving DecidableEq, Repr

/-- The announcement queue and the chime generator (06). `order` is the queued order next given. -/
structure Queue where
  slots : Tab EntrySlot 8
  order : Nat
  ends : List EndRecord
  endNumber : Word
  ignored : List StationId
  patterns : Tab Pattern 8
  voices : Tab (Option Voice) 2
  deriving DecidableEq, Repr

/-- The call controller, the echo canceller and the uplink (07). -/
structure Calls where
  slots : Tab CallSlot 2
  canceller : Canceller
  uplinkGain : Int
  uplinkLevel : Int
  phoneUl : Int
  deriving DecidableEq, Repr

/-- The blocks that make the sound: everything but the ring and the supply. -/
structure Cabin where
  ports : Ports
  dir : Directory
  mix : Mix
  builder : Builder
  table : StationTable
  alloc : Allocator
  queue : Queue
  calls : Calls
  deriving DecidableEq, Repr

/-- The ring controller (08). `frame` holds the sample that the last frame carried for each channel of each node, or
none (08 R138). -/
structure Ring where
  state : RingState
  goodFrames : Nat
  badFrames : Nat
  nodes : Tab Node 6
  placement : Tab Placement 14
  frame : Tab (Tab (Option Int) 8) 6
  drive : DriveCauses
  lineSeen : Bool
  externalMute : Bool
  deriving DecidableEq, Repr

/-- The supply monitor and the calibration loader (09). `crank` is the crank offset c. -/
structure Supply where
  state : SupplyState
  previous : Option Nat
  crank : Int
  window : Bool
  afterLow : Bool
  image : Image
  imageAbsent : Bool
  deriving DecidableEq, Repr

/-- The whole part, with the model's own counter of free values and the queue of waiting commands. -/
structure State where
  cab : Cabin
  ring : Ring
  supply : Supply
  free : Nat
  pending : List Instr
  deriving DecidableEq, Repr

/-- Why the part stops. No constructor: no rule of the spec lets a command stop the part. -/
inductive Fault where
  deriving DecidableEq, Repr

/-- Why a command has no meaning. -/
inductive Refusal where
  /-- Raised only by an arm of `exec` whose command has no meaning yet; safe, since nothing is claimed
  of such a command. No arm is left that raises it. -/
  | notModelled (mnemonic : String)
  deriving DecidableEq, Repr

/-- What a step answers. -/
abbrev Outcome := Host.Outcome State Fault Refusal

/-! ## Power-on reset, block by block -/

/-- 10 R162 to R165, 09 R154: the part is held, its sets and relay slots are empty. -/
def Ports.reset : Ports where
  part := .held
  events := PerPort.both emptyEvents
  relay := PerPort.both none
  liteNumber := 0
  status := PerPort.both 0
  response := PerPort.both none

/-- 01 R1, R6, R22. -/
def Directory.reset : Directory where
  zones := resetZones builtInImage
  rearControl := false
  lists := Tab.fill 8 (Tab.fill 6 ⟨0, none⟩)
  media := Tab.fill 4 false

/-- 02 R25, R41. -/
def Mix.reset : Mix where
  zones := PerZone.fill emptyMixZone
  channels := Tab.fill 14 0

/-- 03 R56. -/
def Builder.reset : Builder where
  hold := .running
  stale := PerZone.fill false
  position := .z4
  job := none

/-- 04 R85. -/
def StationTable.reset : StationTable where
  slots := Tab.fill 40 ⟨0, none⟩
  watch := none
  position := firstFreq
  dwell := none
  tableFull := false
  cursor := PerPort.both none

/-- 05 R103. -/
def Allocator.reset : Allocator where
  tuners := ⟨idleTuner, idleTuner⟩
  chans := ⟨freeChan, freeChan⟩
  stopped := false

/-- 06 R104, R109, R112, R117, R120. -/
def Queue.reset : Queue where
  slots := Tab.fill 8 ⟨0, none⟩
  order := 1
  ends := []
  endNumber := 0
  ignored := []
  patterns := builtInPatterns
  voices := Tab.fill 2 none

/-- 07 R121, R132, R137. -/
def Calls.reset : Calls where
  slots := Tab.fill 2 ⟨0, none⟩
  canceller := idleCanceller
  uplinkGain := 0
  uplinkLevel := 0
  phoneUl := 0

def Cabin.reset : Cabin where
  ports := Ports.reset
  dir := Directory.reset
  mix := Mix.reset
  builder := Builder.reset
  table := StationTable.reset
  alloc := Allocator.reset
  queue := Queue.reset
  calls := Calls.reset

/-- 08 R138, R139, R143, R149. -/
def Ring.reset : Ring where
  state := .down
  goodFrames := 0
  badFrames := 0
  nodes := Tab.fill 6 absentNode
  placement := resetPlacement builtInImage
  frame := Tab.fill 6 (Tab.fill 8 none)
  drive := ⟨false, false, false⟩
  lineSeen := false
  externalMute := false

/-- 09 R153 to R156. -/
def Supply.reset : Supply where
  state := .normal
  previous := none
  crank := 0
  window := false
  afterLow := false
  image := builtInImage
  imageAbsent := false

/-- The part right after power-on reset, held until the rail reaches 5.0 V (09 R154). -/
def State.reset : State where
  cab := Cabin.reset
  ring := Ring.reset
  supply := Supply.reset
  free := 0
  pending := []

end Sys2Proof.Machine
end

