-- ==== Sys2Proof/Machine/Ops.lean ====
section
/-! DEFINITION. The named operations over the part's blocks: reading and writing records, posting
events, answering requests. -/

namespace Sys2Proof.Machine

/-! ## Events (10 section 10.4) -/

/-- The bit of a kind in the event set (10 R167). -/
def EventKind.idx : EventKind → Fin 13
  | .route => 0 | .zone => 1 | .stations => 2 | .traffic => 3 | .announce => 4 | .call => 5
  | .echo => 6 | .hold => 7 | .supply => 8 | .ring => 9 | .relayIn => 10 | .relayDone => 11 | .mute => 12

def EventSet.has (e : EventSet) (k : EventKind) : Bool := e.get k.idx

/-- The part is out of reset and past STARTING, so blocks post events (10 R162). -/
def PartState.posts : PartState → Bool
  | .running => true
  | .liteReset => true
  | .held => false
  | .starting => false

/-- Post a kind of event to a port (10 R162). -/
def post (p : Port) (k : EventKind) (c : Cabin) : Cabin :=
  if c.ports.part.posts then
    { c with ports := { c.ports with events := c.ports.events.set p ((c.ports.events.get p).set k.idx true) } }
  else c

/-- Post a kind of event to both ports. -/
def postBoth (k : EventKind) (c : Cabin) : Cabin := post .rear k (post .front k c)

def postIf (b : Bool) (p : Port) (k : EventKind) (c : Cabin) : Cabin := if b then post p k c else c

/-- The attention line of a port: asserted while its event set is not empty (10 R162). -/
def attention (c : Cabin) (p : Port) : Bool := decide (c.ports.events.get p ≠ emptyEvents)

/-! ## Answering requests (10 R158, R160, R161) -/

/-- Put a response on a port (10 R158). -/
def respond (p : Port) (r : Result) (body : List Word) (c : Cabin) : Cabin :=
  { c with ports := { c.ports with response := c.ports.response.set p (some ⟨r, body⟩) } }

/-- Refuse a request: nothing changes and the response body is empty (10 R160). -/
def refuse (p : Port) (r : Result) (c : Cabin) : Cabin := respond p r [] c

/-- DONE, or CLAMPED when a number was limited (10 R160). -/
def doneOr (clamped : Bool) : Result := if clamped then .clamped else .done

/-- Apply an operation of the cabin blocks. -/
def State.onCab (f : Cabin → Cabin) (s : State) : State := { s with cab := f s.cab }

/-- Take a request: held in reset the ports take none, and while the part is STARTING or carrying out
a lite reset each is answered BUSY before any other check (10 R161). -/
def takeRequest (p : Port) (k : State → State) (s : State) : State :=
  match s.cab.ports.part with
  | .held => s
  | .starting => s.onCab (refuse p .busy)
  | .liteReset => s.onCab (refuse p .busy)
  | .running => k s

/-- A request that only acts on the cabin blocks. -/
def cabRequest (p : Port) (k : Cabin → Cabin) (s : State) : State := takeRequest p (State.onCab k) s

/-! ## Zones and route slots (01) -/

def Cabin.zone (c : Cabin) (z : Zone) : ZoneEntry := c.dir.zones.get z

def setZoneEntry (z : Zone) (e : ZoneEntry) (c : Cabin) : Cabin :=
  { c with dir := { c.dir with zones := c.dir.zones.set z e } }

def Cabin.route (c : Cabin) (l : Fin 8) (k : Fin 6) : RouteSlot := (c.dir.lists.get l).get k

def setRouteSlot (l : Fin 8) (k : Fin 6) (r : RouteSlot) (c : Cabin) : Cabin :=
  { c with dir := { c.dir with lists := c.dir.lists.set l ((c.dir.lists.get l).set k r) } }

/-- Replace the record in an occupied slot. -/
def setRouteRecord (l : Fin 8) (k : Fin 6) (r : RouteRecord) (c : Cabin) : Cabin :=
  setRouteSlot l k { c.route l k with record := some r } c

/-- Every route slot in list and slot order. -/
def routeKeys : List (Fin 8 × Fin 6) :=
  (List.finRange 8).flatMap fun l => (List.finRange 6).map fun k => (l, k)

/-- The record a route handle names, if it is live (01 R6). -/
def Cabin.liveRoute (c : Cabin) (h : RouteId) : Option RouteRecord :=
  if (c.route h.list h.slot).gen = h.gen then (c.route h.list h.slot).record else none

/-- Z3 and Z4 always, Z1 while its rear control is yes, Z0 and Z2 never (01 R4). -/
def rearChangeable (c : Cabin) : Zone → Bool
  | .z0 => false
  | .z1 => c.dir.rearControl
  | .z2 => false
  | .z3 => true
  | .z4 => true

def links (c : Cabin) (l : Fin 8) (z : Zone) : Bool := decide ((c.zone z).list = some l)

/-- Every zone whose list field names the list, present or not, is rear-changeable (01 R11). -/
def rearMayChangeList (c : Cabin) (l : Fin 8) : Bool :=
  Zone.all.all fun z => !links c l z || rearChangeable c z

/-- The access rule on a route record (01 R11). -/
def mayChangeRoute (c : Cabin) (p : Port) (l : Fin 8) (r : RouteRecord) : Bool :=
  match p with
  | .front => true
  | .rear => (decide (r.owner = .rear) || r.shared) && rearMayChangeList c l

/-- The access rule on a zone entry (01 R11). -/
def mayChangeZone (c : Cabin) (p : Port) (z : Zone) : Bool :=
  match p with
  | .front => true
  | .rear => rearChangeable c z

/-- The list is linked by at least one present zone (01 R7, 05 R88). -/
def linkedByPresent (c : Cabin) (l : Fin 8) : Bool :=
  Zone.all.any fun z => (c.zone z).present && links c l z

/-- Another present route of the list names this source (01 R12); `self` is the slot left out. -/
def duplicateIn (c : Cabin) (l : Fin 8) (self : Option (Fin 6)) (src : Source) : Bool :=
  (List.finRange 6).any fun k =>
    decide (some k ≠ self) &&
      match (c.route l k).record with
      | none => false
      | some r => r.present && decide (r.source = src)

/-- The list holds a present route naming this source. -/
def listNames (c : Cabin) (l : Fin 8) (src : Source) : Bool := duplicateIn c l none src

/-! ## Stale zones (03 R44) -/

def markStale (z : Zone) (c : Cabin) : Cabin :=
  { c with builder := { c.builder with stale := c.builder.stale.set z true } }

/-- Mark stale the zones for which `p` holds. -/
def markStaleWhere (p : Zone → Bool) (c : Cabin) : Cabin :=
  { c with builder := { c.builder with stale := PerZone.build fun z => p z || c.builder.stale.get z } }

/-- Every zone whose list field names the list (03 R44). -/
def markListStale (l : Fin 8) (c : Cabin) : Cabin := markStaleWhere (links c l) c

def markAllStale (c : Cabin) : Cabin := markStaleWhere (fun _ => true) c

/-- Every zone whose linked list holds a present route naming the station (03 R44). -/
def markStationStale (h : StationId) (c : Cabin) : Cabin :=
  markStaleWhere (fun z => match (c.zone z).list with
    | none => false
    | some l => listNames c l (.station h)) c

/-! ## Station records (04) -/

def Cabin.stationSlot (c : Cabin) (i : Fin 40) : StationSlot := c.table.slots.get i

/-- The live record of a station handle (04 R57). -/
def Cabin.station (c : Cabin) (h : StationId) : Option Station :=
  if (c.stationSlot h.slot).gen = h.gen then (c.stationSlot h.slot).record else none

def setStationSlot (i : Fin 40) (r : StationSlot) (c : Cabin) : Cabin :=
  { c with table := { c.table with slots := c.table.slots.set i r } }

/-- Change the record in a station slot, if it holds one. -/
def modifyStation (i : Fin 40) (f : Station → Station) (c : Cabin) : Cabin :=
  match (c.stationSlot i).record with
  | none => c
  | some r => setStationSlot i { c.stationSlot i with record := some (f r) } c

/-- The handle of the record in a slot. -/
def Cabin.stationId (c : Cabin) (i : Fin 40) : StationId := ⟨i, (c.stationSlot i).gen⟩

/-- The first live record for which `p` holds. -/
def findStation (c : Cabin) (p : Station → Bool) : Option (Fin 40) :=
  firstIdx fun i => match (c.stationSlot i).record with
    | none => false
    | some r => p r

def stationAtFreq (c : Cabin) (f : Freq) : Option (Fin 40) := findStation c fun r => decide (r.freq = f)

/-- A live record other than that of slot `i` has this identity. -/
def otherWithIdentity (c : Cabin) (i : Fin 40) (code : Nat) : Option (Fin 40) :=
  firstIdx fun j => decide (j ≠ i) && match (c.stationSlot j).record with
    | none => false
    | some r => decide (r.identity = some code)

/-- A live record other than that of slot `i` has this frequency. -/
def otherAtFreq (c : Cabin) (i : Fin 40) (f : Freq) : Bool :=
  (firstIdx fun j => decide (j ≠ i) && match (c.stationSlot j).record with
    | none => false
    | some r => decide (r.freq = f)).isSome

/-- Change the record that a station handle names, if it is live (04 R57). -/
def modifyLive (h : StationId) (f : Station → Station) (c : Cabin) : Cabin :=
  if (c.stationSlot h.slot).gen = h.gen then modifyStation h.slot f c else c

/-- The station a source names gains a reference (01 R13). -/
def addRef (src : Source) (c : Cabin) : Cabin :=
  match src with
  | .station h => modifyLive h (fun r => { r with refs := r.refs + 1 }) c
  | .media _ => c

/-- The station a source names loses a reference (01 R13). -/
def dropRef (src : Source) (c : Cabin) : Cabin :=
  match src with
  | .station h => modifyLive h (fun r => { r with refs := r.refs - 1 }) c
  | .media _ => c

/-! ## Programme channels (05) -/

def Cabin.chan (c : Cabin) (x : Chan) : ProgChan := c.alloc.chans.get x

def setChan (x : Chan) (v : ProgChan) (c : Cabin) : Cabin :=
  { c with alloc := { c.alloc with chans := c.alloc.chans.set x v } }

def Cabin.tuner (c : Cabin) (t : TunerId) : Tuner := c.alloc.tuners.get t

def setTuner (t : TunerId) (v : Tuner) (c : Cabin) : Cabin :=
  { c with alloc := { c.alloc with tuners := c.alloc.tuners.set t v } }

/-- The programme channel that carries the station (05 R89). -/
def chanOf (c : Cabin) (h : StationId) : Option Chan :=
  if (c.chan .pc0).station = some h then some .pc0
  else if (c.chan .pc1).station = some h then some .pc1
  else none

/-- Carried: assigned to a programme channel (04 R60). -/
def carried (c : Cabin) (h : StationId) : Bool := (chanOf c h).isSome

/-- Held (04 R60): referenced, kept by either port, watched or carried. -/
def held (c : Cabin) (i : Fin 40) : Bool :=
  match (c.stationSlot i).record with
  | none => false
  | some r => decide (0 < r.refs) || r.kept.front || r.kept.rear || r.watched || carried c (c.stationId i)

/-- The serving tuner is on an excursion of a self-probe (05 R99). -/
def selfProbing (v : ProgChan) : Bool :=
  match v.follow with
  | none => false
  | some f => decide (f.phase = .away)

/-- The tuner serving the channel is retuning or self-probing (01 R7). -/
def tunerAway (c : Cabin) (x : Chan) : Bool := (c.chan x).retuning || selfProbing (c.chan x)

/-- The tuner whose output the channel uses (05 R87). -/
def selectedTuner (v : ProgChan) : Option TunerId :=
  v.serving.map fun t => if v.partner then t.other else t

/-- The channel whose serving tuner this is. -/
def servedBy (c : Cabin) (t : TunerId) : Option Chan :=
  if (c.chan .pc0).serving = some t then some .pc0
  else if (c.chan .pc1).serving = some t then some .pc1
  else none

/-! ## Announcement entries and calls (06, 07) -/

def Cabin.entrySlot (c : Cabin) (i : Fin 8) : EntrySlot := c.queue.slots.get i

def setEntrySlot (i : Fin 8) (e : EntrySlot) (c : Cabin) : Cabin :=
  { c with queue := { c.queue with slots := c.queue.slots.set i e } }

/-- Change the entry in a slot, if it holds one. -/
def modifyEntry (i : Fin 8) (f : Entry → Entry) (c : Cabin) : Cabin :=
  match (c.entrySlot i).entry with
  | none => c
  | some e => setEntrySlot i { c.entrySlot i with entry := some (f e) } c

def Cabin.entryId (c : Cabin) (i : Fin 8) : EntryId := ⟨i, (c.entrySlot i).gen⟩

/-- The first slot whose entry satisfies `p`. -/
def findEntry (c : Cabin) (p : Entry → Bool) : Option (Fin 8) :=
  firstIdx fun i => match (c.entrySlot i).entry with
    | none => false
    | some e => p e

def Cabin.callSlot (c : Cabin) (i : Fin 2) : CallSlot := c.calls.slots.get i

def Cabin.callId (c : Cabin) (i : Fin 2) : CallId := ⟨i, (c.callSlot i).gen⟩

def setCallSlot (i : Fin 2) (v : CallSlot) (c : Cabin) : Cabin :=
  { c with calls := { c.calls with slots := c.calls.slots.set i v } }

def otherCall (i : Fin 2) : Fin 2 := if i = 0 then 1 else 0

/-- Z2 alone while privacy is yes, else the listeners (07 R122). -/
def effectiveListeners (r : CallRecord) : ZoneSet := if r.privacy then ZoneSet.of [.z2] else r.listeners

/-- The effective listeners hold a zone that is rear-changeable now (07 R122). -/
def hasRearListeners (c : Cabin) (r : CallRecord) : Bool :=
  Zone.all.any fun z => (effectiveListeners r).get z && rearChangeable c z

/-- The call concerns the rear: it is joinable or has rear listeners (07 R130). -/
def concernsRear (c : Cabin) (r : Option CallRecord) : Bool :=
  match r with
  | none => false
  | some r => r.joinable || hasRearListeners c r

/-- Write a call slot; if it changes, post CALL to the front port, and to the rear port when the call
concerns the rear before or after the change (07 R130). -/
def putCall (i : Fin 2) (v : CallSlot) (c : Cabin) : Cabin :=
  if (c.callSlot i) = v then c
  else
    postIf (concernsRear c (c.callSlot i).record || concernsRear c v.record) .rear .call
      (post .front .call (setCallSlot i v c))

/-- Change the record in a call slot, if it holds one. -/
def modifyCall (i : Fin 2) (f : CallRecord → CallRecord) (c : Cabin) : Cabin :=
  match (c.callSlot i).record with
  | none => c
  | some r => putCall i { c.callSlot i with record := some (f r) } c

/-- The state of the call in a slot, if any. -/
def callState (c : Cabin) (i : Fin 2) : Option CallState := (c.callSlot i).record.map (·.state)

/-- The slot of the ACTIVE call. -/
def activeCall (c : Cabin) : Option (Fin 2) := firstIdx fun i => decide (callState c i = some .active)

/-! ## Mix zones (02) -/

def Cabin.mixZone (c : Cabin) (z : Zone) : MixZone := c.mix.zones.get z

def setMixZone (z : Zone) (m : MixZone) (c : Cabin) : Cabin :=
  { c with mix := { c.mix with zones := c.mix.zones.set z m } }

/-- Apply `f` to what the mix engine holds for each zone. -/
def mapMixZones (f : Zone → MixZone → MixZone) (c : Cabin) : Cabin :=
  { c with mix := { c.mix with zones := PerZone.build fun z => f z (c.mixZone z) } }

/-- Apply `f` to every route contribution of every zone, in its plan or departing. -/
def mapShares (f : RouteShare → RouteShare) (c : Cabin) : Cabin :=
  mapMixZones (fun _ m => { m with routes := m.routes.map f, leaving := m.leaving.map f }) c

end Sys2Proof.Machine
end

