-- ==== Sys2Proof/Machine/Operands.lean ====
section
/-! DEFINITION. The operand forms of requests: numbers that are limited, numbers and enumerations that
are refused as malformed, handles (00 "Numbers out of range", 01 R14, 10 R160, R167). -/

namespace Sys2Proof.Machine

/-! ## Limited numbers -/

/-- The nearest end of the range (00, "Numbers out of range"). -/
def limit (lo hi v : Int) : Int := max lo (min hi v)

/-- Limiting changed the number. -/
def limited (lo hi v : Int) : Bool := decide (limit lo hi v ≠ v)

/-- A selected field was limited. -/
def optLimited (lo hi : Int) : Option Int → Bool
  | none => false
  | some v => limited lo hi v

/-- The value a selected field takes, or the old one. -/
def optLimit (lo hi : Int) (old : Int) : Option Int → Int
  | none => old
  | some v => limit lo hi v

def optLimitNat (lo hi : Int) (old : Nat) : Option Int → Nat
  | none => old
  | some v => (limit lo hi v).toNat

/-! ## Numbers that name things, and enumerations -/

def finOf? (n k : Nat) : Option (Fin n) := if h : k < n then some ⟨k, h⟩ else none

/-- yes is 1 and no is 0 (10 R167). -/
def yesNo? : Nat → Option Bool
  | 0 => some false
  | 1 => some true
  | _ => none

/-- An enumeration of two values, numbered 0 and 1 in the order its rule lists them (10 R167); `true`
is the first: grant of grant or revoke, open of open or closed, on of on or off, FROM-START of
FROM-START and CONTINUE. -/
def firstOfTwo? : Nat → Option Bool
  | 0 => some true
  | 1 => some false
  | _ => none

/-- DUCK 0, MUTE 1, IGNORE 2 (10 R167). -/
def duckClass? : Nat → Option DuckClass
  | 0 => some .duck
  | 1 => some .mute
  | 2 => some .ignore
  | _ => none

/-- FM 0, MW 1 (10 R167). -/
def band? : Nat → Option Band
  | 0 => some .fm
  | 1 => some .mw
  | _ => none

/-- DRIVER 0, PASSENGER 1, BOTH 2 (10 R167). -/
def talker? : Nat → Option Talker
  | 0 => some .driver
  | 1 => some .passenger
  | 2 => some .both
  | _ => none

/-- A set of zones has bit n set for zone Zn; a bit above Z4 names no zone (10 R167). -/
def zoneSet? (mask : Nat) : Option ZoneSet :=
  if mask < 32 then some (PerZone.build fun z => mask.testBit z.toNat) else none

/-- A set of the kinds traffic, nav and chime, bits 0 to 2 (log 12). -/
def acceptSet? (mask : Nat) : Option AcceptSet :=
  if mask < 8 then some ⟨mask.testBit 0, mask.testBit 1, mask.testBit 2⟩ else none

/-- A selected field has a meaning (it is absent, or its reading succeeds). -/
def optOk {α : Type} (f : Nat → Option α) : Option Nat → Bool
  | none => true
  | some v => (f v).isSome

/-- The value a selected enumeration takes, or the old one. -/
def optRead {α : Type} (f : Nat → Option α) (old : α) : Option Nat → α
  | none => old
  | some v => (f v).getD old

/-! ## Handles -/

/-- The slot a route handle names; none where list or slot lies outside its range (01 R6). -/
def routeKey? (h : Handle) : Option (Fin 8 × Fin 6) :=
  match finOf? 8 h.list, finOf? 6 h.slot with
  | some l, some k => some (l, k)
  | _, _ => none

/-- The record of a slot whose generation is the handle's (01 R6); none is STALE. -/
def routeOf (c : Cabin) (l : Fin 8) (k : Fin 6) (h : Handle) : Option RouteRecord :=
  if (c.route l k).gen.val = h.gen then (c.route l k).record else none

def stationOf (c : Cabin) (i : Fin 40) (h : Handle) : Option Station :=
  if (c.stationSlot i).gen.val = h.gen then (c.stationSlot i).record else none

def entryOf (c : Cabin) (i : Fin 8) (h : Handle) : Option Entry :=
  if (c.entrySlot i).gen.val = h.gen then (c.entrySlot i).entry else none

def callOf (c : Cabin) (i : Fin 2) (h : Handle) : Option CallRecord :=
  if (c.callSlot i).gen.val = h.gen then (c.callSlot i).record else none

/-! ## Sources -/

/-- A source that names a slot or a medium, its handle not yet checked. -/
inductive AskedSource where
  | station (i : Fin 40) (h : Handle)
  | media (n : Fin 4)
  deriving DecidableEq, Repr

/-- Source kind and MEDIA number within range (01 R14, check 1). The medium byte of a STATION source and the station
handle of a MEDIA source are not looked at (log 12). -/
def askedSource? (r : RawSource) : Option AskedSource :=
  match r.kind with
  | 0 => (finOf? 40 r.station.slot).map fun i => .station i r.station
  | 1 => (finOf? 4 r.medium).map .media
  | _ => none

/-- The source, if its station handle is live (01 R14, check 2); none is STALE. -/
def resolveSource (c : Cabin) : AskedSource → Option Source
  | .station i h => (stationOf c i h).map fun _ => .station (c.stationId i)
  | .media n => some (.media n)

/-- A selected source is well formed. -/
def optSourceOk : Option RawSource → Bool
  | none => true
  | some r => (askedSource? r).isSome

/-- The source a selection gives, the old one where none is selected; none is STALE. -/
def optSource (c : Cabin) (old : Source) : Option RawSource → Option Source
  | none => some old
  | some r => (askedSource? r).bind (resolveSource c)

end Sys2Proof.Machine
end

