-- ==== Sys2Proof/Machine/Levels.lean ====
section
/-! DEFINITION. Level arithmetic, ramps, factors and scaled samples (02 sections 2.1, 2.6, 2.7). -/

namespace Sys2Proof.Machine

/-- A sum of steps, silent below -192 (02 R24). -/
def Level.ofSum (n : Int) : Level := if n < -192 then .silent else .steps n

/-- A sum with an offset; silent stays silent (02 R24). -/
def Level.add : Level → Int → Level
  | .silent, _ => .silent
  | .steps n, k => Level.ofSum (n + k)

/-- The lower of a level and a number of steps; silent is the lower (02 R24). -/
def Level.cap : Level → Int → Level
  | .silent, _ => .silent
  | .steps n, k => .steps (min n k)

/-- Strictly lower; silent is below every level (02 R24). -/
def Level.lt : Level → Level → Bool
  | _, .silent => false
  | .silent, .steps _ => true
  | .steps a, .steps b => decide (a < b)

def Level.isSilent : Level → Bool
  | .silent => true
  | .steps _ => false

/-- One step towards a number of steps. -/
def stepTowards (l t : Int) : Int := if l < t then l + 1 else if t < l then l - 1 else l

/-- The level after one ramp tick (02 R34, the table). -/
def rampStep (current target : Level) : Level :=
  match current, target with
  | .silent, .silent => .silent
  | .silent, .steps _ => .steps (-192)
  | .steps l, .steps t => .steps (stepTowards l t)
  | .steps l, .silent => if l ≤ -192 then .silent else .steps (l - 1)

/-- The level after one ramp tick while the system mute line is seen asserted: four steps down, stopping
at -192, and silent at the tick after (02 R34). -/
def mutedStep : Level → Level
  | .silent => .silent
  | .steps l => if l ≤ -192 then .silent else .steps (max (-192) (l - 4))

/-- The level after one ramp tick (02 R34). -/
def tickLevel (muted : Bool) (current target : Level) : Level :=
  if muted then mutedStep current else rampStep current target

/-! ## Factors (02 R37) -/

/-- Build `x` from its high bit down, keeping each bit with which `ok` still holds. -/
def buildBits (ok : Nat → Bool) : Nat → Nat → Nat
  | 0, x => x
  | b + 1, x => buildBits ok b (if ok (x + 2 ^ b) then x + 2 ^ b else x)

/-- The largest `x` below 2^24 with x ^ 40 ≤ 2 ^ 840 * 10 ^ l, that is, the floor of twice 2^20 * 10^(l/40). -/
def twiceFactor (l : Int) : Nat :=
  buildBits (fun x => decide (x ^ 40 * 10 ^ (-l).toNat ≤ 2 ^ 840 * 10 ^ l.toNat)) 24 0

/-- F(L) of a number of steps: 2^20 * 10^(l/40) to the nearest integer, halves up (02 R37). -/
def factorOf (l : Int) : Nat := (twiceFactor l + 1) / 2

/-- F(L); the factor of silent is 0 (02 R37). -/
def factor : Level → Nat
  | .silent => 0
  | .steps l => factorOf l

/-- round(s * F / 2^20), a half rounded away from zero (02 R37). -/
def scale (f : Nat) (s : Int) : Int :=
  s.sign * ((s.natAbs * f + 2 ^ 19) / 2 ^ 20 : Nat)

def sampleMax : Int := 8388607
def sampleMin : Int := -8388608

/-- Saturate to the sample range (02 R39). -/
def saturate (x : Int) : Int := max sampleMin (min sampleMax x)

/-! ## The sine of a chime voice (06 R111) -/

/-- pi * 2^64, to the nearest integer. -/
def piScaled : Int := 57952155664616982739

/-- The Taylor series of the sine from the term `t` of order `n`, at the square `x2` of the angle, all
scaled by 2^64. -/
def sineSeries (x2 : Int) : Nat → Nat → Int → Int
  | 0, _, _ => 0
  | k + 1, n, t => t - sineSeries x2 k (n + 2) (t * x2 / 2 ^ 64 / ((n + 1) * (n + 2)))

/-- 4194304 * sin(2 pi k / 4800) to the nearest integer, for a quarter turn 0 ≤ k ≤ 1200. -/
def quarterSine (k : Nat) : Int :=
  let x := 2 * piScaled * k / 4800
  (4194304 * sineSeries (x * x / 2 ^ 64) 12 1 x + 2 ^ 63) / 2 ^ 64

/-- 4194304 * sin(2 pi k / 4800) to the nearest integer, for any k. -/
def fullSine (k : Nat) : Int :=
  let m := k % 4800
  if m ≤ 1200 then quarterSine m
  else if m ≤ 2400 then quarterSine (2400 - m)
  else if m ≤ 3600 then - quarterSine (m - 2400)
  else - quarterSine (4800 - m)

/-- Sample `n` of an on-period at a tone frequency of `hz` (a multiple of 10): the sine with a peak of
4,194,304 from phase 0 at 48 kHz, its rounding free within one unit (06 R111; log 8). Phase 0 gives 0. -/
def toneSample (hz n : Nat) : Int :=
  if n = 0 then 0
  else limit (-4194304) 4194304 (fullSine (hz / 10 * n) + limit (-1) 1 (Config.toneRounding hz n))

end Sys2Proof.Machine
end

