-- ==== Sys2Proof/Machine/Queue.lean ====
section
/-! DEFINITION. The announcement queue's slots: taking an entry out, putting one in, the traffic condition and
the traffic-ignored set (06 sections 6.1, 6.3, 6.8). -/

namespace Sys2Proof.Machine

/-! ## Ending an entry (06 R109) -/

def EntryKind.isTone : EntryKind → Bool
  | .chime _ => true
  | .ring _ => true
  | .waiting _ => true
  | .nav => false
  | .traffic _ _ => false

def EntryKind.isTraffic : EntryKind → Bool
  | .traffic _ _ => true
  | _ => false

/-- Free the voices that hold the entry of a slot (06 R109). -/
def freeVoices (i : Fin 8) (c : Cabin) : Cabin :=
  { c with queue := { c.queue with voices := c.queue.voices.map fun v =>
      match v with
      | none => none
      | some v => if v.slot = i then none else some v } }

/-- Place an end record in the end list, the oldest leaving when there are more than eight, and count
the ending (06 R109). -/
def recordEnd (id : EntryId) (kind : EntryKind) (reason : EndReason) (c : Cabin) : Cabin :=
  let ends := c.queue.ends ++ [{ entry := id, kind := kind, reason := reason, number := c.queue.endNumber }]
  { c with queue := { c.queue with ends := ends.drop (ends.length - 8), endNumber := c.queue.endNumber + 1 } }

/-- The call whose tone this was has it no more and its ring unplayed becomes yes (07 R127). -/
def toneDisplaced (id : EntryId) (c : Cabin) : Cabin :=
  eachIdx 2 (fun i c => modifyCall i (fun r =>
    if r.tone = some id then { r with tone := none, ringUnplayed := true } else r) c) c

/-- Take the entry out of its slot (06 R109): its voice is free, the slot is free with its generation advanced,
the end record joins the end list, and the events are posted. What the end makes others find again is
`endEntry`'s. -/
def removeEntry (i : Fin 8) (e : Entry) (reason : EndReason) (c : Cabin) : Cabin :=
  let id := c.entryId i
  let c := freeVoices i (setEntrySlot i ⟨(c.entrySlot i).gen + 1, none⟩ c)
  let c := post .front .announce (recordEnd id e.kind reason c)
  let c := if e.kind.isTraffic then postBoth .traffic c else c
  if reason = .displaced then toneDisplaced id c else c

/-! ## Queuing an entry (06 R108) -/

/-- Put a new entry in a free slot, latest in queued order (06 R104). -/
def putEntry (i : Fin 8) (kind : EntryKind) (priority : Nat) (targets : ZoneSet) (timeLeft : Nat)
    (c : Cabin) : Cabin :=
  let c' := setEntrySlot i { c.entrySlot i with
      entry := some { kind := kind, priority := priority, targets := targets, order := c.queue.order, timeLeft := timeLeft } } c
  { c' with queue := { c'.queue with order := c'.queue.order + 1 } }

def freeEntrySlot (c : Cabin) : Option (Fin 8) := firstIdx fun i => decide ((c.entrySlot i).entry = none)

/-- The entry to be displaced: the lowest priority, and among those the latest in queued order (06 R108). -/
def displaceable (c : Cabin) : Option (Fin 8 × Entry) :=
  (List.finRange 8).foldl (fun best i =>
    match (c.entrySlot i).entry with
    | none => best
    | some e =>
      match best with
      | none => some (i, e)
      | some (j, b) =>
        if e.priority < b.priority ∨ (e.priority = b.priority ∧ b.order < e.order) then some (i, e)
        else some (j, b)) none

/-- How the queue receives a new entry of some priority (06 R108). -/
inductive Admission where
  /-- It takes a free slot. -/
  | takes (i : Fin 8)
  /-- It displaces the entry of a slot. -/
  | displaces (i : Fin 8) (e : Entry)
  | refused
  deriving DecidableEq, Repr

/-- A free slot, else the displaceable entry if its priority is lower, else none (06 R108). -/
def admission (c : Cabin) (priority : Nat) : Admission :=
  match freeEntrySlot c with
  | some i => .takes i
  | none =>
    match displaceable c with
    | none => .refused
    | some (i, e) => if e.priority < priority then .displaces i e else .refused

/-! ## Traffic bulletins (06 R116, R117) -/

/-- The traffic targets of a station (06 R116). -/
def trafficTargets (c : Cabin) (h : StationId) : ZoneSet :=
  PerZone.build fun z => (c.zone z).accept.traffic &&
    ((match c.table.watch with
      | none => false
      | some w => decide (w.station = h)) ||
     (match (c.zone z).list with
      | none => false
      | some l => listNames c l (.station h)))

/-- The traffic condition of a station that a channel carries (06 R116). -/
def trafficCondition (c : Cabin) (h : StationId) : Bool :=
  match c.station h with
  | none => false
  | some r => decide (r.freq.band = .fm) && decide (r.tp = some true) && decide (r.ta = some true) &&
      !c.queue.ignored.contains h && !(trafficTargets c h).isEmpty

/-- The slot of the TRAFFIC entry of a station. -/
def trafficEntry (c : Cabin) (h : StationId) : Option (Fin 8) :=
  findEntry c fun e => match e.kind with
    | .traffic s _ => decide (s = h)
    | _ => false

/-- The limit of a TRAFFIC entry, 300 s, and of the NAV timer, 30 s, in ms (06 R115, R116). -/
def trafficLimit : Nat := 300000
def navLimit : Nat := 30000

/-- Put a station in the traffic-ignored set, without duplicates (06 R117). -/
def ignoreStation (h : StationId) (c : Cabin) : Cabin :=
  if c.queue.ignored.contains h then c
  else { c with queue := { c.queue with ignored := c.queue.ignored ++ [h] } }

/-- Take a station out of the traffic-ignored set (06 R117). -/
def unignoreStation (h : StationId) (c : Cabin) : Cabin :=
  { c with queue := { c.queue with ignored := c.queue.ignored.filter fun x => decide (x ≠ h) } }

end Sys2Proof.Machine
end

