-- ==== Sys2Proof/Machine/Sound.lean ====
section
/-! DEFINITION. Who is heard: listened calls, audible entries, overlays and chime voices
(02 section 2.5, 06 sections 6.2 and 6.4, 07 R131). -/

namespace Sys2Proof.Machine

/-! ## The duck state of a zone -/

/-- The ACTIVE call whose effective listeners hold the zone (07 R131). -/
def listenedCall (c : Cabin) (z : Zone) : Option CallId :=
  (activeCall c).bind fun i =>
    match (c.callSlot i).record with
    | none => none
    | some r => if (effectiveListeners r).get z then some (c.callId i) else none

/-- The kind's accept-set member is in the accept set; the tones of calls have none (06 R105). -/
def acceptsKind (a : AcceptSet) : EntryKind → Bool
  | .chime _ => a.chime
  | .nav => a.nav
  | .traffic _ _ => a.traffic
  | .ring _ => false
  | .waiting _ => false

/-- The entry is eligible in the zone (06 R106). -/
def eligible (c : Cabin) (z : Zone) (e : Entry) : Bool :=
  e.targets.get z &&
  (decide (6 ≤ e.priority) || acceptsKind (c.zone z).accept e.kind) &&
  (decide (listenedCall c z = none) || decide (6 ≤ e.priority))

/-- Ranks before: higher priority, then earlier in queued order (06 R106, R110). -/
def outranks (a b : Entry) : Bool :=
  decide (b.priority < a.priority) || (decide (a.priority = b.priority) && decide (a.order < b.order))

/-- The highest ranked of the entries for which `p` holds. -/
def bestEntry (c : Cabin) (p : Fin 8 → Entry → Bool) : Option (Fin 8 × Entry) :=
  (List.finRange 8).foldl (fun best i =>
    match (c.entrySlot i).entry with
    | none => best
    | some e =>
      if p i e then
        match best with
        | none => some (i, e)
        | some (j, b) => if outranks e b then some (i, e) else some (j, b)
      else best) none

def audibleKind : EntryKind → AudibleKind
  | .chime _ => .chime
  | .nav => .nav
  | .traffic _ x => .traffic x
  | .ring _ => .ring
  | .waiting _ => .waiting

/-- The audible entry of a zone (06 R106). -/
def audibleEntry (c : Cabin) (z : Zone) : Option Audible :=
  (bestEntry c fun _ e => eligible c z e).map fun x => ⟨c.entryId x.1, audibleKind x.2.kind⟩

/-! ## Overlays (02 R32) -/

/-- The lowest level of a list; `.steps 0` where there is none. -/
def lowestLevel {α : Type} (lvl : α → Level) : List α → Level
  | [] => .steps 0
  | x :: xs => xs.foldl (fun m y => if (lvl y).lt m then lvl y else m) (lvl x)

/-- Remove the element with the lowest level, the earliest among equals (02 R32, 03 R48). -/
def dropLowest {α : Type} (lvl : α → Level) (l : List α) : List α :=
  l.eraseP fun x => decide (lvl x = lowestLevel lvl l)

/-- Remove departing contributions, lowest level first, until `room` remain (02 R32, 03 R48). -/
def trimTo {α : Type} (lvl : α → Level) (room : Nat) (l : List α) : List α :=
  (dropLowest lvl)^[l.length - room] l

/-- Give an overlay to a newly audible entry or newly listened call: taken back if it is still
departing, else new and silent (02 R32). -/
def enterOverlay (k : OverlayKey) (m : MixZone) : MixZone :=
  if m.overlays.any fun o => decide (o.key = k) then m
  else match m.leavingOverlays.find? fun o => decide (o.key = k) with
    | some o => { m with overlays := m.overlays ++ [o],
                         leavingOverlays := m.leavingOverlays.eraseP fun o => decide (o.key = k) }
    | none => { m with overlays := m.overlays ++ [⟨k, .silent⟩] }

/-- The keys of the overlays a zone keeps: its audible entry and its listened call, while it is present
(02 R32). -/
def wantedOverlays (present : Bool) (m : MixZone) : List OverlayKey :=
  if present then
    (match m.audible with | none => [] | some a => [.entry a]) ++
    (match m.listened with | none => [] | some h => [.call h])
  else []

/-- Bring the overlays of a zone in line with its duck state; at most ten stay (02 R32). -/
def updateOverlays (present : Bool) (m : MixZone) : MixZone :=
  let keys := wantedOverlays present m
  let m1 := { m with
    overlays := m.overlays.filter fun o => keys.contains o.key
    leavingOverlays := m.leavingOverlays ++ m.overlays.filter fun o => !keys.contains o.key }
  let m2 := keys.foldl (fun m k => enterOverlay k m) m1
  { m2 with leavingOverlays := trimTo (·.current) (10 - m2.overlays.length) m2.leavingOverlays }

/-- Find the listened call and the audible entry of a zone again and take the new duck state (02 R26,
06 R106, 07 R131). -/
def refreshMixZone (c : Cabin) (z : Zone) (m : MixZone) : MixZone :=
  updateOverlays (c.zone z).present { m with audible := audibleEntry c z, listened := listenedCall c z }

/-- The audible entry of the zone will come out different. -/
def audibleChanges (c : Cabin) (z : Zone) : Bool := decide (audibleEntry c z ≠ (c.mixZone z).audible)

/-- Find the duck state of every zone again; a change of the audible entry of Z3 or Z4 posts ANNOUNCE to
the rear port (06 R106). -/
def refreshDuck (c : Cabin) : Cabin :=
  postIf (audibleChanges c .z3 || audibleChanges c .z4) .rear .announce (mapMixZones (refreshMixZone c) c)

/-! ## Voice arbitration (06 R110) -/

/-- The entry of the slot is the audible entry of the zone. -/
def audibleIn (c : Cabin) (i : Fin 8) (z : Zone) : Bool :=
  match (c.mixZone z).audible with
  | none => false
  | some a => decide (a.entry = c.entryId i)

def audibleSomewhere (c : Cabin) (i : Fin 8) : Bool := Zone.all.any (audibleIn c i)

/-- A candidate for a voice: a tone entry audible in at least one zone (06 R110). -/
def voiceCandidate (c : Cabin) (i : Fin 8) : Bool :=
  match (c.entrySlot i).entry with
  | none => false
  | some e => e.kind.isTone && audibleSomewhere c i

/-- The voice that holds the entry of a slot. -/
def voiceOf (c : Cabin) (i : Fin 8) : Option (Fin 2) :=
  firstIdx fun v => match c.queue.voices.get v with
    | none => false
    | some x => decide (x.slot = i)

def setVoice (v : Fin 2) (x : Option Voice) (c : Cabin) : Cabin :=
  { c with queue := { c.queue with voices := c.queue.voices.set v x } }

/-- A voice that starts a pattern at the next cadence tick (06 R111). -/
def newVoice (i : Fin 8) : Voice where
  slot := i
  cadence := .waiting
  cycles := 0
  tone := 0
  offLength := 0
  sample := 0

/-- Step 1: free the voices whose entry is no longer a candidate. -/
def freeLostVoices (c : Cabin) : Cabin :=
  { c with queue := { c.queue with voices := c.queue.voices.map fun v =>
      match v with
      | none => none
      | some v => if voiceCandidate c v.slot then some v else none } }

/-- The highest-ranked candidate without a voice. -/
def nextCandidate (c : Cabin) : Option (Fin 8 × Entry) :=
  bestEntry c fun i _ => voiceCandidate c i && decide (voiceOf c i = none)

/-- Step 2, for one voice: a free voice goes to the highest-ranked candidate without one. -/
def fillVoice (v : Fin 2) (c : Cabin) : Cabin :=
  match c.queue.voices.get v with
  | some _ => c
  | none =>
    match nextCandidate c with
    | none => c
    | some (i, _) => setVoice v (some (newVoice i)) c

/-- The entry a voice holds. -/
def voiceEntry (c : Cabin) (v : Fin 2) : Option Entry :=
  (c.queue.voices.get v).bind fun x => (c.entrySlot x.slot).entry

/-- The lower-ranked of two voice holders. -/
def lowerHolder (c : Cabin) : Option (Fin 2 × Entry) :=
  match voiceEntry c 0, voiceEntry c 1 with
  | some a, some b => if outranks a b then some (1, b) else some (0, a)
  | _, _ => none

/-- Step 3, once: a candidate of strictly higher priority takes the voice of the lower-ranked holder. -/
def overtakeOnce (c : Cabin) : Cabin :=
  match lowerHolder c, nextCandidate c with
  | some (v, a), some (i, b) => if a.priority < b.priority then setVoice v (some (newVoice i)) c else c
  | _, _ => c

/-- Hand the two voices to the candidates (06 R110). Step 3 is taken at most twice: the second taking
leaves the two highest priorities with a voice. -/
def arbitrateVoices (c : Cabin) : Cabin :=
  overtakeOnce (overtakeOnce (fillVoice 1 (fillVoice 0 (freeLostVoices c))))

/-- Find audibility, overlays and voices again. -/
def refreshSound (c : Cabin) : Cabin := arbitrateVoices (refreshDuck c)

/-- An entry is PLAYING (06 R107). -/
def entryPlaying (c : Cabin) (i : Fin 8) : Bool :=
  match (c.entrySlot i).entry with
  | none => false
  | some e => if e.kind.isTone then (voiceOf c i).isSome else audibleSomewhere c i

end Sys2Proof.Machine
end

