-- ==== Sys2Proof/Machine/Endings.lean ====
section
/-! DEFINITION. Queuing and ending announcement entries, with what each makes the part find again: audibility and
voices, then the traffic conditions (06 sections 6.3 and 6.8; log 35). -/

namespace Sys2Proof.Machine

/-! ## Queuing (06 R108) -/

/-- Queue an entry, and find audibility and voices again at each step of it: its handle, or none where it is
refused (06 R106, R108 to R110). The traffic tests that a displacement calls for are the caller's. -/
def admitEntry (kind : EntryKind) (priority : Nat) (targets : ZoneSet) (timeLeft : Nat) (c : Cabin) :
    Cabin × Option EntryId :=
  match admission c priority with
  | .takes i =>
    let c' := putEntry i kind priority targets timeLeft c
    (refreshSound c', some (c'.entryId i))
  | .displaces i e =>
    let c' := putEntry i kind priority targets timeLeft (refreshSound (removeEntry i e .displaced c))
    (refreshSound c', some (c'.entryId i))
  | .refused => (c, none)

/-! ## The traffic test (06 R116) -/

/-- Give the TRAFFIC entry of a slot its targets, and find audibility again where they have changed. -/
def retarget (i : Fin 8) (t : ZoneSet) (c : Cabin) : Cabin :=
  if (c.entrySlot i).entry.map (·.targets) = some t then c
  else refreshSound (modifyEntry i (fun e => { e with targets := t }) c)

/-- Test the station a channel carries: the targets of its TRAFFIC entry are found again, or one is queued where
the traffic condition holds (06 R116). -/
def testTrafficOn (x : Chan) (c : Cabin) : Cabin :=
  match (c.chan x).station with
  | none => c
  | some h =>
    match trafficEntry c h with
    | some i => retarget i (trafficTargets c h) c
    | none =>
      if trafficCondition c h then
        match admitEntry (.traffic h x) 3 (trafficTargets c h) trafficLimit c with
        | (c', some _) => postBoth .traffic c'
        | (c', none) => c'
      else c

/-- Test the traffic conditions of both carried stations, PC0's first, as every ending asks (06 R109, R116). -/
def testTraffic (c : Cabin) : Cabin := testTrafficOn .pc1 (testTrafficOn .pc0 c)

/-- Test one station, if a channel carries it; where its bulletin displaces an entry, that ending has both
stations tested again (06 R109, R116). -/
def testStation (h : StationId) (c : Cabin) : Cabin :=
  match chanOf c h with
  | none => c
  | some x =>
    let c' := testTrafficOn x c
    if c'.queue.endNumber = c.queue.endNumber then c' else testTraffic c'

/-! ## Ending (06 R109) -/

/-- What follows an ending: audibility and voices are found again, then the traffic conditions tested (06 R109). -/
def settleEnding (c : Cabin) : Cabin := testTraffic (refreshSound c)

/-- End the entry of a slot (06 R109). -/
def endEntry (i : Fin 8) (reason : EndReason) (c : Cabin) : Cabin :=
  match (c.entrySlot i).entry with
  | none => c
  | some e => settleEnding (removeEntry i e reason c)

/-- Queue an entry that is no bulletin; where it displaces another, that ending has the traffic conditions tested
once the newcomer is in the freed slot (06 R108, R109). -/
def queueEntry (kind : EntryKind) (priority : Nat) (targets : ZoneSet) (timeLeft : Nat) (c : Cabin) :
    Cabin × Option EntryId :=
  match admission c priority with
  | .displaces _ _ =>
    let r := admitEntry kind priority targets timeLeft c
    (testTraffic r.1, r.2)
  | _ => admitEntry kind priority targets timeLeft c

/-- End UNCARRIED the TRAFFIC entries whose station is not carried, in slot order (06 R117; log 35). -/
def endUncarried (c : Cabin) : Cabin :=
  eachIdx 8 (fun i c =>
    match (c.entrySlot i).entry with
    | none => c
    | some e =>
      match e.kind with
      | .traffic h _ => if carried c h then c else endEntry i .uncarried c
      | _ => c) c

/-- End an entry before its time; a TRAFFIC entry's station is in the ignored set by then, so that its bulletin is
not raised again (06 R114, R117). -/
def endAndIgnore (i : Fin 8) (reason : EndReason) (c : Cabin) : Cabin :=
  match (c.entrySlot i).entry with
  | none => c
  | some e =>
    match e.kind with
    | .traffic h _ => endEntry i reason (ignoreStation h c)
    | _ => endEntry i reason c

end Sys2Proof.Machine
end

