-- ==== Sys2Proof/Machine/Plans.lean ====
section
/-! DEFINITION. The plan builder: what a build reads, when it starts, and the HOLDING condition
(03 sections 3.1 to 3.5). -/

namespace Sys2Proof.Machine

/-- The source of a contribution: MEDIA n, or the channel to which the station is assigned (03 R42). -/
def planSource (c : Cabin) : Source → Option PlanSource
  | .media n => some (.media n)
  | .station h => (chanOf c h).map .chan

/-- The planned level: the lower of volume plus gain and the ceiling (02 R28). -/
def plannedLevel (e : ZoneEntry) (gain : Int) : Level := (Level.ofSum (e.volume + gain)).cap e.ceiling

/-- A TUNING or PLAYING state (03 R42). -/
def RouteState.planned : RouteState → Bool
  | .tuning => true
  | .playing => true
  | _ => false

/-- The contribution a route gives the plan of a zone, if it gives one (03 R42). -/
def builtShare (c : Cabin) (e : ZoneEntry) (l : Fin 8) (k : Fin 6) : Option BuiltShare :=
  match (c.route l k).record with
  | none => none
  | some r =>
    if r.present && r.state.planned then
      (planSource c r.source).map fun src =>
        { route := ⟨l, k, (c.route l k).gen⟩, orphaned := false, source := src, duck := r.duck,
          planned := plannedLevel e r.gain }
    else none

/-- The contributions a build of a zone computes (03 R42, R50). -/
def builtShares (c : Cabin) (z : Zone) : List BuiltShare :=
  if (c.zone z).present then
    match (c.zone z).list with
    | none => []
    | some l => (List.finRange 6).filterMap (builtShare c (c.zone z) l)
  else []

/-- What a build of a zone reads at its start (03 R43). -/
def buildJob (c : Cabin) (z : Zone) : BuildJob where
  zone := z
  shares := builtShares c z
  values := { ceiling := (c.zone z).ceiling, userMute := (c.zone z).userMute,
              duckDepth := (c.zone z).duckDepth, callDuckDepth := (c.zone z).callDuckDepth }

/-- The order in which the builder looks for a stale zone from its position (03 R45). -/
def zonesFrom : Zone → List Zone
  | .z0 => [.z1, .z2, .z3, .z4, .z0]
  | .z1 => [.z2, .z3, .z4, .z0, .z1]
  | .z2 => [.z3, .z4, .z0, .z1, .z2]
  | .z3 => [.z4, .z0, .z1, .z2, .z3]
  | .z4 => [.z0, .z1, .z2, .z3, .z4]

def nextStale (c : Cabin) : Option Zone :=
  (zonesFrom c.builder.position).find? fun z => c.builder.stale.get z

/-- The builder may start a build (03 R45). -/
def mayBuild (c : Cabin) : Bool :=
  decide (c.builder.job = none) && decide (c.builder.hold = .running) && decide (c.ports.part = .running)

/-- Start the build of the next stale zone, if one may start (03 R45). -/
def startBuild (c : Cabin) : Cabin :=
  if mayBuild c then
    match nextStale c with
    | none => c
    | some z => { c with builder := { c.builder with
        stale := c.builder.stale.set z false, position := z, job := some (buildJob c z) } }
  else c

/-- A contribution of some zone is settling (03 R52). -/
def anySettling (c : Cabin) : Bool :=
  Zone.all.any fun z => (c.mixZone z).routes.any (·.settling) || (c.mixZone z).leaving.any (·.settling)

/-- The HOLDING condition (03 R52). -/
def holdingReached (c : Cabin) : Bool := decide (c.builder.job = none) && !anySettling c

/-- Pass from HOLD-PENDING to HOLDING when the condition holds, posting HOLD (03 R52, R55). -/
def settleHold (c : Cabin) : Cabin :=
  if c.builder.hold = .pending ∧ holdingReached c then
    post .front .hold { c with builder := { c.builder with hold := .holding } }
  else c

/-- The contributions planned from a route are orphaned when it is retired, those of a build in flight
too (03 R46, R53). -/
def orphanRoute (h : RouteId) (c : Cabin) : Cabin :=
  let c := mapShares (fun x => if x.route = h then { x with orphaned := true, audibleSince := false } else x) c
  { c with builder := { c.builder with job := c.builder.job.map fun j =>
      { j with shares := j.shares.map fun x => if x.route = h then { x with orphaned := true } else x } } }

end Sys2Proof.Machine
end

