-- ==== Sys2Proof/Machine/Allocator.lean ====
section
/-! DEFINITION. Route states, the arbitration of the programme channels, the tuner roles, identity
merges and what follows from them (01 R7, 04 sections 4.1 and 4.4, 05 sections 5.2 to 5.5). -/

namespace Sys2Proof.Machine

/-! ## Derived route states (01 R7) -/

/-- The derived state of a route of a list: the first condition that holds (01 R7). -/
def routeState (c : Cabin) (l : Fin 8) (r : RouteRecord) : RouteState :=
  if !r.present then .parked
  else if !linkedByPresent c l then .unlinked
  else match r.source with
    | .station h =>
      match chanOf c h with
      | none => .waiting
      | some x => if tunerAway c x then .tuning else .playing
    | .media n => if c.dir.media.get n then .playing else .silent

/-- Derive one route's state again; a change posts ROUTE to the owner (01 R7). -/
def rederiveAt (l : Fin 8) (k : Fin 6) (c : Cabin) : Cabin :=
  match (c.route l k).record with
  | none => c
  | some r =>
    if routeState c l r = r.state then c
    else post r.owner .route (setRouteRecord l k { r with state := routeState c l r } c)

/-- The contribution's route is live and PLAYING, and the contribution is not orphaned (02 R36, 03 R53). -/
def sharePlaying (c : Cabin) (x : RouteShare) : Bool :=
  !x.orphaned &&
    match c.liveRoute x.route with
    | none => false
    | some r => decide (r.state = .playing)

/-- The interval of R36 is broken for contributions whose route is not live and PLAYING now. -/
def breakIntervals (c : Cabin) : Cabin :=
  mapShares (fun x => { x with audibleSince := x.audibleSince && sharePlaying c x }) c

/-- Derive every route's state again (01 R7). -/
def rederiveRoutes (c : Cabin) : Cabin :=
  breakIntervals (routeKeys.foldl (fun c x => rederiveAt x.1 x.2 c) c)

/-! ## Alternates (04 R62) -/

/-- A measured entry comes before entries of lower quality and before unmeasured ones (04 R62). -/
def altBefore (e x : Alternate) : Bool :=
  match e.quality, x.quality with
  | some q, some r => decide (r < q)
  | some _, none => true
  | none, _ => false

/-- Place an entry by the order of R62, behind any entries of the same quality. -/
def placeAlt (e : Alternate) : List Alternate → List Alternate
  | [] => [e]
  | x :: xs => if altBefore e x then e :: x :: xs else x :: placeAlt e xs

def hasAlt (l : List Alternate) (ch : Nat) : Bool := l.any fun a => decide (a.chan = ch)

def removeAlt (ch : Nat) (l : List Alternate) : List Alternate := l.filter fun a => decide (a.chan ≠ ch)

/-- Set the quality of an entry and place it again; nothing where there is no such entry (04 R62). -/
def setAltQuality (ch q : Nat) (l : List Alternate) : List Alternate :=
  if hasAlt l ch then placeAlt ⟨ch, some q⟩ (removeAlt ch l) else l

/-- An entry joins a record's list (04 R62): not its own frequency; a duplicate only sets the quality it
carries; a full list loses its last entry first. -/
def joinAlt (own : Nat) (ch : Nat) (q : Option Nat) (l : List Alternate) : List Alternate :=
  if ch = own then l
  else if hasAlt l ch then
    match q with
    | none => l
    | some q => setAltQuality ch q l
  else placeAlt ⟨ch, q⟩ (if 6 ≤ l.length then l.dropLast else l)

/-! ## Tuner roles (05 R92) -/

def freqOf (c : Cabin) (h : StationId) : Option Freq := (c.station h).map (·.freq)

def carriesStation (v : ProgChan) : Bool := v.station.isSome

/-- A follow of the channel borrows the other tuner. -/
def borrowing (v : ProgChan) : Bool :=
  match v.follow with
  | none => false
  | some f => f.borrows

/-- The role of a tuner that serves no channel, when the other serves channel `v` (05 R92). -/
def supportRole (v : ProgChan) : Role :=
  if borrowing v then .followCheck else if v.diversity then .diversity else .scan

/-- The role a tuner takes (05 R92, R101, R103). While the tuners are stopped in LOW one that serves no channel is
IDLE, at the end of the calibration load and of a lite reset too; it takes SCAN at the restart (log 49). -/
def desiredRole (c : Cabin) (t : TunerId) : Role :=
  match servedBy c t with
  | some _ => .programme
  | none =>
    if c.ports.part.posts && !c.alloc.stopped then
      match servedBy c t.other with
      | some x => supportRole (c.chan x)
      | none =>
        if (c.tuner t).role = .scan then .scan
        else if (c.tuner t.other).role = .scan then .idle
        else match t with
          | .t0 => .scan
          | .t1 => .idle
    else .idle

/-- A tuner as it enters a role (05 R92): the acceptance state is emptied; a scanning tuner is tuned to
the scan's position, and a tuner that comes to serve a channel keeps its tuning. -/
def enterRole (c : Cabin) (r : Role) (v : Tuner) : Tuner :=
  match r with
  | .idle => idleTuner
  | .programme => { v with role := .programme, tuning := false, acc := emptyAcceptance }
  | .scan => { idleTuner with role := .scan, tuned := some c.table.position }
  | .diversity => { idleTuner with role := .diversity }
  | .followCheck => { idleTuner with role := .followCheck }

/-- Give a tuner a role. A tuner leaving SCAN suspends the pass: a dwell in flight is abandoned (04 R66). -/
def setRole (t : TunerId) (r : Role) (c : Cabin) : Cabin :=
  if (c.tuner t).role = r then c
  else
    let c' := setTuner t (enterRole c r (c.tuner t)) c
    if (c.tuner t).role = .scan then { c' with table := { c'.table with dwell := none } } else c'

/-- Settle the roles of both tuners (05 R92). -/
def settleRoles (c : Cabin) : Cabin :=
  setRole .t1 (desiredRole c .t1) (setRole .t0 (desiredRole c .t0) c)

/-- Begin a retune of the channel's serving tuner to its station's frequency (05 R93); in LOW the tuner
is not tuned and the retune waits for the restart (05 R101). -/
def beginRetune (x : Chan) (c : Cabin) : Cabin :=
  match (c.chan x).station, (c.chan x).serving with
  | some h, some t =>
    let v := c.chan x
    setTuner t { c.tuner t with tuned := (if c.alloc.stopped then none else freqOf c h),
                                smoothed := none, tuning := false, acc := emptyAcceptance }
      (setChan x { v with retuning := true, diversity := false, partner := false, highRun := 0,
                          measured := false, followCount := 0, follow := none } c)
  | _, _ => c

/-- A serving tuner that was away on an excursion is back on the carried frequency (05 R99, R100;
log 18). -/
def endExcursion (x : Chan) (c : Cabin) : Cabin :=
  match (c.chan x).station, (c.chan x).serving with
  | some h, some t =>
    if selfProbing (c.chan x) then
      setTuner t { c.tuner t with tuned := freqOf c h, acc := emptyAcceptance } c
    else c
  | _, _ => c

/-- Abandon a follow in flight (05 R100). -/
def abandonFollow (x : Chan) (c : Cabin) : Cabin :=
  match (c.chan x).follow with
  | none => c
  | some _ => setChan x { c.chan x with follow := none, followCount := 0 } (endExcursion x c)

/-- The channel quality is the smoothed quality of the tuner whose output the channel uses; where that has none,
the last value stands (05 R87, R95). -/
def takeQuality (c : Cabin) (v : ProgChan) : ProgChan :=
  match selectedTuner v with
  | none => v
  | some t => match (c.tuner t).smoothed with
    | none => v
    | some q => { v with quality := q }

/-- Turn diversity off; the PROGRAMME tuner's output is selected (05 R94). -/
def endDiversity (x : Chan) (c : Cabin) : Cabin :=
  let v := { c.chan x with diversity := false, partner := false }
  setChan x (if (c.chan x).partner then takeQuality c v else v) c

/-! ## Demand and arbitration (05 R88, R89) -/

/-- The highest of two optional priorities. -/
def maxPriority : Option Nat → Option Nat → Option Nat
  | none, b => b
  | a, none => a
  | some a, some b => some (max a b)

/-- The demand a route makes for a station (05 R88). -/
def routeDemand (c : Cabin) (h : StationId) (x : Fin 8 × Fin 6) : Option Nat :=
  match (c.route x.1 x.2).record with
  | none => none
  | some r =>
    if r.present && decide (r.source = .station h) && linkedByPresent c x.1 then some r.priority else none

/-- The demand priority of a station, none where it is not demanded (05 R88). -/
def demand (c : Cabin) (h : StationId) : Option Nat :=
  maxPriority (routeKeys.foldl (fun m x => maxPriority m (routeDemand c h x)) none)
    (match c.table.watch with
     | none => none
     | some w => if w.station = h then some w.priority else none)

/-- The demanded stations with their priorities, in slot order. -/
def demanded (c : Cabin) : List (StationId × Nat) :=
  (List.finRange 40).filterMap fun i =>
    match (c.stationSlot i).record with
    | none => none
    | some _ => (demand c (c.stationId i)).map fun p => (c.stationId i, p)

/-- Ranks before in the arbitration: higher demand priority, then already assigned; a tie beyond that
is decided by the lower slot (05 R89). -/
def ranksBefore (c : Cabin) (a b : StationId × Nat) : Bool :=
  decide (b.2 < a.2) || (decide (a.2 = b.2) && carried c a.1 && !carried c b.1)

/-- The first-ranked of a list in slot order. -/
def firstRanked (c : Cabin) (l : List (StationId × Nat)) : Option (StationId × Nat) :=
  l.foldl (fun best a => match best with
    | none => some a
    | some b => if ranksBefore c a b then some a else some b) none

/-- The winners, higher-ranked first: at most two (05 R89). -/
def winners (c : Cabin) : List StationId :=
  match firstRanked c (demanded c) with
  | none => []
  | some a =>
    match firstRanked c ((demanded c).filter fun x => decide (x.1 ≠ a.1)) with
    | none => [a.1]
    | some b => [a.1, b.1]

/-- The station a channel keeps: its own, if it is a winner (05 R89). -/
def keptStation (c : Cabin) (x : Chan) : Option StationId :=
  match (c.chan x).station with
  | none => none
  | some h => if (winners c).contains h then some h else none

/-- The stations of PC0 and PC1 after the arbitration (05 R89). -/
def newAssignment (c : Cabin) : Option StationId × Option StationId :=
  let entering := (winners c).filter fun h => !carried c h
  match keptStation c .pc0, keptStation c .pc1 with
  | some a, some b => (some a, some b)
  | some a, none => (some a, entering.head?)
  | none, some b => (entering.head?, some b)
  | none, none => (entering.head?, entering.tail.head?)

/-- The tuner a channel takes that was not served: the one that serves no channel, and of two the one
that is not scanning, T0 of two that are not (05 R92). -/
def freeTuner (c : Cabin) : Option TunerId → TunerId
  | some t => t.other
  | none => if (c.tuner .t0).role = .scan then .t1 else .t0

/-- The tuner that will serve a channel that gains or keeps a station, if it was served (05 R92). -/
def keptTuner (c : Cabin) (x : Chan) (n : Option StationId) : Option TunerId :=
  if n.isSome then (c.chan x).serving else none

/-- The serving tuners after an assignment (05 R92). -/
def servingAfter (c : Cabin) (n : Option StationId × Option StationId) : Option TunerId × Option TunerId :=
  let k0 := keptTuner c .pc0 n.1
  let k1 := keptTuner c .pc1 n.2
  let s0 := if n.1.isSome && k0.isNone then some (freeTuner c k1) else k0
  let s1 := if n.2.isSome && k1.isNone then some (freeTuner c s0) else k1
  (s0, s1)

/-- Put a station, or none, on a channel. A channel that keeps its station is left as it is. On a released channel
the last quality stands, measured as it was (05 R87, R102); one that gains a station has none measured yet, in LOW
too, where its retune waits for the restart (log 48). -/
def assignChan (x : Chan) (n : Option StationId) (t : Option TunerId) (c : Cabin) : Cabin :=
  if (c.chan x).station = n then c
  else setChan x { freeChan with station := n, serving := t, retuning := n.isSome,
                                 quality := (c.chan x).quality,
                                 measured := n.isNone && (c.chan x).measured } c

/-- When the other channel is carried, a channel has no supporting tuner: diversity ends and a borrowing
follow is abandoned (05 R92, R94, R100). -/
def loseSupport (x : Chan) (c : Cabin) : Cabin :=
  if carriesStation (c.chan x.other) then
    let c := endDiversity x c
    if borrowing (c.chan x) then abandonFollow x c else c
  else c

/-- Begin the retune of a channel that has gained or changed its station (05 R90, R93). -/
def retuneIfGained (old : Cabin) (x : Chan) (c : Cabin) : Cabin :=
  if (old.chan x).station ≠ (c.chan x).station ∧ (c.chan x).station.isSome then beginRetune x c else c

/-- Mark the zones of a station stale if its channel has changed (03 R44). -/
def staleIfMoved (old : Cabin) (h : Option StationId) (c : Cabin) : Cabin :=
  match h with
  | none => c
  | some h => if chanOf old h ≠ chanOf c h then markStationStale h c else c

/-- Take a new assignment with its effects (05 R90), but for the route states, which the command derives
again at its end. A TRAFFIC entry whose station has lost its channel ends here, before any merge that
the change brings about, and the traffic conditions are tested (06 R116, R117). -/
def applyAssignment (n : Option StationId × Option StationId) (old : Cabin) : Cabin :=
  let t := servingAfter old n
  let c := assignChan .pc1 n.2 t.2 (assignChan .pc0 n.1 t.1 old)
  let c := settleRoles (loseSupport .pc1 (loseSupport .pc0 c))
  let c := retuneIfGained old .pc1 (retuneIfGained old .pc0 c)
  let c := testTraffic (endUncarried c)
  let c := staleIfMoved old (old.chan .pc0).station (staleIfMoved old (old.chan .pc1).station c)
  staleIfMoved old n.1 (staleIfMoved old n.2 c)

/-- Run the arbitration, unless the part is HOLD-PENDING or HOLDING, or carrying out a lite reset, at whose end the
arbitration it calls for is run (05 R88, R89, R91, R103). -/
def arbitrate (c : Cabin) : Cabin :=
  if c.builder.hold = .running ∧ c.ports.part ≠ .liteReset then
    if newAssignment c = ((c.chan .pc0).station, (c.chan .pc1).station) then c
    else applyAssignment (newAssignment c) c
  else c

/-! ## Retiring a station record (04 R57, 06 R117) -/

/-- Free a station slot, its generation advancing; the station leaves the traffic-ignored set. -/
def retireStationSlot (i : Fin 40) (c : Cabin) : Cabin :=
  setStationSlot i ⟨(c.stationSlot i).gen + 1, none⟩ (unignoreStation (c.stationId i) c)

/-! ## Identity merge (04 section 4.4) -/

/-- Re-point a route that names B to A (04 R76 step 2, 01 R12). -/
def repointAt (b a : StationId) (x : Fin 8 × Fin 6) (c : Cabin) : Cabin :=
  match (c.route x.1 x.2).record with
  | none => c
  | some r =>
    if r.source = .station b then
      markListStale x.1 (post r.owner .route
        (setRouteRecord x.1 x.2 { r with
          source := .station a
          altered := true
          present := r.present && !duplicateIn c x.1 (some x.2) (.station a) } c))
    else c

/-- The surviving record after a merge in which B was not carried (04 R76 steps 1, 3, 4, 5, 6). -/
def mergedRecord (a b : Station) : Station :=
  { a with
    alternates := joinAlt a.freq.chan b.freq.chan (some b.quality) a.alternates
    refs := a.refs + b.refs
    kept := ⟨a.kept.front || b.kept.front, a.kept.rear || b.kept.rear⟩
    watched := a.watched || b.watched
    miss := min a.miss b.miss
    received := a.received || b.received
    state := if a.state = .listed ∨ b.state = .listed then .listed else a.state }

/-- The surviving record after a merge in which B was carried: A takes B's frequency and quality, and
A's old frequency joins its alternates (04 R77; log 14). -/
def relabelledRecord (a b : Station) : Station :=
  { mergedRecord a b with
    freq := b.freq
    quality := b.quality
    alternates := joinAlt b.freq.chan a.freq.chan (some a.quality) (removeAlt b.freq.chan a.alternates) }

/-- The traffic-ignored set and the TRAFFIC entries follow a merge (06 R117). -/
def repointQueue (b a : StationId) (c : Cabin) : Cabin :=
  let c := if c.queue.ignored.contains b then ignoreStation a (unignoreStation b c) else c
  eachIdx 8 (fun i c => modifyEntry i (fun e =>
    match e.kind with
    | .traffic s x => if s = b then { e with kind := .traffic a x } else e
    | _ => e) c) c

/-- Relabel the channel that carried B to A, without retuning; a follow is abandoned (04 R77, 05 R100). -/
def relabelChan (b a : StationId) (x : Chan) (c : Cabin) : Cabin :=
  if (c.chan x).station = some b then
    settleRoles (abandonFollow x (setChan x { c.chan x with station := some a } c))
  else c

/-- The merge re-points a route or the watch station (04 R76), an input of the traffic condition (06 R116). -/
def repoints (c : Cabin) (b : StationId) : Bool :=
  routeKeys.any (fun x => decide ((c.route x.1 x.2).record.map (·.source) = some (.station b))) ||
  decide (c.table.watch.map (·.station) = some b)

/-- Merge the record of slot `b` into the record of slot `a` (04 R76, R77). -/
def mergeInto (b a : Fin 40) (c : Cabin) : Cabin :=
  match (c.stationSlot b).record, (c.stationSlot a).record with
  | some rb, some ra =>
    let hb := c.stationId b
    let ha := c.stationId a
    let relabel := carried c hb
    let retest := relabel || repoints c hb
    let c := setStationSlot a { c.stationSlot a with
      record := some (if relabel then relabelledRecord ra rb else mergedRecord ra rb) } c
    let c := relabelChan hb ha .pc1 (relabelChan hb ha .pc0 c)
    let c := routeKeys.foldl (fun c x => repointAt hb ha x c) c
    let c := { c with table := { c.table with watch := c.table.watch.map fun w =>
      if w.station = hb then { w with station := ha } else w } }
    let c := repointQueue hb ha c
    let c := postBoth .stations (retireStationSlot b c)
    let c := if retest then testStation ha c else c
    if relabel then markStationStale ha c else c
  | _, _ => c

/-- The record takes an identity it did not have; what it learned from another identity goes, and
STATIONS is posted (04 R75, last two cases). -/
def takeIdentity (i : Fin 40) (code : Nat) (c : Cabin) : Cabin :=
  match (c.stationSlot i).record with
  | none => c
  | some r =>
    let r' : Station :=
      if r.identity = none then { r with identity := some code, deferred := none }
      else { r with identity := some code, deferred := none, name := Tab.fill 4 none, tp := none,
                    ta := none, alternates := [] }
    let c := setStationSlot i { c.stationSlot i with record := some r' } c
    postBoth .stations (if r.identity = none then c else unignoreStation (c.stationId i) c)

/-- Apply an accepted identity to the record of slot `i` (04 R75). -/
def applyIdentity (i : Fin 40) (code : Nat) (c : Cabin) : Cabin :=
  match (c.stationSlot i).record with
  | none => c
  | some r =>
    if r.identity = some code then modifyStation i (fun r => { r with deferred := none }) c
    else match otherWithIdentity c i code with
      | some a =>
        if carried c (c.stationId i) && carried c (c.stationId a) then
          modifyStation i (fun r => { r with deferred := some code }) c
        else mergeInto i a c
      | none => takeIdentity i code c

/-- A deferred identity stands only while both records are carried and the other has the code (04 R78). -/
def deferralStands (c : Cabin) (i : Fin 40) (code : Nat) : Bool :=
  carried c (c.stationId i) &&
    match otherWithIdentity c i code with
    | none => false
    | some a => carried c (c.stationId a)

/-- A record whose deferral has ended, and its deferred code: the lowest-numbered slot first where two have
(log 14). -/
def endedDeferral (c : Cabin) : Option (Fin 40 × Nat) :=
  (firstIdx fun i => match (c.stationSlot i).record with
    | none => false
    | some r => match r.deferred with
      | none => false
      | some code => !deferralStands c i code).bind fun i =>
        match (c.stationSlot i).record with
        | none => none
        | some r => r.deferred.map fun code => (i, code)

/-- Arbitrate, and apply the deferred identities whose deferral has ended, until none is left (04 R78,
05 R88 to R90). Each application clears a deferral or retires a record, so 41 rounds are enough. -/
def settleStations : Nat → Cabin → Cabin
  | 0, c => c
  | n + 1, c =>
    let c := arbitrate c
    match endedDeferral c with
    | none => c
    | some (i, code) => settleStations n (applyIdentity i code c)

def settleAllocator (c : Cabin) : Cabin := settleStations 41 c

/-! ## What follows a change of records -/

/-- After the route states' inputs have settled: derive them again, find audibility and voices again, and let
the builder start (01 R7, 03 R45, 06 R106). -/
def settleRoutes (c : Cabin) : Cabin := startBuild (refreshSound (rederiveRoutes c))

/-- After a change in the directory, the watch station or the identities: find demand again and
arbitrate, then all that follows. A build that starts reads the new assignment (log 17). -/
def settleDirectory (c : Cabin) : Cabin := settleRoutes (settleAllocator c)

/-- The same after a change of an input of the traffic condition, which is tested after the arbitration
(06 R116; log 35). -/
def settleInputs (c : Cabin) : Cabin := settleRoutes (testTraffic (settleAllocator c))

end Sys2Proof.Machine
end

