-- ==== Sys2Proof/Machine/Canceller.lean ====
section
/-! DEFINITION. The echo canceller's states and the evaluation of its blocks (07 section 7.7). -/

namespace Sys2Proof.Machine

def setCanceller (v : Canceller) (c : Cabin) : Cabin :=
  { c with calls := { c.calls with canceller := v } }

/-- Change the canceller's state, posting ECHO to the front port (07 R133). -/
def enterEcho (v : Canceller) (c : Cabin) : Cabin := post .front .echo (setCanceller v c)

/-- CONVERGING as entered from IDLE: the first block begins at the first sample that follows (07 R133). -/
def freshConverging : Canceller := { idleCanceller with state := .converging }

/-- The canceller follows the presence of an ACTIVE call: CONVERGING from IDLE when there is one, IDLE
when there is none (07 R133). -/
def followActiveCall (c : Cabin) : Cabin :=
  match activeCall c with
  | some _ => if c.calls.canceller.state = .idle then enterEcho freshConverging c else c
  | none => if c.calls.canceller.state = .idle then c else enterEcho idleCanceller c

/-- CONVERGING entered from a state other than IDLE, or restarted: its count starts at 0 and the block in
progress is discarded (07 R133, R136). -/
def restartConverging (v : Canceller) : Canceller :=
  { v with state := .converging, run := 0, discard := true }

/-- A reconvergence trigger (07 R136). -/
def reconverge (c : Cabin) : Cabin :=
  match c.calls.canceller.state with
  | .idle => c
  | .converging => setCanceller (restartConverging c.calls.canceller) c
  | .tracking => enterEcho (restartConverging c.calls.canceller) c
  | .doubleTalk => enterEcho (restartConverging c.calls.canceller) c

/-- The samples of a block (07 R133). -/
def blockSamples : Nat := 3072

/-- Pm, the mean square over the block, is below -70 dBFS (07 R134; log 19). -/
def quietBlock (v : Canceller) : Bool :=
  decide (v.micSquares * 10 ^ 7 < blockSamples * 8388608 ^ 2)

/-- 10 * log10(Pm / Pr) is at least `h` half decibels, exactly. -/
def erleAtLeast (pm pr h : Nat) : Bool := decide (10 ^ h * pr ^ 20 ≤ pm ^ 20)

/-- The ERLE of a block in half decibels: rounded down to a multiple of 0.5 dB and limited to 0..60 dB;
60 dB where Pr is 0 (07 R134). -/
def erle (v : Canceller) : Nat :=
  if v.residualSquares = 0 then 120
  else ((List.range 120).filter fun h => erleAtLeast v.micSquares v.residualSquares (h + 1)).length

/-- The next block, with the canceller's state kept (07 R133). -/
def nextBlock (v : Canceller) : Canceller :=
  { v with discard := false, samples := 0, micSquares := 0, residualSquares := 0 }

/-- Apply an evaluated block of this ERLE to the state (07 R135). -/
def applyBlock (h : Nat) (c : Cabin) : Cabin :=
  let v := nextBlock c.calls.canceller
  match v.state with
  | .idle => c
  | .converging =>
    if 36 ≤ h then
      if 8 ≤ v.run + 1 then enterEcho { v with state := .tracking, run := 0 } c
      else setCanceller { v with run := v.run + 1 } c
    else setCanceller { v with run := 0 } c
  | .tracking =>
    if h < 12 then enterEcho { v with state := .doubleTalk, run := 0 } c else setCanceller v c
  | .doubleTalk =>
    if 24 ≤ h then
      if 4 ≤ v.run + 1 then enterEcho { v with state := .tracking, run := 0 } c
      else setCanceller { v with run := v.run + 1 } c
    else setCanceller { v with run := 0 } c

/-- The end of a block (07 R133 to R135): a discarded or quiet block changes no run. -/
def endBlock (c : Cabin) : Cabin :=
  let v := c.calls.canceller
  if v.state = .idle ∨ v.samples < blockSamples then c
  else if v.discard ∨ quietBlock v then setCanceller (nextBlock v) c
  else applyBlock (erle v) c

/-- The DOUBLE-TALK timer runs out (07 R135). -/
def doubleTalkOut (c : Cabin) : Cabin :=
  if c.calls.canceller.state = .doubleTalk then enterEcho (restartConverging c.calls.canceller) c else c

/-- ECHO_BLOCK_END (07 R135). -/
def execEchoBlockEnd (s : State) : Outcome := .next (s.onCab endBlock)

/-- DOUBLE_TALK_TIMEOUT (07 R135). -/
def execDoubleTalkTimeout (s : State) : Outcome := .next (s.onCab doubleTalkOut)

end Sys2Proof.Machine
end

