-- ==== Sys2Proof/Machine/Mix.lean ====
section
/-! DEFINITION. The mix engine: targets, the ramp tick, the sample instant (02), the uplink (07 section
7.6) and the installation of a plan (03 section 3.4). -/

namespace Sys2Proof.Machine

/-! ## Targets (02 sections 2.4 and 2.5) -/

/-- The duck offset of a route contribution (02 R29); silent for a silenced MUTE route. -/
def duckOffset (m : MixZone) (d : DuckClass) : Level :=
  match d with
  | .ignore => .steps 0
  | .mute => if m.audible.isSome || m.listened.isSome then .silent else .steps 0
  | .duck =>
    match m.recorded with
    | none => .steps 0
    | some v =>
      match m.audible, m.listened with
      | none, none => .steps 0
      | some _, none => .steps v.duckDepth
      | none, some _ => .steps v.callDuckDepth
      | some _, some _ => .steps (min v.duckDepth v.callDuckDepth)

/-- The zone's audible entry is a TRAFFIC entry that names this source (02 R30). -/
def bulletinOn (m : MixZone) (src : PlanSource) : Bool :=
  match m.audible with
  | none => false
  | some a => match a.kind with
    | .traffic x => decide (src = .chan x)
    | _ => false

/-- The user mute recorded in the plan (02 R30). -/
def recordedMute (m : MixZone) : Bool :=
  match m.recorded with
  | none => false
  | some v => v.userMute

/-- The capped level plus duck and crank offsets, or silent (02 R30). -/
def routeTarget (e : ZoneEntry) (crank : Int) (m : MixZone) (x : RouteShare) : Level :=
  if bulletinOn m x.source || recordedMute m then .silent
  else match duckOffset m x.duck with
    | .silent => .silent
    | .steps d => (x.planned.cap e.ceiling).add (d + crank)

/-- The level an overlay takes (02 R33); none for the overlay of a call that is no more. -/
def overlayLevel (c : Cabin) (e : ZoneEntry) : OverlayKey → Option Int
  | .entry a => match a.kind with
    | .traffic _ => some e.traffic
    | .nav => some e.nav
    | .chime => some e.chime
    | .ring => some e.ring
    | .waiting => some e.ring
  | .call h =>
    if (c.callSlot h.slot).gen = h.gen then (c.callSlot h.slot).record.map (·.level) else none

/-- The target of an overlay that is not departing (02 R33). -/
def overlayTarget (c : Cabin) (e : ZoneEntry) (crank : Int) (k : OverlayKey) : Level :=
  match overlayLevel c e k with
  | none => .silent
  | some l => ((Level.steps l).cap e.ceiling).add (max crank (-12))

/-- Every target is silent while the line is seen asserted (02 R34). -/
def inForce (muted : Bool) (t : Level) : Level := if muted then .silent else t

/-! ## The ramp tick (02 R34 to R36) -/

/-- A contribution of the plan after a tick; settling ends when it meets its target (03 R52). -/
def tickShare (c : Cabin) (muted : Bool) (t : Level) (x : RouteShare) : RouteShare :=
  let cur := tickLevel muted x.current t
  { x with current := cur, settling := x.settling && decide (cur ≠ inForce muted t),
           audibleSince := !cur.isSilent && sharePlaying c x }

/-- A departing contribution after a tick: its target is silent (02 R30, R35). -/
def tickLeaving (c : Cabin) (muted : Bool) (x : RouteShare) : RouteShare :=
  let cur := tickLevel muted x.current .silent
  { x with current := cur, audibleSince := !cur.isSilent && sharePlaying c x }

/-- What the mix engine holds for a zone after a tick; departing contributions that have become silent
leave it (02 R32, R34, R35). -/
def tickMixZone (c : Cabin) (crank : Int) (muted : Bool) (z : Zone) (m : MixZone) : MixZone :=
  { m with
    routes := m.routes.map fun x => tickShare c muted (routeTarget (c.zone z) crank m x) x
    leaving := (m.leaving.map (tickLeaving c muted)).filter fun x => !x.current.isSilent
    overlays := m.overlays.map fun o =>
      { o with current := tickLevel muted o.current (overlayTarget c (c.zone z) crank o.key) }
    leavingOverlays := (m.leavingOverlays.map fun o =>
      { o with current := tickLevel muted o.current .silent }).filter fun o => !o.current.isSilent }

/-- The contribution has been above silent from the last tick to this one, its route PLAYING and its
handle live all that time (02 R36). -/
def earnsHeard (c : Cabin) (before after : RouteShare) : Bool :=
  before.audibleSince && !after.current.isSilent && sharePlaying c before

/-- Set the heard mark of a route (02 R36). -/
def markHeard (h : RouteId) (c : Cabin) : Cabin :=
  match c.liveRoute h with
  | none => c
  | some r => setRouteRecord h.list h.slot { r with heard := true } c

/-- The routes that earn their heard mark at a tick (02 R36). -/
def heardRoutes (c : Cabin) (crank : Int) (muted : Bool) (z : Zone) : List RouteId :=
  let m := c.mixZone z
  ((m.routes.filter fun x => earnsHeard c x (tickShare c muted (routeTarget (c.zone z) crank m x) x)) ++
   (m.leaving.filter fun x => earnsHeard c x (tickLeaving c muted x))).map (·.route)

/-- The uplink level's target (07 R132). -/
def uplinkTarget (v : Calls) : Int :=
  v.uplinkGain + (if v.canceller.state = .converging then -18 else 0)

/-- The NAV timer and the 300 s of a TRAFFIC entry run down in real time (06 R115, R117; log 2). -/
def runDown (e : Entry) : Entry :=
  match e.kind with
  | .nav => { e with timeLeft := e.timeLeft - 1 }
  | .traffic _ _ => { e with timeLeft := e.timeLeft - 1 }
  | _ => e

/-- A ramp tick: heard marks, every contribution, the uplink level, the times remaining, and the HOLDING
condition (02 R34 to R36, 03 R52, 07 R132). -/
def rampCabin (crank : Int) (muted : Bool) (c : Cabin) : Cabin :=
  let heard := Zone.all.flatMap (heardRoutes c crank muted)
  let c' := mapMixZones (tickMixZone c crank muted) (heard.foldl (fun c h => markHeard h c) c)
  let c' := { c' with calls := { c'.calls with
    uplinkLevel := stepTowards c'.calls.uplinkLevel (uplinkTarget c'.calls) } }
  settleHold (eachIdx 8 (fun i c => modifyEntry i runDown c) c')

/-- RAMP_TICK (02 R34). -/
def execRampTick (s : State) : Outcome :=
  .next (s.onCab (rampCabin s.supply.crank s.ring.lineSeen))

/-! ## The sample instant (02 sections 2.3, 2.7, 2.8) -/

/-- A programme channel gives the audio of its selected tuner (05 R95, R98), and 0 while it carries no station,
while its tuner is away and while the tuners are stopped; the samples of an MW station are equal (02 R27; log 21). -/
def chanSample (c : Cabin) (x : SampleIn) (y : Chan) : Int × Int :=
  match (c.chan y).station, selectedTuner (c.chan y) with
  | some h, some t =>
    if tunerAway c y || c.alloc.stopped then (0, 0)
    else
      let v := x.tuner.get t
      match freqOf c h with
      | none => (v.l.toInt, v.r.toInt)
      | some f => if f.band = .mw then (v.l.toInt, v.l.toInt) else (v.l.toInt, v.r.toInt)
  | _, _ => (0, 0)

/-- A route contribution's source samples (02 R27). -/
def sourceSample (c : Cabin) (x : SampleIn) : PlanSource → Int × Int
  | .chan y => chanSample c x y
  | .media n =>
    if c.dir.media.get n then ((x.media.get n).l.toInt, (x.media.get n).r.toInt) else (0, 0)

/-- A voice gives its tone during an on-period and 0 otherwise (06 R111). -/
def voiceSample (v : Voice) : Int :=
  match v.cadence with
  | .on _ => toneSample v.tone v.sample
  | _ => 0

/-- The sample of the voice that an entry holds, 0 while it holds none (02 R27). -/
def entryVoiceSample (c : Cabin) (a : EntryId) : Int :=
  if c.entryId a.slot = a then
    match voiceOf c a.slot with
    | none => 0
    | some v => match c.queue.voices.get v with
      | none => 0
      | some x => voiceSample x
  else 0

/-- An overlay's source samples (02 R27). -/
def overlaySample (c : Cabin) (x : SampleIn) : OverlayKey → Int × Int
  | .entry a => match a.kind with
    | .traffic y => chanSample c x y
    | .nav => (x.nav.toInt, x.nav.toInt)
    | .chime => let v := entryVoiceSample c a.entry; (v, v)
    | .ring => let v := entryVoiceSample c a.entry; (v, v)
    | .waiting => let v := entryVoiceSample c a.entry; (v, v)
  | .call _ => (x.phoneDl.toInt, x.phoneDl.toInt)

/-- The scaled left and right samples of every contribution of a zone (02 R37). -/
def scaledFeeds (c : Cabin) (x : SampleIn) (z : Zone) : List (Int × Int) :=
  let m := c.mixZone z
  let scaled (l : Level) (v : Int × Int) : Int × Int := (scale (factor l) v.1, scale (factor l) v.2)
  ((m.routes ++ m.leaving).map fun r => scaled r.current (sourceSample c x r.source)) ++
  ((m.overlays ++ m.leavingOverlays).map fun o => scaled o.current (overlaySample c x o.key))

/-- What the channel matrix feeds a zone channel with: left, right, or the floor of half their sum
(02 R38). -/
inductive Feed where
  | left | right | mid
  deriving DecidableEq, Repr

/-- One contribution's feed (02 R38). -/
def Feed.of : Feed → Int × Int → Int
  | .left, v => v.1
  | .right, v => v.2
  | .mid, v => (v.1 + v.2) / 2

/-- The zone and the feed of each zone channel (02 R38). -/
def channelFeed (i : ZoneChan) : Zone × Feed :=
  match i with
  | 0 => (.z0, .left) | 1 => (.z0, .right) | 2 => (.z0, .mid) | 3 => (.z0, .mid)
  | 4 => (.z1, .left) | 5 => (.z1, .right) | 6 => (.z1, .left) | 7 => (.z1, .right)
  | 8 => (.z2, .left) | 9 => (.z2, .right)
  | 10 => (.z3, .left) | 11 => (.z3, .right)
  | 12 => (.z4, .left) | 13 => (.z4, .right)

/-- The sum of a zone channel before saturation (02 R39). -/
def channelSum (feeds : PerZone (List (Int × Int))) (i : ZoneChan) : Int :=
  ((feeds.get (channelFeed i).1).map (channelFeed i).2.of).sum

/-- Set a zone's clip flags, posting ZONE to the port of each that was clear (01 R3, 02 R39). -/
def setClip (z : Zone) (c : Cabin) : Cabin :=
  let e := c.zone z
  let c' := setZoneEntry z { e with clip := PerPort.both true } c
  postIf (!e.clip.rear) .rear .zone (postIf (!e.clip.front) .front .zone c')

/-- The zone has a channel whose sum is saturated (02 R39). -/
def clips (feeds : PerZone (List (Int × Int))) (z : Zone) : Bool :=
  (List.finRange 14).any fun i =>
    decide ((channelFeed i).1 = z) && decide (saturate (channelSum feeds i) ≠ channelSum feeds i)

/-- The feeds of every zone; none while the part is STARTING (02 R40, R41). -/
def allFeeds (c : Cabin) (x : SampleIn) : PerZone (List (Int × Int)) :=
  if c.ports.part.posts then PerZone.build (scaledFeeds c x) else PerZone.fill []

/-- A voice in an on-period goes on to its next sample (06 R111). -/
def advanceVoice (v : Voice) : Voice :=
  match v.cadence with
  | .on _ => { v with sample := v.sample + 1 }
  | _ => v

/-- The zone channels and clip flags of a sample instant (02 R38, R39). -/
def mixCabin (x : SampleIn) (c : Cabin) : Cabin :=
  let feeds := allFeeds c x
  let c' := { c with
    mix := { c.mix with channels := Tab.build 14 fun i => saturate (channelSum feeds i) }
    queue := { c.queue with voices := c.queue.voices.map (·.map advanceVoice) } }
  Zone.all.foldl (fun c z => if clips feeds z then setClip z c else c) c'

/-- The canceller's reference: the unsaturated sum of the ten zone channels of Z0, Z1 and Z2 (07 R133). -/
def echoReference (c : Cabin) : Int := ((List.finRange 10).map fun i => c.mix.channels.get (i.castLE (by omega))).sum

/-! ## The uplink (07 R132) -/

/-- A microphone signal scaled by its trim and saturated (07 R132, 09 R156). -/
def trimmed (trim : Int) (s : Sample) : Int := saturate (scale (factorOf trim) s.toInt)

/-- The selected microphone signal (07 R132). -/
def selectTalker (t : Talker) (d p : Int) : Int :=
  match t with
  | .driver => d
  | .passenger => p
  | .both => (d + p) / 2

/-- One sample of the block in progress. A block that has all its samples and has not been evaluated
gives way to the next (log 3). -/
def countSample (mic residual : Int) (v : Canceller) : Canceller :=
  if v.state = .idle then v
  else
    let v := if v.samples < blockSamples then v else nextBlock v
    { v with samples := v.samples + 1, micSquares := v.micSquares + mic.natAbs ^ 2,
             residualSquares := v.residualSquares + residual.natAbs ^ 2 }

/-- The estimate of the path adapts in CONVERGING and TRACKING; in DOUBLE-TALK it is frozen (07 R133; log 7). -/
def adaptPath (n : Nat) (reference mic : Int) (v : Canceller) : Canceller :=
  match v.state with
  | .idle => v
  | .converging => { v with path := Config.adaptedPath v.path reference mic n }
  | .tracking => { v with path := Config.adaptedPath v.path reference mic n }
  | .doubleTalk => v

/-- One sample of the uplink (07 R132): 0 while no call is ACTIVE or the ACTIVE call is muted. The echo taken away
is that of the reference over the estimated path (07 R133); `n` numbers the free values (log 7). -/
def uplinkCabin (img : Image) (n : Nat) (x : SampleIn) (c : Cabin) : Cabin :=
  match (activeCall c).bind fun i => (c.callSlot i).record with
  | none => { c with calls := { c.calls with phoneUl := 0 } }
  | some r =>
    let mic := selectTalker r.talker (trimmed img.driverTrim x.driver) (trimmed img.passengerTrim x.passenger)
    let residual := mic - Config.echoEstimate c.calls.canceller.path (echoReference c) n
    { c with calls := { c.calls with
      phoneUl := if r.uplinkMute then 0 else saturate (scale (factorOf c.calls.uplinkLevel) residual)
      canceller := adaptPath n (echoReference c) mic (countSample mic residual c.calls.canceller) } }

/-! ## The ring's outgoing frame (02 R40, 08 R138, R143) -/

/-- The zone channel sounds on a channel of a node: it is mapped to it and CARRIED, or mapped to it while the ring is
not UP, when every node counts as configured (08 R138, R143; log 29). -/
def soundsOn (g : Ring) (i : Fin 6) (k : Fin 8) (z : ZoneChan) : Bool :=
  decide ((g.placement.get z).entry = some (i.val, k.val)) &&
  (decide (g.state ≠ .up) || decide ((g.placement.get z).status = .carried))

/-- The sample a frame carries for a node channel, none where no zone channel sounds on it. -/
def nodeSample (g : Ring) (channels : Tab Int 14) (i : Fin 6) (k : Fin 8) : Option Int :=
  (firstIdx (soundsOn g i k)).map channels.get

/-- Send the frame of a sample instant (08 R138). -/
def sendFrame (s : State) : State :=
  { s with ring := { s.ring with
    frame := Tab.build 6 fun i => Tab.build 8 fun k => nodeSample s.ring s.cab.mix.channels i k } }

/-- A sample instant: the zone channels, the uplink and the ring's frame (02 R39, R40, 07 R132, 08 R138). -/
def mixSample (x : SampleIn) (s : State) : State :=
  { sendFrame (s.onCab fun c => uplinkCabin s.supply.image s.free x (mixCabin x c)) with free := s.free + 1 }

/-- MIX_SAMPLE (02 R39). -/
def execMixSample (x : SampleIn) (s : State) : Outcome := .next (mixSample x s)

/-! ## Installing a plan (03 section 3.4) -/

/-- A contribution of the new set is the same as one in the plan (03 R47). -/
def sameShare (n : BuiltShare) (x : RouteShare) : Bool :=
  !n.orphaned && !x.orphaned && decide (n.route = x.route) && decide (n.source = x.source)

/-- What a contribution of the new set becomes: it persists, and is settling if the installation changes its target
from `before` to `after`; or it is taken back; or it is new (03 R47, R52). -/
def installShare (before after : RouteShare → Level) (m : MixZone) (n : BuiltShare) : RouteShare :=
  match m.routes.find? (sameShare n) with
  | some x =>
    let y := { x with duck := n.duck, planned := n.planned }
    { y with settling := x.settling || decide (before x ≠ after y) }
  | none =>
    match m.leaving.find? (sameShare n) with
    | some x => { x with duck := n.duck, planned := n.planned, settling := true }
    | none =>
      { route := n.route, orphaned := n.orphaned, source := n.source, duck := n.duck,
        planned := n.planned, current := .silent, settling := true, audibleSince := false }

/-- The departing contributions that a new set takes back are gone from the list (03 R47). -/
def takeBack (m : MixZone) (l : List RouteShare) (n : BuiltShare) : List RouteShare :=
  if m.routes.any (sameShare n) then l else l.eraseP (sameShare n)

/-- The target in force of a contribution (02 R30, R34). -/
def targetInForce (e : ZoneEntry) (crank : Int) (muted : Bool) (m : MixZone) (x : RouteShare) : Level :=
  inForce muted (routeTarget e crank m x)

/-- The plan after the installation, at most 16 contributions in all (03 R47, R48, R52). -/
def installZone (e : ZoneEntry) (crank : Int) (muted : Bool) (j : BuildJob) (m : MixZone) : MixZone :=
  let new := { m with recorded := some j.values }
  let routes := j.shares.map (installShare (targetInForce e crank muted m) (targetInForce e crank muted new) m)
  let gone := (m.routes.filter fun x => !j.shares.any fun n => sameShare n x).map fun x => { x with settling := true }
  let leaving := j.shares.foldl (takeBack m) m.leaving ++ gone
  { new with routes := routes, leaving := trimTo (·.current) (16 - routes.length) leaving }

/-- The route handle and source pairs of a plan (03 R49). -/
def sharePairs (m : MixZone) : List (RouteId × PlanSource) := m.routes.map fun x => (x.route, x.source)

/-- Two lists of pairs hold the same set. -/
def samePairs (a b : List (RouteId × PlanSource)) : Bool := a.all b.contains && b.all a.contains

/-- The zones whose changes the canceller is told of (03 R49). -/
def loudspeakerZone : Zone → Bool
  | .z0 => true
  | .z1 => true
  | .z2 => true
  | .z3 => false
  | .z4 => false

/-- A build ends: its plan is installed, a cabin change notice is given, the HOLDING condition is tested
and the next build starts (03 R45, R47, R49, R52). -/
def completeBuild (crank : Int) (muted : Bool) (c : Cabin) : Cabin :=
  match c.builder.job with
  | none => c
  | some j =>
    let old := c.mixZone j.zone
    let new := installZone (c.zone j.zone) crank muted j old
    let c := { setMixZone j.zone new c with builder := { c.builder with job := none } }
    let c := if loudspeakerZone j.zone && !samePairs (sharePairs old) (sharePairs new) then reconverge c else c
    startBuild (settleHold c)

/-- PLAN_BUILD_COMPLETE (03 R47). -/
def execPlanBuildComplete (s : State) : Outcome :=
  .next (s.onCab (completeBuild s.supply.crank s.ring.lineSeen))

end Sys2Proof.Machine
end

