-- ==== Sys2Proof/Machine/Layout.lean ====
section
/-! DEFINITION. The word layouts of responses and the status word (10 R159, R167). -/

namespace Sys2Proof.Machine

/-! ## Single fields -/

def natWord (n : Nat) : Word := BitVec.ofNat 16 n

/-- A signed number in two's complement (10 R167). -/
def intWord (n : Int) : Word := BitVec.ofInt 16 n

def flagWord (b : Bool) : Word := if b then 1 else 0

/-- The word for none, unmeasured, or the named alternative (10 R167). -/
def noneWord : Word := 65535

def optWord : Option Nat → Word
  | none => noneWord
  | some n => natWord n

/-- A field of yes, no or absent is 1, 0 or 2 (10 R167). -/
def triState : Option Bool → Nat
  | some true => 1
  | some false => 0
  | none => 2

/-- A handle: generation in bits 15 to 12, list in bits 11 to 8, slot in bits 7 to 0 (10 R167). -/
def handleWord (list slot gen : Nat) : Word := natWord (gen * 4096 + list * 256 + slot)

def stationWord (h : StationId) : Word := handleWord 0 h.slot.val h.gen.val
def entryWord (h : EntryId) : Word := handleWord 0 h.slot.val h.gen.val
def callWord (h : CallId) : Word := handleWord 0 h.slot.val h.gen.val
def routeWord (h : RouteId) : Word := handleWord h.list.val h.slot.val h.gen.val

def optHandle {α : Type} (f : α → Word) : Option α → Word
  | none => noneWord
  | some h => f h

/-- Bits packed into a word, the first at bit 0. -/
def packBits : List Bool → Nat
  | [] => 0
  | b :: bs => (if b then 1 else 0) + 2 * packBits bs

def bitsWord (bs : List Bool) : Word := natWord (packBits bs)

/-- A set of zones has bit n set for zone Zn (10 R167). -/
def zoneSetWord (s : ZoneSet) : Word := bitsWord [s.z0, s.z1, s.z2, s.z3, s.z4]

/-! ## Enumerations, numbered from 0 in the order of their chapters (10 R167) -/

def Result.num : Result → Nat
  | .done => 0 | .accepted => 1 | .clamped => 2 | .stale => 3 | .denied => 4 | .full => 5
  | .conflict => 6 | .wrongState => 7 | .busy => 8 | .malformed => 9

def RouteState.num : RouteState → Nat
  | .parked => 0 | .unlinked => 1 | .waiting => 2 | .tuning => 3 | .silent => 4 | .playing => 5

def DuckClass.num : DuckClass → Nat
  | .duck => 0 | .mute => 1 | .ignore => 2

def Band.num : Band → Nat
  | .fm => 0 | .mw => 1

def StationState.num : StationState → Nat
  | .candidate => 0 | .listed => 1 | .lost => 2

def Role.num : Role → Nat
  | .programme => 0 | .diversity => 1 | .scan => 2 | .followCheck => 3 | .idle => 4

def EntryKind.num : EntryKind → Nat
  | .chime _ => 0 | .nav => 1 | .traffic _ _ => 2 | .ring _ => 3 | .waiting _ => 4

def EndReason.num : EndReason → Nat
  | .completed => 0 | .requested => 1 | .timedOut => 2 | .cleared => 3 | .uncarried => 4
  | .displaced => 5 | .call => 6

def CallState.num : CallState → Nat
  | .ringing => 0 | .active => 1 | .held => 2

def Talker.num : Talker → Nat
  | .driver => 0 | .passenger => 1 | .both => 2

def EchoState.num : EchoState → Nat
  | .idle => 0 | .converging => 1 | .tracking => 2 | .doubleTalk => 3

def NodeState.num : NodeState → Nat
  | .absent => 0 | .discovered => 1 | .exchanging => 2 | .configuring => 3 | .running => 4 | .fault => 5

def nodeKindNum : NodeKind → Nat
  | .speakerAmp => 0 | .headphoneAmp => 1 | .subAmp => 2

/-- None is 0, and EXCHANGE, REFUSED, REPORTED 1 to 3 (10 R167). -/
def faultNum : Option NodeFault → Nat
  | none => 0
  | some .exchange => 1
  | some .refused => 2
  | some .reported => 3

def PlaceStatus.num : PlaceStatus → Nat
  | .unplaced => 0 | .pending => 1 | .carried => 2

def RingState.num : RingState → Nat
  | .down => 0 | .locking => 1 | .up => 2

/-- STARTING 0, RUNNING 1, LITE-RESET 2 (10 R167); a held part shifts out 0 (10 R161). -/
def PartState.num : PartState → Nat
  | .held => 0 | .starting => 0 | .running => 1 | .liteReset => 2

def HoldState.num : HoldState → Nat
  | .running => 0 | .pending => 1 | .holding => 2

def SupplyState.num : SupplyState → Nat
  | .normal => 0 | .dip => 1 | .settle => 2 | .recover => 3 | .low => 4

def tunerNum : TunerId → Nat
  | .t0 => 0 | .t1 => 1

def chanNum : Chan → Nat
  | .pc0 => 0 | .pc1 => 1

/-! ## The status word (10 R159, R167) -/

/-- The status word a port captures when it is selected; 0 while the part is held (10 R159, R161). -/
def statusWord (s : State) (p : Port) : Word :=
  if s.cab.ports.part = .held then 0
  else natWord (s.cab.ports.part.num + 4 * s.cab.builder.hold.num + 16 * s.supply.state.num +
    128 * packBits [s.ring.lineSeen, attention s.cab p, (s.cab.ports.relay.get p.other).isSome,
                    (s.cab.ports.relay.get p).isSome, s.supply.imageAbsent] +
    4096 * s.ring.state.num)

/-- The words of a response: its header and its body (10 R167). -/
def responseWords (r : Response) : List Word := natWord (256 * r.result.num + r.body.length) :: r.body

/-! ## Records -/

/-- The two words of a source: kind and medium, then the station handle or none (10 R167). -/
def sourceWords : Source → List Word
  | .station h => [0, stationWord h]
  | .media n => [natWord (256 + n.val), noneWord]

/-- The route record of Read Route (10 R167). -/
def routeWords (h : RouteId) (r : RouteRecord) : List Word :=
  routeWord h :: sourceWords r.source ++
  [intWord r.gain, natWord r.priority, natWord r.duck.num,
   bitsWord [r.present, r.shared, r.pinned, r.heard, r.altered, decide (r.owner = .rear)],
   natWord r.state.num]

def acceptWord (a : AcceptSet) : Word := bitsWord [a.traffic, a.nav, a.chime]

/-- The fields of a zone entry in the order of 01 R1, the requesting port's own clip flag, the rear
control of Z1, and whether the zone is rear-changeable (01 R20; log 12). -/
def zoneWords (c : Cabin) (p : Port) (z : Zone) : List Word :=
  let e := c.zone z
  [flagWord e.present, optWord (e.list.map (·.val)), intWord e.volume, intWord e.ceiling,
   intWord e.duckDepth, intWord e.callDuckDepth, intWord e.traffic, intWord e.nav, intWord e.chime,
   intWord e.ring, acceptWord e.accept, flagWord e.userMute, flagWord (e.clip.get p),
   flagWord (decide (z = .z1) && c.dir.rearControl), flagWord (rearChangeable c z)]

/-- A name segment's two characters; the word of an absent one, which 10 R167 does not give, is 0 (log 12). -/
def segmentWord : Option Segment → Word
  | none => 0
  | some (a, b) => a ++ b

/-- Six pairs of channel and quality in list order, unused pairs none (10 R167). -/
def alternateWords : Nat → List Alternate → List Word
  | 0, _ => []
  | n + 1, [] => noneWord :: noneWord :: alternateWords n []
  | n + 1, a :: l => natWord a.chan :: optWord a.quality :: alternateWords n l

/-- The station record of Read Station and Walk Stations, 28 words (10 R167). -/
def stationWords (c : Cabin) (i : Fin 40) (r : Station) : List Word :=
  [stationWord (c.stationId i), natWord r.state.num, natWord r.freq.band.num, natWord r.freq.chan,
   natWord r.quality, natWord (r.identity.getD 0), natWord (r.deferred.getD 0),
   segmentWord (r.name.get 0), segmentWord (r.name.get 1), segmentWord (r.name.get 2), segmentWord (r.name.get 3),
   natWord (triState r.tp + 4 * triState r.ta), natWord r.alternates.length] ++
  alternateWords 6 r.alternates ++
  [natWord r.miss,
   bitsWord [r.received, r.isNew, r.kept.front, r.kept.rear, r.watched, decide (r.origin = .added),
             held c i, carried c (c.stationId i),
             (r.name.get 0).isSome, (r.name.get 1).isSome, (r.name.get 2).isSome, (r.name.get 3).isSome],
   natWord r.refs]

/-- The call record of Read Call, 9 words (10 R167). -/
def callWords (c : Cabin) (i : Fin 2) (r : CallRecord) : List Word :=
  [callWord (c.callId i), natWord r.state.num, zoneSetWord r.listeners, zoneSetWord (effectiveListeners r),
   intWord r.level, natWord r.talker.num, bitsWord [r.privacy, r.joinable, r.uplinkMute, r.ringUnplayed],
   optHandle entryWord r.tone, natWord c.calls.canceller.state.num]

/-- The node record of Read Node, 11 words (10 R167); a kind, count or level class that is none is 65535 (log 12). -/
def nodeWords (pos : Fin 6) (n : Node) : List Word :=
  [natWord pos.val, natWord n.state.num, optWord (n.kind.map nodeKindNum), optWord n.channels,
   optWord (n.levelClass.map (·.val)), natWord n.pages, flagWord n.toggle, natWord n.retry,
   natWord (faultNum n.fault), natWord n.corrupt,
   bitsWord [n.sticky.linkLost, n.sticky.overTemperature, n.sticky.outputShort, n.sticky.nodeSupply]]

def patternWords (t : Pattern) : List Word :=
  [natWord t.tone, natWord t.on, natWord t.off, natWord t.repeats, natWord t.priority, zoneSetWord t.targets]

/-! ## Read Announcements (06 R119; log 12) -/

/-- The pattern an entry plays (06 R104). -/
def entryPattern : EntryKind → Option (Fin 8)
  | .chime n => some n
  | .ring _ => some 7
  | .waiting _ => some 6
  | .nav => none
  | .traffic _ _ => none

/-- A time remaining in units of 100 ms; how a part of a unit is rounded is left open (06 R119; log 9). -/
def tenths (ms : Nat) : Nat :=
  if ms % 100 = 0 then ms / 100 else if Config.tenthsRoundUp ms then ms / 100 + 1 else ms / 100

def entryTime (e : Entry) : Word :=
  match e.kind with
  | .nav => natWord (tenths e.timeLeft)
  | .traffic _ _ => natWord (tenths e.timeLeft)
  | _ => noneWord

def entryStation : EntryKind → Word × Word
  | .traffic h x => (stationWord h, natWord (chanNum x))
  | _ => (noneWord, noneWord)

def entryCall : EntryKind → Word
  | .ring h => callWord h
  | .waiting h => callWord h
  | _ => noneWord

/-- The zones in which an entry is audible. -/
def audibleZones (c : Cabin) (i : Fin 8) : ZoneSet := PerZone.build (audibleIn c i)

/-- The fields of an entry in the order of 06 R119, all of them for every kind: a word that the entry's kind does not
have, or that has no value now, is 65535 (log 12). -/
def entryWords (c : Cabin) (i : Fin 8) (e : Entry) : List Word :=
  [entryWord (c.entryId i), natWord e.kind.num, optWord ((entryPattern e.kind).map (·.val)),
   natWord e.priority, zoneSetWord e.targets, flagWord (entryPlaying c i), zoneSetWord (audibleZones c i),
   optWord ((voiceOf c i).map (·.val)), entryTime e, (entryStation e.kind).1, (entryStation e.kind).2,
   entryCall e.kind]

/-- Insert an entry by queued order. -/
def insertByOrder (x : Fin 8 × Entry) : List (Fin 8 × Entry) → List (Fin 8 × Entry)
  | [] => [x]
  | y :: l => if x.2.order < y.2.order then x :: y :: l else y :: insertByOrder x l

/-- The entries in queued order, earliest first. -/
def entriesInOrder (c : Cabin) : List (Fin 8 × Entry) :=
  (List.finRange 8).foldl (fun l i => match (c.entrySlot i).entry with
    | none => l
    | some e => insertByOrder (i, e) l) []

/-- The fields of an end record in the order of 06 R119; the pattern of an entry that plays none is 65535 (log 12). -/
def endWords (r : EndRecord) : List Word :=
  [entryWord r.entry, natWord r.kind.num, optWord ((entryPattern r.kind).map (·.val)),
   natWord r.reason.num, r.number]

/-- The response of Read Announcements (06 R119). -/
def announcementWords (c : Cabin) : List Word :=
  [natWord (entriesInOrder c).length] ++ (entriesInOrder c).flatMap (fun x => entryWords c x.1 x.2) ++
  (Zone.all.map fun z => optHandle (fun (a : Audible) => entryWord a.entry) (c.mixZone z).audible) ++
  [natWord c.queue.ends.length] ++ c.queue.ends.flatMap endWords ++ [c.queue.endNumber]

/-! ## Read Reception (05 R102; log 12) -/

/-- The follow state: none 0, borrowing 1, self-probing 2, tuning to a winner 3, and the position in the probe list,
counted from 0 (log 12). -/
def followWords : Option Follow → List Word
  | none => [0, noneWord]
  | some f =>
    [match f.phase with
      | .tuningWinner _ => 3
      | _ => if f.borrows then 1 else 2, natWord f.pos]

/-- The channel quality, none where no measurement has been made since the last tuning (05 R102); which moments count
as a tuning is log 48. -/
def chanQuality (v : ProgChan) : Option Nat := if v.measured then some v.quality else none

/-- The fields of R102 for a channel, one word each. -/
def chanWords (v : ProgChan) : List Word :=
  [optHandle stationWord v.station, optWord (v.serving.map tunerNum), flagWord v.retuning,
   flagWord v.diversity, optWord ((selectedTuner v).map tunerNum), optWord (chanQuality v)] ++ followWords v.follow

/-- The fields of R102 for a tuner, one word each. -/
def tunerWords (v : Tuner) : List Word :=
  [natWord v.role.num, optWord (v.tuned.map (·.band.num)), optWord (v.tuned.map (·.chan)), optWord v.smoothed]

/-- A field of two items takes one word for each item (10 R167). -/
def interleave : List Word → List Word → List Word
  | [], l => l
  | a :: l, m => a :: m.take 1 ++ interleave l (m.drop 1)

def receptionWords (c : Cabin) : List Word :=
  interleave (chanWords (c.chan .pc0)) (chanWords (c.chan .pc1)) ++
  interleave (tunerWords (c.tuner .t0)) (tunerWords (c.tuner .t1))

/-! ## Read Ring (08 R148; log 12) -/

def mapEntryWord : Option (Nat × Nat) → Word
  | none => noneWord
  | some (p, k) => natWord (p * 256 + k)

/-- The words of the ring's records, each field of several items one word for each item (10 R167). The fault reason
takes the numbers that R167 gives it in the node record, none 0 and EXCHANGE to REPORTED 1 to 3: the model's choice for
Read Ring, which R167 leaves to its general layout (log 12, DESIGN CHOICE). -/
def nodeListWords (ns : List Node) : List Word :=
  ns.map (fun n => natWord n.state.num) ++ ns.map (fun n => optWord (n.kind.map nodeKindNum)) ++
  ns.map fun n => natWord (faultNum n.fault)

def placementWords (es : List Placement) : List Word :=
  es.map (fun e => mapEntryWord e.entry) ++ es.map fun e => natWord e.status.num

def ringWords (g : Ring) : List Word :=
  [natWord g.state.num] ++ nodeListWords g.nodes.cells ++ placementWords g.placement.cells ++
  [flagWord g.lineSeen, flagWord g.externalMute, bitsWord [g.drive.supply, g.drive.request, g.drive.liteReset]]

end Sys2Proof.Machine
end

