-- ==== Sys2Proof/Machine/Directory.lean ====
section
/-! DEFINITION. The requests on the route directory (01). -/

namespace Sys2Proof.Machine

/-! ## Shared effects on route records -/

/-- Take the changed record `new` for the record `old` of a slot: a change by the port that is not the
owner sets the altered mark and posts ROUTE to the owner, and the zones of the list become stale
(01 R9, 03 R44). -/
def changeRoute (p : Port) (l : Fin 8) (k : Fin 6) (old new : RouteRecord) (c : Cabin) : Cabin :=
  markListStale l (postIf (decide (p ≠ old.owner)) old.owner .route
    (setRouteRecord l k { new with altered := old.altered || decide (p ≠ old.owner) } c))

/-- Retire a route: its contributions are orphaned, the slot is freed and its generation advances, the
station loses a reference, the zones of the list become stale, and ROUTE goes to an owner who did not
ask (01 R6, R13, R18, 03 R53). -/
def retireRouteAt (p : Port) (l : Fin 8) (k : Fin 6) (r : RouteRecord) (c : Cabin) : Cabin :=
  let c' := orphanRoute ⟨l, k, (c.route l k).gen⟩ c
  let c' := setRouteSlot l k ⟨(c.route l k).gen + 1, none⟩ c'
  markListStale l (postIf (decide (p ≠ r.owner)) r.owner .route (dropRef r.source c'))

/-- Give a newly placed record its derived state; a placement posts no ROUTE (01 R15; log 15). -/
def settlePlaced (l : Fin 8) (k : Fin 6) (c : Cabin) : Cabin :=
  match (c.route l k).record with
  | none => c
  | some r => setRouteRecord l k { r with state := routeState c l r } c

/-- The state of the record in a slot, for the response to a placement. -/
def stateNum (c : Cabin) (l : Fin 8) (k : Fin 6) : Nat :=
  match (c.route l k).record with
  | none => 0
  | some r => r.state.num

/-! ## Place Route (01 R15) -/

/-- The well-formed operands of Place Route. -/
structure PlaceForm where
  list : Fin 8
  slot : Option (Fin 6)
  source : AskedSource
  duck : DuckClass
  shared : Bool
  pinned : Bool
  present : Bool
  deriving DecidableEq, Repr

/-- Check 1 of 01 R14 on Place Route. -/
def placeForm? (a : PlaceArgs) : Option PlaceForm :=
  match finOf? 8 a.list, askedSource? a.source, duckClass? a.duck, yesNo? a.shared, yesNo? a.pinned, yesNo? a.present with
  | some l, some src, some d, some sh, some pn, some pr =>
    match a.slot with
    | none => some ⟨l, none, src, d, sh, pn, pr⟩
    | some k => (finOf? 6 k).map fun k => ⟨l, some k, src, d, sh, pn, pr⟩
  | _, _, _, _, _, _ => none

/-- The named slot if it is free, or the lowest-numbered free slot (01 R15). -/
def placeSlot (c : Cabin) (f : PlaceForm) : Option (Fin 6) :=
  match f.slot with
  | some k => if (c.route f.list k).record = none then some k else none
  | none => firstIdx fun k => decide ((c.route f.list k).record = none)

/-- The record Place Route creates (01 R15); its state is derived before anyone sees it. -/
def placedRecord (p : Port) (f : PlaceForm) (src : Source) (a : PlaceArgs) : RouteRecord where
  present := f.present
  source := src
  gain := limit (-48) 24 a.gain
  priority := (limit 0 7 a.priority).toNat
  duck := f.duck
  owner := p
  shared := f.shared
  pinned := f.pinned
  heard := false
  altered := false
  state := .parked

def placeClamped (a : PlaceArgs) : Bool := limited (-48) 24 a.gain || limited 0 7 a.priority

/-- Place Route performed (01 R15): the arbitration comes before the state, the traffic test and the build that the
placement starts (log 15, log 17, log 35). -/
def placeAt (p : Port) (l : Fin 8) (k : Fin 6) (r : RouteRecord) (clamped : Bool) (c : Cabin) : Cabin :=
  let c' := settleAllocator (markListStale l (addRef r.source (setRouteRecord l k r c)))
  let c' := settleRoutes (testTraffic (settlePlaced l k c'))
  respond p (doneOr clamped) [routeWord ⟨l, k, (c.route l k).gen⟩, natWord (stateNum c' l k)] c'

def placeRoute (p : Port) (a : PlaceArgs) (c : Cabin) : Cabin :=
  match placeForm? a with
  | none => refuse p .malformed c
  | some f =>
    match resolveSource c f.source with
    | none => refuse p .stale c
    | some src =>
      if p = .rear ∧ (rearMayChangeList c f.list = false ∨ f.pinned = true) then refuse p .denied c
      else if f.present && listNames c f.list src then refuse p .conflict c
      else match placeSlot c f with
        | none => refuse p .full c
        | some k => placeAt p f.list k (placedRecord p f src a) (placeClamped a) c

/-! ## Alter Route (01 R16) -/

def alterForm (a : AlterArgs) : Bool :=
  optSourceOk a.source && optOk duckClass? a.duck && optOk yesNo? a.shared && optOk yesNo? a.pinned

/-- The record with the selected fields at their new values (01 R16). -/
def alteredRecord (r : RouteRecord) (src : Source) (a : AlterArgs) : RouteRecord :=
  { r with
    source := src
    gain := optLimit (-48) 24 r.gain a.gain
    priority := optLimitNat 0 7 r.priority a.priority
    duck := optRead duckClass? r.duck a.duck
    shared := optRead yesNo? r.shared a.shared
    pinned := optRead yesNo? r.pinned a.pinned }

def alterClamped (a : AlterArgs) : Bool := optLimited (-48) 24 a.gain || optLimited 0 7 a.priority

/-- The field rights of Alter Route: the rear port may not name pinned, nor shared on a record it does
not own (01 R10, R16). -/
def alterDenied (c : Cabin) (p : Port) (l : Fin 8) (r : RouteRecord) (a : AlterArgs) : Bool :=
  !mayChangeRoute c p l r ||
  (decide (p = .rear) && (a.pinned.isSome || (a.shared.isSome && decide (r.owner ≠ .rear))))

/-- References move with a change of source (01 R13). -/
def moveRef (old new : Source) (c : Cabin) : Cabin :=
  if old = new then c else addRef new (dropRef old c)

/-- Alter Route performed; nothing follows where no value changes (01 R9, R16). -/
def alterAt (p : Port) (l : Fin 8) (k : Fin 6) (r : RouteRecord) (src : Source) (a : AlterArgs) (c : Cabin) : Cabin :=
  let new := alteredRecord r src a
  respond p (doneOr (alterClamped a)) []
    (if new = r then c else settleInputs (moveRef r.source src (changeRoute p l k r new c)))

def alterRoute (p : Port) (h : Handle) (a : AlterArgs) (c : Cabin) : Cabin :=
  match routeKey? h with
  | none => refuse p .malformed c
  | some (l, k) =>
    if alterForm a then
      match routeOf c l k h with
      | none => refuse p .stale c
      | some r =>
        match optSource c r.source a.source with
        | none => refuse p .stale c
        | some src =>
          if alterDenied c p l r a then refuse p .denied c
          else if r.present && decide (src ≠ r.source) && duplicateIn c l (some k) src then refuse p .conflict c
          else alterAt p l k r src a c
    else refuse p .malformed c

/-! ## Park, Unpark, Retire Route (01 R17, R18) -/

/-- Park or Unpark performed (01 R17). -/
def setPresent (p : Port) (l : Fin 8) (k : Fin 6) (r : RouteRecord) (present : Bool) (c : Cabin) : Cabin :=
  respond p .done [] (settleInputs (changeRoute p l k r { r with present := present } c))

def parkRoute (p : Port) (h : Handle) (c : Cabin) : Cabin :=
  match routeKey? h with
  | none => refuse p .malformed c
  | some (l, k) =>
    match routeOf c l k h with
    | none => refuse p .stale c
    | some r =>
      if !mayChangeRoute c p l r then refuse p .denied c
      else if !r.present then refuse p .wrongState c
      else setPresent p l k r false c

def unparkRoute (p : Port) (h : Handle) (c : Cabin) : Cabin :=
  match routeKey? h with
  | none => refuse p .malformed c
  | some (l, k) =>
    match routeOf c l k h with
    | none => refuse p .stale c
    | some r =>
      if !mayChangeRoute c p l r then refuse p .denied c
      else if r.present then refuse p .wrongState c
      else if duplicateIn c l (some k) r.source then refuse p .conflict c
      else setPresent p l k r true c

def retireRoute (p : Port) (h : Handle) (c : Cabin) : Cabin :=
  match routeKey? h with
  | none => refuse p .malformed c
  | some (l, k) =>
    match routeOf c l k h with
    | none => refuse p .stale c
    | some r =>
      if !mayChangeRoute c p l r then refuse p .denied c
      else respond p .done [] (settleInputs (retireRouteAt p l k r c))

/-! ## Read Route, Clear Marks (01 R9, R18) -/

def readRoute (p : Port) (h : Handle) (c : Cabin) : Cabin :=
  match routeKey? h with
  | none => refuse p .malformed c
  | some (l, k) =>
    match routeOf c l k h with
    | none => refuse p .stale c
    | some r => respond p .done (routeWords ⟨l, k, (c.route l k).gen⟩ r) c

def clearMarks (p : Port) (h : Handle) (c : Cabin) : Cabin :=
  match routeKey? h with
  | none => refuse p .malformed c
  | some (l, k) =>
    match routeOf c l k h with
    | none => refuse p .stale c
    | some r =>
      if p ≠ r.owner then refuse p .denied c
      else respond p .done [] (setRouteRecord l k { r with heard := false, altered := false } c)

/-! ## Set Zone (01 R19) -/

def zoneForm (a : ZoneArgs) : Bool :=
  optOk yesNo? a.present && optOk yesNo? a.userMute && optOk acceptSet? a.accept

/-- What a requested ceiling becomes, `v` being the value limited to -192..0 (01 R19). -/
def settledCeiling (p : Port) (img : ZoneImage) (old v : Int) : Int :=
  match p with
  | .front => min v img.absoluteCeiling
  | .rear => if v ≤ old then v else max old (min v (min img.defaultCeiling img.absoluteCeiling))

def newCeiling (p : Port) (img : ZoneImage) (old : Int) : Option Int → Int
  | none => old
  | some v => settledCeiling p img old (limit (-192) 0 v)

/-- The zone entry with the selected fields at their new values (01 R19). -/
def changedZone (p : Port) (img : ZoneImage) (e : ZoneEntry) (a : ZoneArgs) : ZoneEntry :=
  { e with
    present := optRead yesNo? e.present a.present
    volume := optLimit (-192) 0 e.volume a.volume
    ceiling := newCeiling p img e.ceiling a.ceiling
    duckDepth := optLimit (-80) 0 e.duckDepth a.duckDepth
    callDuckDepth := optLimit (-80) 0 e.callDuckDepth a.callDuckDepth
    traffic := optLimit (-120) 0 e.traffic a.traffic
    nav := optLimit (-120) 0 e.nav a.nav
    chime := optLimit (-120) 0 e.chime a.chime
    ring := optLimit (-120) 0 e.ring a.ring
    accept := optRead acceptSet? e.accept a.accept
    userMute := optRead yesNo? e.userMute a.userMute }

/-- A number of Set Zone was limited, or the ceiling taken differs from the value asked (01 R19). -/
def zoneClamped (p : Port) (img : ZoneImage) (e : ZoneEntry) (a : ZoneArgs) : Bool :=
  optLimited (-192) 0 a.volume || optLimited (-80) 0 a.duckDepth || optLimited (-80) 0 a.callDuckDepth ||
  optLimited (-120) 0 a.traffic || optLimited (-120) 0 a.nav || optLimited (-120) 0 a.chime ||
  optLimited (-120) 0 a.ring ||
  (match a.ceiling with
   | none => false
   | some v => decide (newCeiling p img e.ceiling a.ceiling ≠ v))

/-- A changed zone entry: the zone is stale and ZONE goes to both ports (01 R1). -/
def changeZone (z : Zone) (e : ZoneEntry) (c : Cabin) : Cabin :=
  postBoth .zone (markStale z (setZoneEntry z e c))

/-- Set Zone performed; of its fields the accept set alone is an input of the traffic condition (01 R19, 06 R116). -/
def zoneChanged (z : Zone) (old new : ZoneEntry) (c : Cabin) : Cabin :=
  if old.accept = new.accept then settleDirectory (changeZone z new c) else settleInputs (changeZone z new c)

def setZone (img : Image) (p : Port) (zone : Nat) (a : ZoneArgs) (c : Cabin) : Cabin :=
  match Zone.ofNat? zone with
  | none => refuse p .malformed c
  | some z =>
    if !zoneForm a then refuse p .malformed c
    else if !mayChangeZone c p z || (decide (p = .rear) && a.present.isSome) then refuse p .denied c
    else
      let e := changedZone p (img.zones.get z) (c.zone z) a
      respond p (doneOr (zoneClamped p (img.zones.get z) (c.zone z) a)) []
        (if e = c.zone z then c else zoneChanged z (c.zone z) e c)

/-! ## Read Zone, Link List, Grant Rear Control (01 R20, R5, R4) -/

def readZone (p : Port) (zone : Nat) (c : Cabin) : Cabin :=
  match Zone.ofNat? zone with
  | none => refuse p .malformed c
  | some z =>
    respond p .done (zoneWords c p z)
      (setZoneEntry z { c.zone z with clip := (c.zone z).clip.set p false } c)

def listForm : Option Nat → Option (Option (Fin 8))
  | none => some none
  | some n => (finOf? 8 n).map some

def linkList (p : Port) (zone : Nat) (list : Option Nat) (c : Cabin) : Cabin :=
  match Zone.ofNat? zone, listForm list with
  | some z, some l =>
    if !mayChangeZone c p z then refuse p .denied c
    else respond p .done []
      (if (c.zone z).list = l then c else settleInputs (changeZone z { c.zone z with list := l } c))
  | _, _ => refuse p .malformed c

def grantRearControl (p : Port) (value : Nat) (c : Cabin) : Cabin :=
  match firstOfTwo? value with
  | none => refuse p .malformed c
  | some grant =>
    if p = .rear then refuse p .denied c
    else respond p .done []
      (if c.dir.rearControl = grant then c
       else postBoth .zone { c with dir := { c.dir with rearControl := grant } })

/-! ## Clear Zone Routes (01 R21) -/

/-- The routes Clear Zone Routes retires: in the lists linked by the named zones, not pinned, and such
as the port may change (01 R21). -/
def clearableRoutes (c : Cabin) (p : Port) (zs : ZoneSet) : List (Fin 8 × Fin 6) :=
  routeKeys.filter fun x =>
    (Zone.all.any fun z => zs.get z && links c x.1 z) &&
    match (c.route x.1 x.2).record with
    | none => false
    | some r => !r.pinned && mayChangeRoute c p x.1 r

/-- Retire the route of a slot, if it holds one. -/
def retireIfOccupied (p : Port) (x : Fin 8 × Fin 6) (c : Cabin) : Cabin :=
  match (c.route x.1 x.2).record with
  | none => c
  | some r => retireRouteAt p x.1 x.2 r c

def clearZoneRoutes (p : Port) (zones : Nat) (c : Cabin) : Cabin :=
  match zoneSet? zones with
  | none => refuse p .malformed c
  | some zs =>
    let keys := clearableRoutes c p zs
    respond p .done [natWord keys.length]
      (if keys = [] then c else settleInputs (keys.foldl (fun c x => retireIfOccupied p x c) c))

/-! ## Media State (01 R22) -/

/-- A change of a stream's declaration makes stale the zones that hold or name it (01 R22). -/
def declareMedia (n : Fin 4) (v : Option Bool) (c : Cabin) : Cabin :=
  match v with
  | none => c
  | some o =>
    if c.dir.media.get n = o then c
    else
      let c' := { c with dir := { c.dir with media := c.dir.media.set n o } }
      markStaleWhere (fun z =>
        ((c.mixZone z).routes.any fun x => decide (x.source = .media n)) ||
        (match (c.zone z).list with
         | none => false
         | some l => listNames c l (.media n))) c'

def optDeclared : Option Nat → Option Bool
  | none => none
  | some v => firstOfTwo? v

/-- Media State names one or more streams, each open or closed (01 R22). -/
def mediaForm (m0 m1 m2 m3 : Option Nat) : Bool :=
  (m0.isSome || m1.isSome || m2.isSome || m3.isSome) &&
  optOk firstOfTwo? m0 && optOk firstOfTwo? m1 && optOk firstOfTwo? m2 && optOk firstOfTwo? m3

def mediaState (p : Port) (m0 m1 m2 m3 : Option Nat) (c : Cabin) : Cabin :=
  if !mediaForm m0 m1 m2 m3 then refuse p .malformed c
  else if p = .rear then refuse p .denied c
  else
    let c' := declareMedia 3 (optDeclared m3) (declareMedia 2 (optDeclared m2)
      (declareMedia 1 (optDeclared m1) (declareMedia 0 (optDeclared m0) c)))
    respond p .done [] (if c'.dir.media = c.dir.media then c else startBuild (rederiveRoutes c'))

/-! ## The meanings -/

/-- PLACE_ROUTE (01 R15). -/
def execPlaceRoute (p : Port) (a : PlaceArgs) (s : State) : Outcome := .next (cabRequest p (placeRoute p a) s)
/-- ALTER_ROUTE (01 R16). -/
def execAlterRoute (p : Port) (h : Handle) (a : AlterArgs) (s : State) : Outcome := .next (cabRequest p (alterRoute p h a) s)
/-- PARK (01 R17). -/
def execPark (p : Port) (h : Handle) (s : State) : Outcome := .next (cabRequest p (parkRoute p h) s)
/-- UNPARK (01 R17). -/
def execUnpark (p : Port) (h : Handle) (s : State) : Outcome := .next (cabRequest p (unparkRoute p h) s)
/-- RETIRE_ROUTE (01 R18). -/
def execRetireRoute (p : Port) (h : Handle) (s : State) : Outcome := .next (cabRequest p (retireRoute p h) s)
/-- READ_ROUTE (01 R18). -/
def execReadRoute (p : Port) (h : Handle) (s : State) : Outcome := .next (cabRequest p (readRoute p h) s)
/-- CLEAR_MARKS (01 R9). -/
def execClearMarks (p : Port) (h : Handle) (s : State) : Outcome := .next (cabRequest p (clearMarks p h) s)
/-- SET_ZONE (01 R19). -/
def execSetZone (p : Port) (zone : Nat) (a : ZoneArgs) (s : State) : Outcome :=
  .next (cabRequest p (setZone s.supply.image p zone a) s)
/-- READ_ZONE (01 R20). -/
def execReadZone (p : Port) (zone : Nat) (s : State) : Outcome := .next (cabRequest p (readZone p zone) s)
/-- LINK_LIST (01 R5). -/
def execLinkList (p : Port) (zone : Nat) (list : Option Nat) (s : State) : Outcome :=
  .next (cabRequest p (linkList p zone list) s)
/-- GRANT_REAR_CONTROL (01 R4). -/
def execGrantRearControl (p : Port) (value : Nat) (s : State) : Outcome :=
  .next (cabRequest p (grantRearControl p value) s)
/-- CLEAR_ZONE_ROUTES (01 R21). -/
def execClearZoneRoutes (p : Port) (zones : Nat) (s : State) : Outcome :=
  .next (cabRequest p (clearZoneRoutes p zones) s)
/-- MEDIA_STATE (01 R22). -/
def execMediaState (p : Port) (m0 m1 m2 m3 : Option Nat) (s : State) : Outcome :=
  .next (cabRequest p (mediaState p m0 m1 m2 m3) s)

end Sys2Proof.Machine
end

