-- ==== Sys2Proof/Machine/Hold.lean ====
section
/-! DEFINITION. Enter Hold and Release Hold (03 section 3.5). -/

namespace Sys2Proof.Machine

def setHold (h : HoldState) (c : Cabin) : Cabin := { c with builder := { c.builder with hold := h } }

/-- A build in flight is ended without being installed; its zone is stale again (03 R51). -/
def dropBuild (c : Cabin) : Cabin :=
  match c.builder.job with
  | none => c
  | some j => { markStale j.zone c with builder := { (markStale j.zone c).builder with job := none } }

/-- Enter Hold (03 R51): HOLD-PENDING, and the HOLDING condition is tested at once. -/
def enterHold (p : Port) (c : Cabin) : Cabin :=
  if p = .rear then refuse p .denied c
  else if c.builder.hold ≠ .running then refuse p .wrongState c
  else respond p .accepted [] (settleHold (dropBuild (setHold .pending c)))

/-- Release Hold (03 R54): every zone is stale, and the allocator arbitrates again before the first build
starts (log 17). -/
def releaseHold (p : Port) (c : Cabin) : Cabin :=
  if p = .rear then refuse p .denied c
  else if c.builder.hold = .running then refuse p .wrongState c
  else respond p .done [] (settleDirectory (markAllStale (setHold .running c)))

/-- ENTER_HOLD (03 R51). -/
def execEnterHold (p : Port) (s : State) : Outcome := .next (cabRequest p (enterHold p) s)

/-- RELEASE_HOLD (03 R54). -/
def execReleaseHold (p : Port) (s : State) : Outcome := .next (cabRequest p (releaseHold p) s)

end Sys2Proof.Machine
end

