-- ==== Sys2Proof/Machine/Stations.lean ====
section
/-! DEFINITION. The station requests (04 section 4.5). -/

namespace Sys2Proof.Machine

/-! ## Read Station, Keep, Unkeep, Retire Station (04 R79, R81) -/

/-- Read Station (04 R79). -/
def readStation (p : Port) (h : Handle) (c : Cabin) : Cabin :=
  match finOf? 40 h.slot with
  | none => refuse p .malformed c
  | some i =>
    match stationOf c i h with
    | none => refuse p .stale c
    | some r => respond p .done (stationWords c i r) c

/-- Set the port's own kept field of a record (04 R79). -/
def setKept (p : Port) (i : Fin 40) (v : Bool) (c : Cabin) : Cabin :=
  modifyStation i (fun r => { r with kept := r.kept.set p v }) c

/-- Keep (`v` is yes) and Unkeep (04 R79). -/
def keepStation (v : Bool) (p : Port) (h : Handle) (c : Cabin) : Cabin :=
  match finOf? 40 h.slot with
  | none => refuse p .malformed c
  | some i =>
    match stationOf c i h with
    | none => refuse p .stale c
    | some _ => respond p .done [] (setKept p i v c)

/-- Retire Station performed: the deferrals that named the record's identity end (04 R78, R81). -/
def retireStationAt (i : Fin 40) (c : Cabin) : Cabin := postBoth .stations (retireStationSlot i c)

/-- Retire Station (04 R81). -/
def retireStation (p : Port) (h : Handle) (c : Cabin) : Cabin :=
  match finOf? 40 h.slot with
  | none => refuse p .malformed c
  | some i =>
    match stationOf c i h with
    | none => refuse p .stale c
    | some _ =>
      if p = .rear then refuse p .denied c
      else if held c i then refuse p .wrongState c
      else respond p .done [] (retireStationAt i c)

/-! ## Add Station (04 R80) -/

/-- The last channel of a band's raster (04 R57). -/
def lastChan : Band → Nat
  | .fm => 410
  | .mw => 119

/-- A record with the values that both columns of 04 R58 share. -/
def newStation (f : Freq) (quality : Nat) (st : StationState) (o : Origin) (identity : Option Nat) : Station where
  state := st
  freq := f
  quality := quality
  identity := identity
  deferred := none
  name := Tab.fill 4 none
  tp := none
  ta := none
  alternates := []
  miss := 0
  received := false
  isNew := true
  refs := 0
  kept := PerPort.both false
  watched := false
  origin := o

/-- Create a record in a free slot; STATIONS goes to both ports (04 R57, R84). -/
def createStation (i : Fin 40) (r : Station) (c : Cabin) : Cabin :=
  postBoth .stations (setStationSlot i { c.stationSlot i with record := some r } c)

/-- The lowest-numbered free slot (04 R64, R80). -/
def freeStationSlot (c : Cabin) : Option (Fin 40) := firstIdx fun i => decide ((c.stationSlot i).record = none)

/-- Add Station, its frequency known: the handle, and whether this request created it, 1 for yes (04 R80; log 12). -/
def addStationAt (p : Port) (f : Freq) (clamped : Bool) (c : Cabin) : Cabin :=
  match stationAtFreq c f with
  | some i => respond p (doneOr clamped) [stationWord (c.stationId i), flagWord false] c
  | none =>
    match freeStationSlot c with
    | none => refuse p .full c
    | some i => respond p (doneOr clamped) [stationWord (c.stationId i), flagWord true]
        (createStation i (newStation f 0 .listed .added none) c)

/-- Add Station (04 R57, R80). -/
def addStation (p : Port) (band : Nat) (channel : Int) (c : Cabin) : Cabin :=
  match band? band with
  | none => refuse p .malformed c
  | some b =>
    addStationAt p ⟨b, (limit 0 (lastChan b) channel).toNat⟩ (limited 0 (lastChan b) channel) c

/-! ## Set Traffic Watch (04 R82) -/

/-- Set or clear the watched field of the record of a handle, if it is live. -/
def setWatched (h : StationId) (v : Bool) (c : Cabin) : Cabin :=
  if (c.stationSlot h.slot).gen = h.gen then modifyStation h.slot (fun r => { r with watched := v }) c else c

/-- Make a station, or none, the watch station (04 R82). -/
def putWatch (w : Option Watch) (c : Cabin) : Cabin :=
  let c := match c.table.watch with
    | none => c
    | some old => setWatched old.station false c
  let c := match w with
    | none => c
    | some n => setWatched n.station true c
  { c with table := { c.table with watch := w } }

def watchPriority (priority : Int) : Nat := (limit 0 7 priority).toNat

/-- Set Traffic Watch performed; of its fields the station alone is an input of the traffic condition (04 R82,
06 R116). -/
def changeWatch (w : Option Watch) (c : Cabin) : Cabin :=
  if c.table.watch.map (·.station) = w.map (·.station) then settleDirectory (putWatch w c)
  else settleInputs (putWatch w c)

/-- Set Traffic Watch (04 R82). -/
def setTrafficWatch (p : Port) (h : Option Handle) (priority : Int) (c : Cabin) : Cabin :=
  match h with
  | none =>
    if p = .rear then refuse p .denied c
    else respond p (doneOr (limited 0 7 priority)) [] (changeWatch none c)
  | some h =>
    match finOf? 40 h.slot with
    | none => refuse p .malformed c
    | some i =>
      match stationOf c i h with
      | none => refuse p .stale c
      | some _ =>
        if p = .rear then refuse p .denied c
        else respond p (doneOr (limited 0 7 priority)) []
          (changeWatch (some ⟨c.stationId i, watchPriority priority⟩) c)

/-! ## Walk Stations (04 R83) -/

/-- The place of a frequency in the order of the walk, FM before MW (04 R83). -/
def freqRank (f : Freq) : Nat :=
  match f.band with
  | .fm => f.chan
  | .mw => 411 + f.chan

/-- The frequency comes after the cursor; start comes before every record (04 R83). -/
def afterCursor (cur : Option Freq) (f : Freq) : Bool :=
  match cur with
  | none => true
  | some g => decide (freqRank g < freqRank f)

/-- Insert a record by its place in the order of the walk. -/
def insertByFreq (x : Fin 40 × Station) : List (Fin 40 × Station) → List (Fin 40 × Station)
  | [] => [x]
  | y :: l => if freqRank x.2.freq < freqRank y.2.freq then x :: y :: l else y :: insertByFreq x l

/-- The live records after the cursor, in the order of the walk (04 R83). -/
def walkFrom (cur : Option Freq) (c : Cabin) : List (Fin 40 × Station) :=
  (List.finRange 40).foldl (fun l i => match (c.stationSlot i).record with
    | none => l
    | some r => if afterCursor cur r.freq then insertByFreq (i, r) l else l) []

def liveStations (c : Cabin) : Nat := countIdx fun i => (c.stationSlot i).record.isSome

def setCursor (p : Port) (v : Option Freq) (c : Cabin) : Cabin :=
  { c with table := { c.table with cursor := c.table.cursor.set p v } }

/-- The cursor after a walk of `n`: the last record returned, or start with END (04 R83). -/
def cursorAfter (n : Nat) (found : List (Fin 40 × Station)) : Option Freq :=
  if found.length < n then none else (found.getLast?).map (·.2.freq)

/-- The response: the number of records, END and table-full, the number of live records, the records
(10 R167). -/
def walkWords (c : Cabin) (n : Nat) (found : List (Fin 40 × Station)) : List Word :=
  [natWord found.length, bitsWord [decide (found.length < n), c.table.tableFull], natWord (liveStations c)] ++
  found.flatMap fun x => stationWords c x.1 x.2

/-- Walk Stations performed (04 R83). -/
def walkAt (p : Port) (n : Nat) (clamped : Bool) (start : Option Freq) (c : Cabin) : Cabin :=
  let found := (walkFrom start c).take n
  respond p (doneOr clamped) (walkWords c n found) (setCursor p (cursorAfter n found) c)

/-- Walk Stations (04 R83). -/
def walkStations (p : Port) (count : Int) (mode : Nat) (c : Cabin) : Cabin :=
  match firstOfTwo? mode with
  | none => refuse p .malformed c
  | some fromStart =>
    walkAt p (limit 1 4 count).toNat (limited 1 4 count) (if fromStart then none else c.table.cursor.get p) c

/-! ## Read Reception (05 R102) -/

def readReception (p : Port) (c : Cabin) : Cabin := respond p .done (receptionWords c) c

/-! ## The meanings -/

/-- READ_STATION (04 R79). -/
def execReadStation (p : Port) (h : Handle) (s : State) : Outcome := .next (cabRequest p (readStation p h) s)
/-- WALK_STATIONS (04 R83). -/
def execWalkStations (p : Port) (count : Int) (mode : Nat) (s : State) : Outcome :=
  .next (cabRequest p (walkStations p count mode) s)
/-- ADD_STATION (04 R80). -/
def execAddStation (p : Port) (band : Nat) (channel : Int) (s : State) : Outcome :=
  .next (cabRequest p (addStation p band channel) s)
/-- KEEP (04 R79). -/
def execKeep (p : Port) (h : Handle) (s : State) : Outcome := .next (cabRequest p (keepStation true p h) s)
/-- UNKEEP (04 R79). -/
def execUnkeep (p : Port) (h : Handle) (s : State) : Outcome := .next (cabRequest p (keepStation false p h) s)
/-- RETIRE_STATION (04 R81). -/
def execRetireStation (p : Port) (h : Handle) (s : State) : Outcome := .next (cabRequest p (retireStation p h) s)
/-- SET_TRAFFIC_WATCH (04 R82). -/
def execSetTrafficWatch (p : Port) (h : Option Handle) (priority : Int) (s : State) : Outcome :=
  .next (cabRequest p (setTrafficWatch p h priority) s)
/-- READ_RECEPTION (05 R102). -/
def execReadReception (p : Port) (s : State) : Outcome := .next (cabRequest p (readReception p) s)

end Sys2Proof.Machine
end

