-- ==== Sys2Proof/Machine/Tuners.lean ====
section
/-! DEFINITION. The tuners' own events: measurements, diversity, retunes, follows, and the stop and
restart of supply LOW (05 sections 5.1, 5.5 to 5.8). -/

namespace Sys2Proof.Machine

/-! ## Qualities (05 R86, R87) -/

/-- A whole number limited to 0..100. -/
def percent (v : Int) : Nat := (limit 0 100 v).toNat

/-- (FS + offset - 10) * 1.25 - 0.5 * multipath - 0.3 * adjacent to the nearest integer, halves up,
limited to 0..100 (05 R86). -/
def rawOf (offset : Int) (fs multipath adjacent : Nat) : Nat :=
  percent ((25 * ((fs : Int) + offset - 10) - 10 * multipath - 6 * adjacent + 10) / 20)

/-- The raw quality of a measurement; on MW the multipath figure is 0 (05 R86). -/
def rawQuality (b : Band) (offset : Int) (f : Figures) : Nat :=
  match b with
  | .fm => rawOf offset f.fs f.multipath f.adjacent
  | .mw => rawOf offset f.fs 0 f.adjacent

/-- The smoothed quality after a measurement (05 R87). -/
def smooth (old : Option Nat) (raw : Nat) : Nat :=
  match old with
  | none => raw
  | some q => (3 * q + raw) / 4

/-- The band a tuner is tuned to; FM where it is untuned. -/
def tunedBand (v : Tuner) : Band :=
  match v.tuned with
  | none => .fm
  | some f => f.band

/-! ## Settling after a change of tuning -/

/-- Derive the route states again and let the builder start: what follows the start or the end of a
retune or an excursion (05 R93, R99). -/
def settleStates (c : Cabin) : Cabin := startBuild (rederiveRoutes c)

/-! ## The measurement of a serving or supporting tuner (05 R86, R87) -/

/-- The channel's tuner measures: it is neither retuning, nor on an excursion, nor stopped (05 R86). -/
def measuring (c : Cabin) (x : Chan) : Bool := !tunerAway c x && !c.alloc.stopped

/-- The channel that the tuner serves, or supports by diversity, with a measurement (05 R86, R94). -/
def measuredChan (c : Cabin) (t : TunerId) : Option Chan :=
  match servedBy c t with
  | some x => if measuring c x then some x else none
  | none =>
    if (c.tuner t).role = .diversity ∧ (c.tuner t).tuning = false then servedBy c t.other else none

/-- The carried record takes the channel quality, and at 30 or above it is received (04 R67). -/
def noteRecordQuality (h : StationId) (q : Nat) (c : Cabin) : Cabin :=
  modifyStation h.slot (fun r => { r with quality := q, received := r.received || decide (30 ≤ q) }) c

/-- The channel after a measurement of it that gave quality `q` (05 R87, R94, R96). -/
def measuredQuality (q : Nat) (v : ProgChan) : ProgChan :=
  { v with quality := q, measured := true,
           followCount := if q < 25 then v.followCount + 1 else 0,
           highRun := if 70 ≤ q then v.highRun + 1 else 0 }

/-- A measurement of the channel (05 R87). -/
def noteChanQuality (x : Chan) (q : Nat) (c : Cabin) : Cabin :=
  setChan x (measuredQuality q (c.chan x))
    (match (c.chan x).station with
     | none => c
     | some h => noteRecordQuality h q c)

/-- The tuner that is not selected leads the selected one by more than 5 (05 R95). -/
def leads (unselected selected : Option Nat) : Bool :=
  match unselected, selected with
  | some a, some b => decide (b + 5 < a)
  | _, _ => false

/-- Compare the two smoothed qualities and select (05 R95). -/
def reselect (x : Chan) (c : Cabin) : Cabin :=
  match selectedTuner (c.chan x) with
  | none => c
  | some t =>
    if (c.chan x).diversity && leads (c.tuner t.other).smoothed (c.tuner t).smoothed then
      setChan x (takeQuality c { c.chan x with partner := !(c.chan x).partner }) c
    else c

/-- The station a channel carries is FM. -/
def carriesFm (c : Cabin) (x : Chan) : Bool :=
  match (c.chan x).station with
  | none => false
  | some h => match freqOf c h with
    | none => false
    | some f => decide (f.band = .fm)

/-- Diversity is to be turned on at a measurement of the channel (05 R94). -/
def wantsDiversity (c : Cabin) (x : Chan) : Bool :=
  !(c.chan x).diversity && !carriesStation (c.chan x.other) && carriesFm c x &&
  decide ((c.chan x).follow = none) && !(c.chan x).retuning && decide ((c.chan x).quality < 60)

/-- Turn diversity on: the other tuner enters DIVERSITY and tunes to the channel's frequency (05 R94). -/
def startDiversity (x : Chan) (c : Cabin) : Cabin :=
  match (c.chan x).station, (c.chan x).serving with
  | some h, some t =>
    let c := settleRoles (setChan x { c.chan x with diversity := true, partner := false } c)
    setTuner t.other { c.tuner t.other with tuned := freqOf c h, smoothed := none, tuning := true,
                                            acc := emptyAcceptance } c
  | _, _ => c

/-- A serving or supporting tuner of a channel measures a raw quality (05 R87, R94, R95). -/
def measureOn (t : TunerId) (x : Chan) (raw : Nat) (c : Cabin) : Cabin :=
  let q := smooth (c.tuner t).smoothed raw
  let ofChannel := decide (selectedTuner (c.chan x) = some t)
  let c := setTuner t { c.tuner t with smoothed := some q } c
  let c := reselect x (if ofChannel then noteChanQuality x q c else c)
  if ofChannel && wantsDiversity c x then startDiversity x c else c

/-- A measurement of a tuner that neither serves nor supports a channel is taken by the scan's or the
follow's own commands (04 R63, 05 R97). -/
def measurement (img : Image) (t : TunerId) (f : Figures) (c : Cabin) : Cabin :=
  match measuredChan c t with
  | none => c
  | some x => measureOn t x (rawQuality (tunedBand (c.tuner t)) (img.antenna.get t) f) c

/-- MEASUREMENT (05 R86). -/
def execMeasurement (t : TunerId) (f : Figures) (s : State) : Outcome :=
  .next (s.onCab (measurement s.supply.image t f))

/-! ## The end of diversity (05 R94) -/

/-- The selected tuner takes the channel from the PROGRAMME tuner (05 R94). -/
def exchange (v : ProgChan) : ProgChan :=
  if v.partner then { v with serving := v.serving.map TunerId.other, partner := false } else v

/-- Diversity ends by its 5 s condition: 500 consecutive measurements at 70 or above (05 R94). -/
def diversityOff (x : Chan) (c : Cabin) : Cabin :=
  if (c.chan x).diversity ∧ 500 ≤ (c.chan x).highRun then
    settleRoles (setChan x { exchange (c.chan x) with diversity := false } c)
  else c

/-- DIVERSITY_OFF (05 R94; log 3). -/
def execDiversityOff (x : Chan) (s : State) : Outcome := .next (s.onCab (diversityOff x))

/-- The DIVERSITY tuner is tuned and begins to measure (05 R94). -/
def endTuning (v : Tuner) : Tuner := { v with tuning := false }

def diversityTuned (c : Cabin) : Cabin :=
  { c with alloc := { c.alloc with tuners := ⟨endTuning c.alloc.tuners.t0, endTuning c.alloc.tuners.t1⟩ } }

/-- DIVERSITY_TUNE_COMPLETE (05 R94). -/
def execDiversityTuneComplete (s : State) : Outcome := .next (s.onCab diversityTuned)

/-! ## The end of a retune (05 R93) -/

def retuneComplete (x : Chan) (c : Cabin) : Cabin :=
  if (c.chan x).retuning ∧ c.alloc.stopped = false then
    settleStates (setChan x { c.chan x with retuning := false, followCount := 0 } c)
  else c

/-- RETUNE_COMPLETE (05 R93). -/
def execRetuneComplete (x : Chan) (s : State) : Outcome := .next (s.onCab (retuneComplete x))

/-! ## Follows (05 section 5.7) -/

def setFollow (x : Chan) (f : Follow) (c : Cabin) : Cabin := setChan x { c.chan x with follow := some f } c

/-- The follow fails or is over: its count is 0 again (05 R98). -/
def endFollow (x : Chan) (c : Cabin) : Cabin := setChan x { c.chan x with follow := none, followCount := 0 } c

def alternatesOf (c : Cabin) (h : StationId) : List Alternate :=
  match c.station h with
  | none => []
  | some r => r.alternates

/-- The frequency is still among the record's alternates and no other live record's own (05 R97, R98). One that left
the list after its probe and has rejoined it by the decision is among them again, and eligible (log 18). -/
def probeable (c : Cabin) (h : StationId) (ch : Nat) : Bool :=
  hasAlt (alternatesOf c h) ch && !otherAtFreq c h.slot ⟨.fm, ch⟩

/-- A probed frequency good enough against channel quality `q` (05 R98). -/
def goodProbe (c : Cabin) (h : StationId) (q : Nat) (m : Nat × Nat) : Bool :=
  decide (40 ≤ m.2) && decide (q + 10 ≤ m.2) && probeable c h m.1

/-- The eligible frequency of highest probed quality, the earliest among equals (05 R98). -/
def followWinner (c : Cabin) (h : StationId) (q : Nat) (ms : List (Nat × Nat)) : Option (Nat × Nat) :=
  (ms.filter (goodProbe c h q)).foldl (fun best m => match best with
    | none => some m
    | some b => if b.2 < m.2 then some m else some b) none

/-- The record moves to the winning frequency: the winner leaves its alternates, the old frequency joins
them with the record's last quality, and the quality becomes the probed one (05 R98). -/
def moveRecord (ch raw : Nat) (r : Station) : Station :=
  { r with freq := ⟨.fm, ch⟩, quality := raw,
           alternates := joinAlt ch r.freq.chan (some r.quality) (removeAlt ch r.alternates) }

/-- The borrowed tuner takes the channel on the winning frequency (05 R98; log 18). -/
def adoptBorrowed (x : Chan) (h : StationId) (t : TunerId) (ch raw : Nat) (c : Cabin) : Cabin :=
  let c := modifyStation h.slot (moveRecord ch raw) c
  let c := setTuner t { c.tuner t with tuned := some ⟨.fm, ch⟩, smoothed := some raw } c
  settleRoles (setChan x { c.chan x with serving := some t, follow := none, followCount := 0, highRun := 0,
                                         quality := raw, measured := true } c)

/-- The decision of a borrowing follow (05 R98). While the tuner tunes to the winner, the position stays one past the
last frequency probed: the first of those skipped at the end, or the length of the list (log 12). -/
def decideBorrowed (x : Chan) (h : StationId) (t : TunerId) (f : Follow) (c : Cabin) : Cabin :=
  match followWinner c h (c.chan x).quality f.measured with
  | none => settleRoles (endFollow x c)
  | some (ch, raw) =>
    if (c.tuner t).tuned = some ⟨.fm, ch⟩ then adoptBorrowed x h t ch raw c
    else setTuner t { c.tuner t with tuned := some ⟨.fm, ch⟩, acc := emptyAcceptance }
      (setFollow x { f with phase := .tuningWinner ch } c)

/-- The decision of a self-probing follow, by the channel quality at the end of its last excursion
(05 R99). -/
def decideSelf (x : Chan) (h : StationId) (f : Follow) (c : Cabin) : Cabin :=
  match followWinner c h f.endQuality f.measured with
  | none => endFollow x c
  | some (ch, raw) => beginRetune x (modifyStation h.slot (moveRecord ch raw) c)

/-- The index of the first frequency of the probe list, from `pos` on, that is not skipped (05 R97). -/
def nextProbe (c : Cabin) (h : StationId) (f : Follow) : Option (Nat × Nat) :=
  (f.probes.zipIdx.filter fun p => decide (f.pos ≤ p.2) && probeable c h p.1).head?

/-- Probe the next frequency with the borrowed tuner, or decide (05 R97, R98). -/
def advanceBorrowed (x : Chan) (h : StationId) (t : TunerId) (f : Follow) (c : Cabin) : Cabin :=
  match nextProbe c h f with
  | none => decideBorrowed x h t f c
  | some (ch, i) =>
    setTuner t { c.tuner t with tuned := some ⟨.fm, ch⟩, acc := emptyAcceptance }
      (setFollow x { f with pos := i, phase := .probing } c)

/-- Leave on the next excursion of a self-probe, or decide (05 R99). -/
def advanceSelf (x : Chan) (h : StationId) (t : TunerId) (f : Follow) (c : Cabin) : Cabin :=
  match nextProbe c h f with
  | none => decideSelf x h f c
  | some (ch, i) =>
    setTuner t { c.tuner t with tuned := some ⟨.fm, ch⟩, acc := emptyAcceptance }
      (setFollow x { f with pos := i, phase := .away } c)

/-- The follow as it starts, its probe list a copy of the alternates in their order (05 R96). -/
def newFollow (borrows : Bool) (alts : List Alternate) (q : Nat) : Follow where
  borrows := borrows
  probes := alts.map (·.chan)
  pos := 0
  measured := []
  phase := if borrows then .probing else .serving
  endQuality := q

/-- The start of a borrowing follow: the other tuner enters FOLLOW-CHECK (05 R97). -/
def startBorrowed (x : Chan) (h : StationId) (t : TunerId) (f : Follow) (c : Cabin) : Cabin :=
  advanceBorrowed x h t f (settleRoles (setFollow x f (endDiversity x c)))

/-- A follow of the channel may start (05 R96). -/
def mayFollow (c : Cabin) (x : Chan) (h : StationId) : Bool :=
  decide (200 ≤ (c.chan x).followCount) && carriesFm c x && decide (alternatesOf c h ≠ []) &&
  decide ((c.chan x).follow = none) && !(c.chan x).retuning && !c.alloc.stopped

/-- The start of a follow and the choice of its manner (05 R96). -/
def followStart (x : Chan) (c : Cabin) : Cabin :=
  match (c.chan x).station, (c.chan x).serving with
  | some h, some t =>
    if mayFollow c x h then
      match servedBy c t.other with
      | none => startBorrowed x h t.other (newFollow true (alternatesOf c h) (c.chan x).quality) c
      | some _ => settleStates (advanceSelf x h t (newFollow false (alternatesOf c h) (c.chan x).quality) c)
    else c
  | _, _ => c

/-- FOLLOW_START (05 R96; log 3). -/
def execFollowStart (x : Chan) (s : State) : Outcome := .next (s.onCab (followStart x))

/-- The entry's quality is set to the raw quality, and the follow remembers it (05 R97). -/
def noteProbe (h : StationId) (ch raw : Nat) (c : Cabin) : Cabin :=
  modifyStation h.slot (fun r => { r with alternates := setAltQuality ch raw r.alternates }) c

/-- The follow with one more probe measured, at the next place of its list. -/
def afterProbe (ch raw : Nat) (f : Follow) : Follow :=
  { f with measured := f.measured ++ [(ch, raw)], pos := f.pos + 1 }

/-- The end of a probe of a borrowing follow of the channel (05 R97). -/
def probeEnd (img : Image) (g : Figures) (x : Chan) (c : Cabin) : Cabin :=
  match (c.chan x).station, (c.chan x).serving, (c.chan x).follow with
  | some h, some t, some f =>
    match f.probes[f.pos]? with
    | none => c
    | some ch =>
      if f.borrows && decide (f.phase = .probing) then
        let raw := rawQuality .fm (img.antenna.get t.other) g
        advanceBorrowed x h t.other (afterProbe ch raw f) (noteProbe h ch raw c)
      else c
  | _, _, _ => c

/-- The channel whose follow borrows a tuner. At most one does. -/
def borrowingChan (c : Cabin) : Option Chan :=
  if borrowing (c.chan .pc0) then some .pc0 else if borrowing (c.chan .pc1) then some .pc1 else none

def followProbeComplete (img : Image) (g : Figures) (c : Cabin) : Cabin :=
  match borrowingChan c with
  | none => c
  | some x => probeEnd img g x c

/-- FOLLOW_PROBE_COMPLETE (05 R97). -/
def execFollowProbeComplete (g : Figures) (s : State) : Outcome :=
  .next (s.onCab (followProbeComplete s.supply.image g))

/-- The raw quality a follow measured at a frequency. -/
def probedQuality (f : Follow) (ch : Nat) : Nat :=
  match f.measured.find? fun m => decide (m.1 = ch) with
  | none => 0
  | some m => m.2

/-- The borrowed tuner is tuned to the winner, whose eligibility is checked again (05 R98). -/
def winnerTuned (x : Chan) (c : Cabin) : Cabin :=
  match (c.chan x).station, (c.chan x).serving, (c.chan x).follow with
  | some h, some t, some f =>
    match f.phase with
    | .tuningWinner ch =>
      if probeable c h ch then adoptBorrowed x h t.other ch (probedQuality f ch) c
      else settleRoles (endFollow x c)
    | .probing => c
    | .away => c
    | .serving => c
  | _, _, _ => c

def followWinnerTuned (c : Cabin) : Cabin :=
  match borrowingChan c with
  | none => c
  | some x => winnerTuned x c

/-- FOLLOW_WINNER_TUNED (05 R98). -/
def execFollowWinnerTuned (s : State) : Outcome := .next (s.onCab followWinnerTuned)

/-- The 200 ms between excursions are over (05 R99). -/
def excursionStart (x : Chan) (c : Cabin) : Cabin :=
  match (c.chan x).station, (c.chan x).serving, (c.chan x).follow with
  | some h, some t, some f =>
    if f.phase = .serving ∧ c.alloc.stopped = false then settleStates (advanceSelf x h t f c) else c
  | _, _, _ => c

/-- EXCURSION_START (05 R99). -/
def execExcursionStart (x : Chan) (s : State) : Outcome := .next (s.onCab (excursionStart x))

/-- The tuner is back on the carried frequency after an excursion (05 R99). The return is not counted as a tuning
of the channel: its quality stays measured, as its smoothing goes on (05 R87; log 48). -/
def returnFrom (x : Chan) (h : StationId) (t : TunerId) (f : Follow) (c : Cabin) : Cabin :=
  setTuner t { c.tuner t with tuned := freqOf c h, acc := emptyAcceptance }
    (setFollow x { f with phase := .serving, endQuality := (c.chan x).quality } c)

/-- The end of an excursion; after the last one the follow decides (05 R99). -/
def excursionEnd (img : Image) (x : Chan) (g : Figures) (c : Cabin) : Cabin :=
  match (c.chan x).station, (c.chan x).serving, (c.chan x).follow with
  | some h, some t, some f =>
    match f.probes[f.pos]? with
    | none => c
    | some ch =>
      if f.phase = .away then
        let raw := rawQuality .fm (img.antenna.get t) g
        let f' := { afterProbe ch raw f with endQuality := (c.chan x).quality }
        let c' := returnFrom x h t f' (noteProbe h ch raw c)
        settleStates (if f'.probes.length ≤ f'.pos then decideSelf x h f' c' else c')
      else c
  | _, _, _ => c

/-- EXCURSION_END (05 R99). -/
def execExcursionEnd (x : Chan) (g : Figures) (s : State) : Outcome :=
  .next (s.onCab (excursionEnd s.supply.image x g))

/-! ## Stopping and restarting the tuners (05 R101, 04 R66) -/

/-- The pass in progress is discarded (04 R66): the position returns to the first FM channel, where a
scanning tuner is tuned afresh, and received marks and the table-full status are cleared. -/
def clearReceived (c : Cabin) : Cabin :=
  { c with table := { c.table with slots := c.table.slots.map fun x =>
      { x with record := x.record.map fun r => { r with received := false } } } }

/-- Tune the scanning tuner to the scan's position, its acceptance state emptied (04 R63, R70). -/
def tuneScan (c : Cabin) : Cabin :=
  let tune (v : Tuner) : Tuner :=
    if v.role = .scan then { v with tuned := some c.table.position, acc := emptyAcceptance } else v
  { c with alloc := { c.alloc with tuners := ⟨tune c.alloc.tuners.t0, tune c.alloc.tuners.t1⟩ } }

def discardPass (c : Cabin) : Cabin :=
  let c' := clearReceived c
  tuneScan { c' with table := { c'.table with position := firstFreq, dwell := none, tableFull := false } }

/-- A channel as the tuners stop: a carried one counts as retuning; diversity and follows are over
(05 R101). Its last quality stands, measured as it was (05 R87, R102). -/
def stopChan (v : ProgChan) : ProgChan :=
  { v with retuning := v.station.isSome, diversity := false, partner := false, highRun := 0,
           followCount := 0, follow := none }

def untune (v : Tuner) : Tuner := { v with tuned := none, smoothed := none, tuning := false, acc := emptyAcceptance }

/-- The tuners stop on entering LOW (05 R101). -/
def stopTuners (c : Cabin) : Cabin :=
  let a := c.alloc
  settleStates (discardPass (settleRoles { c with alloc := { a with
    stopped := true
    tuners := ⟨untune a.tuners.t0, untune a.tuners.t1⟩
    chans := ⟨stopChan a.chans.pc0, stopChan a.chans.pc1⟩ } }))

/-- The tuners restart on leaving LOW for SETTLE (05 R101). -/
def restartTuners (c : Cabin) : Cabin :=
  let c := { c with alloc := { c.alloc with stopped := false } }
  settleStates (settleRoles (beginRetune .pc1 (beginRetune .pc0 c)))

end Sys2Proof.Machine
end

