-- ==== Sys2Proof/Machine/Scan.lean ====
section
/-! DEFINITION. The scan and the programme data decoder (04 sections 4.2 and 4.3). -/

namespace Sys2Proof.Machine

/-! ## The position (04 R63) -/

/-- The tuner in SCAN. -/
def scanTuner (c : Cabin) : Option TunerId :=
  if (c.tuner .t0).role = .scan then some .t0 else if (c.tuner .t1).role = .scan then some .t1 else none

/-- The channel that follows in a pass; none after the last MW channel (04 R63). -/
def nextFreq (f : Freq) : Option Freq :=
  match f.band with
  | .fm => if f.chan < 410 then some ⟨.fm, f.chan + 1⟩ else some ⟨.mw, 0⟩
  | .mw => if f.chan < 119 then some ⟨.mw, f.chan + 1⟩ else none

def setPosition (f : Freq) (c : Cabin) : Cabin := { c with table := { c.table with position := f } }

/-! ## The end of a pass (04 R68) -/

/-- A record that the pass did not receive and that has missed three passes (04 R68). -/
def missedOut (r : Station) : Bool := !r.isNew && !r.received && decide (3 ≤ r.miss + 1)

/-- A record that lives on past the end of a pass (04 R68). -/
def agedRecord (r : Station) : Station :=
  let r' : Station :=
    if r.isNew then r
    else if r.received then
      { r with miss := 0, state := match r.state with
          | .candidate => .listed
          | .lost => .listed
          | .listed => .listed }
    else if 3 ≤ r.miss + 1 then { r with miss := 3, state := .lost }
    else { r with miss := r.miss + 1 }
  { r' with received := false, isNew := false }

/-- One record at the end of a pass (04 R68). -/
def ageSlot (i : Fin 40) (c : Cabin) : Cabin :=
  match (c.stationSlot i).record with
  | none => c
  | some r =>
    if missedOut r && !held c i then postBoth .stations (retireStationSlot i c)
    else modifyStation i agedRecord c

/-- The pass is completed: every record is aged, the position returns and the table-full status is
cleared for the next pass (04 R63, R68, R69). -/
def completePass (c : Cabin) : Cabin :=
  let c' := eachIdx 40 ageSlot c
  { c' with table := { c'.table with position := firstFreq, tableFull := false } }

/-- The outcome of the channel is complete: the scan moves on (04 R63). -/
def advanceScan (c : Cabin) : Cabin :=
  tuneScan (match nextFreq c.table.position with
    | some f => setPosition f c
    | none => completePass c)

/-! ## Finds (04 R64, R69) -/

/-- The record that a newcomer displaces from a full table: CANDIDATE and not held, of lowest quality, in
the lowest slot among equals (04 R69). -/
def displacedStation (c : Cabin) : Option (Fin 40 × Station) :=
  (List.finRange 40).foldl (fun best i =>
    match (c.stationSlot i).record with
    | none => best
    | some r =>
      if r.state = .candidate ∧ held c i = false then
        match best with
        | none => some (i, r)
        | some (j, b) => if r.quality < b.quality then some (i, r) else some (j, b)
      else best) none

/-- A new CANDIDATE at the position; in a full table it displaces a weaker one or is dropped (04 R64,
R69). -/
def createFound (raw : Nat) (identity : Option Nat) (c : Cabin) : Cabin :=
  let r := newStation c.table.position raw .candidate .scan identity
  match freeStationSlot c with
  | some i => createStation i r c
  | none =>
    match displacedStation c with
    | some (j, b) =>
      if b.quality < raw then createStation j r (retireStationSlot j c)
      else { c with table := { c.table with tableFull := true } }
    | none => { c with table := { c.table with tableFull := true } }

/-- Begin an identity dwell on the position (04 R65). -/
def startDwell (raw : Nat) (c : Cabin) : Cabin := { c with table := { c.table with dwell := some raw } }

/-- The scan's measurement of a record that is not carried (04 R64). -/
def scanRecord (raw : Nat) (r : Station) : Station :=
  { r with quality := raw, received := r.received || decide (30 ≤ raw) }

/-- A channel whose frequency a live record has (04 R64). -/
def scanKnown (i : Fin 40) (raw : Nat) (c : Cabin) : Cabin :=
  match (c.stationSlot i).record with
  | none => advanceScan c
  | some r =>
    if carried c (c.stationId i) then
      advanceScan (if 30 ≤ raw then modifyStation i (fun r => { r with received := true }) c else c)
    else
      let c := modifyStation i (scanRecord raw) c
      if 30 ≤ raw ∧ r.freq.band = .fm ∧ r.identity = none then startDwell raw c else advanceScan c

/-- The outcome of a scanned channel (04 R64). -/
def scanOutcome (raw : Nat) (c : Cabin) : Cabin :=
  match stationAtFreq c c.table.position with
  | some i => scanKnown i raw c
  | none =>
    if raw < 30 then advanceScan c
    else match c.table.position.band with
      | .fm => startDwell raw c
      | .mw => advanceScan (createFound raw none c)

/-- The scan's measurement, on the tuner in SCAN and with no dwell in progress (04 R63). The pass that lite reset
restarts runs within its 20 ms too, which 04 R66 and 05 R103 leave open (log 51). -/
def scanMeasurement (img : Image) (f : Figures) (c : Cabin) : Cabin :=
  match scanTuner c, c.table.dwell with
  | some t, none => scanOutcome (rawQuality c.table.position.band (img.antenna.get t) f) c
  | _, _ => c

/-- SCAN_MEASUREMENT (04 R64). -/
def execScanMeasurement (f : Figures) (s : State) : Outcome := .next (s.onCab (scanMeasurement s.supply.image f))

/-! ## The end of a dwell (04 R65) -/

/-- The position joins the alternates of the record with the identity found, which is received; the
record's deferral is treated as its own identity accepted (04 R65, R75). -/
def foundAgain (ch raw : Nat) (r : Station) : Station :=
  { r with alternates := joinAlt r.freq.chan ch (some raw) r.alternates, received := true, deferred := none }

/-- The outcome of a dwell that no live record's frequency decides (04 R65). -/
def dwellNew (raw : Nat) (accepted : Option Nat) (c : Cabin) : Cabin :=
  match accepted with
  | none => createFound raw none c
  | some code =>
    match findStation c fun r => decide (r.identity = some code) with
    | some j => modifyStation j (foundAgain c.table.position.chan raw) c
    | none => createFound raw (some code) c

/-- The outcome of a dwell, from the table as it is at its end (04 R65). -/
def dwellOutcome (raw : Nat) (accepted : Option Nat) (c : Cabin) : Cabin :=
  match stationAtFreq c c.table.position with
  | none => dwellNew raw accepted c
  | some i =>
    match accepted with
    | none => c
    | some code => applyIdentity i code c

/-- A dwell ends with an accepted identity or none, and the scan moves on (04 R65). -/
def dwellEnd (accepted : Option Nat) (c : Cabin) : Cabin :=
  match c.table.dwell with
  | none => c
  | some raw =>
    settleDirectory (advanceScan (dwellOutcome raw accepted { c with table := { c.table with dwell := none } }))

/-- DWELL_TIMEOUT (04 R65). -/
def execDwellTimeout (s : State) : Outcome := .next (s.onCab (dwellEnd none))

/-! ## The programme data decoder (04 R70 to R74) -/

/-- What the decoder does on a tuner: content goes to the record of a channel, or the scan dwells
(04 R70). -/
inductive Decoding where
  | off
  | onChan (x : Chan)
  | dwelling
  deriving DecidableEq, Repr

def tunedFm (v : Tuner) : Bool :=
  match v.tuned with
  | none => false
  | some f => decide (f.band = .fm)

/-- The decoder's activity on a tuner (04 R70). -/
def decoding (c : Cabin) (t : TunerId) : Decoding :=
  if tunedFm (c.tuner t) then
    match measuredChan c t with
    | some x => .onChan x
    | none => if (c.tuner t).role = .scan ∧ c.table.dwell.isSome then .dwelling else .off
  else .off

/-- The identity run after a passing group (04 R71). -/
def nextRun (run : Option (Nat × Bool)) (code : Nat) : Nat × Bool :=
  match run with
  | none => (code, false)
  | some (k, _) => if k = code then (code, true) else (code, false)

/-- The code becomes the accepted code (04 R71). -/
def acceptsCode (a : Acceptance) (code : Nat) : Bool :=
  (nextRun a.run code).2 && decide (a.accepted ≠ some code)

/-- The acceptance state after a passing group's code is counted (04 R71). -/
def countCode (code : Nat) (a : Acceptance) : Acceptance :=
  if acceptsCode a code then
    { run := some (nextRun a.run code), accepted := some code, segments := Tab.fill 4 none, traffic := none }
  else { a with run := some (nextRun a.run code) }

def setAcceptance (t : TunerId) (a : Acceptance) (c : Cabin) : Cabin := setTuner t { c.tuner t with acc := a } c

/-- The pair agrees with that of the IDENT group before (04 R73). -/
def trafficAgrees (a : Acceptance) (tp ta : Bool) : Bool :=
  match a.traffic with
  | none => false
  | some (pair, _) => decide (pair = (tp, ta))

/-- The TRAFFIC entry of a station ends CLEARED, and the station leaves the ignored set (06 R117). -/
def clearTraffic (h : StationId) (c : Cabin) : Cabin :=
  unignoreStation h (match trafficEntry c h with
    | none => c
    | some i => endEntry i .cleared c)

/-- The record's traffic flags are accepted, and the announcement queue is told (04 R73, 06 R117). -/
def acceptFlags (h : StationId) (tp ta : Bool) (c : Cabin) : Cabin :=
  let c := modifyStation h.slot (fun r => { r with tp := some tp, ta := some ta }) c
  if ta then testStation h c else clearTraffic h c

/-- An IDENT group's flags (04 R73). -/
def takeIdent (t : TunerId) (h : StationId) (tp ta : Bool) (c : Cabin) : Cabin :=
  let a := (c.tuner t).acc
  let agrees := trafficAgrees a tp ta
  let c := setAcceptance t { a with traffic := some ((tp, ta), agrees) } c
  if agrees then acceptFlags h tp ta c else c

/-- A NAME group's segment (04 R72). -/
def takeName (t : TunerId) (h : StationId) (seg : Fin 4) (v : Segment) (c : Cabin) : Cabin :=
  let a := (c.tuner t).acc
  let c := setAcceptance t { a with segments := a.segments.set seg (some v) } c
  if a.segments.get seg = some v then
    modifyStation h.slot (fun r => { r with name := r.name.set seg (some v) }) c
  else c

/-- One frequency of an ALTS group (04 R74). -/
def takeAlt (ch : Option Nat) (r : Station) : Station :=
  match ch with
  | none => r
  | some n => if n ≤ 410 then { r with alternates := joinAlt r.freq.chan n none r.alternates } else r

/-- A group's content, taken (04 R71 to R74). -/
def takeContent (t : TunerId) (h : StationId) (g : GroupContent) (c : Cabin) : Cabin :=
  match g with
  | .ident tp ta => takeIdent t h tp ta c
  | .name seg a b => takeName t h seg (a, b) c
  | .alts f g => modifyStation h.slot (fun r => takeAlt g (takeAlt f r)) c

/-- The tuner has accepted the group's code and the record has it as its identity (04 R71). -/
def contentTaken (c : Cabin) (t : TunerId) (h : StationId) (code : Nat) : Bool :=
  decide ((c.tuner t).acc.accepted = some code) &&
    match c.station h with
    | none => false
    | some r => decide (r.identity = some code)

/-- A passing group on a tuner whose content goes to the record of a channel (04 R71). A group whose content is
discarded leaves the name and traffic runs as they are, which 04 R71 to R73 leave open (log 52). -/
def groupOnChan (t : TunerId) (x : Chan) (g : DataGroup) (c : Cabin) : Cabin :=
  let new := acceptsCode (c.tuner t).acc g.code
  let c := setAcceptance t (countCode g.code (c.tuner t).acc) c
  let c := match (c.chan x).station with
    | none => c
    | some h => if new then applyIdentity h.slot g.code c else c
  let c := match (c.chan x).station with
    | none => c
    | some h => if contentTaken c t h g.code then takeContent t h g.content c else c
  settleDirectory c

/-- A passing group in a dwell; an accepted identity ends it (04 R65, R71). -/
def groupInDwell (t : TunerId) (g : DataGroup) (c : Cabin) : Cabin :=
  let new := acceptsCode (c.tuner t).acc g.code
  let c := setAcceptance t (countCode g.code (c.tuner t).acc) c
  if new then dwellEnd (some g.code) c else c

/-- A data group; one whose check fails or whose code is 0 is discarded (04 R71). -/
def dataGroup (t : TunerId) (g : DataGroup) (c : Cabin) : Cabin :=
  if g.ok = false ∨ g.code = 0 then c
  else match decoding c t with
    | .off => c
    | .onChan x => groupOnChan t x g c
    | .dwelling => groupInDwell t g c

/-- DATA_GROUP (04 R71). -/
def execDataGroup (t : TunerId) (g : DataGroup) (s : State) : Outcome := .next (s.onCab (dataGroup t g))

end Sys2Proof.Machine
end

