-- ==== Sys2Proof/Machine/Announcements.lean ====
section
/-! DEFINITION. The requests on the announcement queue, the chime patterns and the cadence of the voices
(06 sections 6.4 to 6.8, 6.10). -/

namespace Sys2Proof.Machine

/-! ## Start Chime (06 R113) -/

/-- The CHIME entry of a pattern (06 R104). -/
def chimeEntry (c : Cabin) (n : Fin 8) : Option (Fin 8) :=
  findEntry c fun e => decide (e.kind = .chime n)

/-- The requested target set, or the default set of the pattern; none where the set is malformed. -/
def chimeTargets (c : Cabin) (n : Fin 8) : Option Nat → Option ZoneSet
  | none => some (c.queue.patterns.get n).targets
  | some m => zoneSet? m

/-- A voice that holds the entry of the slot starts its pattern again (06 R113). -/
def restartVoice (i : Fin 8) (c : Cabin) : Cabin :=
  { c with queue := { c.queue with voices := c.queue.voices.map fun v =>
      match v with
      | none => none
      | some v => if v.slot = i then some (newVoice i) else some v } }

/-- The CHIME entry of the slot is restarted with the union of the targets (06 R113). -/
def restartChime (i : Fin 8) (t : ZoneSet) (c : Cabin) : Cabin :=
  refreshSound (restartVoice i (modifyEntry i (fun e => { e with targets := e.targets.union t }) c))

/-- Start Chime, well formed and from the front port (06 R113). The response is the handle and a yes/no word that says
whether the entry was restarted; that a new entry is answered with that word too, as no, is log 12. -/
def chimeAt (p : Port) (n : Fin 8) (t : ZoneSet) (c : Cabin) : Cabin :=
  match chimeEntry c n with
  | some i => respond p .done [entryWord (c.entryId i), flagWord true] (restartChime i t c)
  | none =>
    match queueEntry (.chime n) (c.queue.patterns.get n).priority t 0 c with
    | (_, none) => refuse p .full c
    | (c', some h) => respond p .done [entryWord h, flagWord false] c'

def startChime (p : Port) (pattern : Nat) (targets : Option Nat) (c : Cabin) : Cabin :=
  match finOf? 8 pattern with
  | none => refuse p .malformed c
  | some n =>
    match chimeTargets c n targets with
    | none => refuse p .malformed c
    | some t => if p = .rear then refuse p .denied c else chimeAt p n t c

/-! ## Cancel Announcement (06 R114) -/

/-- A tone of a call, which the call controller owns (06 R114). -/
def EntryKind.ofCall : EntryKind → Bool
  | .ring _ => true
  | .waiting _ => true
  | .chime _ => false
  | .nav => false
  | .traffic _ _ => false

def cancelAnnouncement (p : Port) (h : Handle) (c : Cabin) : Cabin :=
  match finOf? 8 h.slot with
  | none => refuse p .malformed c
  | some i =>
    match entryOf c i h with
    | none => refuse p .stale c
    | some e =>
      if p = .rear then refuse p .denied c
      else if e.kind.ofCall then refuse p .wrongState c
      else respond p .done [] (endAndIgnore i .requested c)

/-! ## Navigation prompts (06 R115) -/

/-- The slot of the NAV entry (06 R115). -/
def navEntry (c : Cabin) : Option (Fin 8) := findEntry c fun e => decide (e.kind = .nav)

/-- Start Nav, well formed and from the front port (06 R115). -/
def navAt (p : Port) (t : ZoneSet) (c : Cabin) : Cabin :=
  match navEntry c with
  | some i => respond p .done [entryWord (c.entryId i)]
      (refreshSound (modifyEntry i (fun e => { e with targets := t, timeLeft := navLimit }) c))
  | none =>
    match queueEntry .nav 4 t navLimit c with
    | (_, none) => refuse p .full c
    | (c', some h) => respond p .done [entryWord h] c'

def startNav (p : Port) (targets : Nat) (c : Cabin) : Cabin :=
  match zoneSet? targets with
  | none => refuse p .malformed c
  | some t => if p = .rear then refuse p .denied c else navAt p t c

def keepNav (p : Port) (c : Cabin) : Cabin :=
  if p = .rear then refuse p .denied c
  else match navEntry c with
    | none => refuse p .wrongState c
    | some i => respond p .done [] (modifyEntry i (fun e => { e with timeLeft := navLimit }) c)

def endNav (p : Port) (c : Cabin) : Cabin :=
  if p = .rear then refuse p .denied c
  else match navEntry c with
    | none => refuse p .wrongState c
    | some i => respond p .done [] (endEntry i .requested c)

/-! ## Patterns (06 R112) -/

/-- A tone frequency limited to 200..4000 Hz and taken to the lower 10 Hz step (06 R112). -/
def toneStep (v : Int) : Nat := (limit 200 4000 v).toNat / 10 * 10

/-- The pattern with the selected fields at their new values (06 R112). -/
def changedPattern (t : Pattern) (a : PatternArgs) : Pattern where
  tone := match a.tone with
    | none => t.tone
    | some v => toneStep v
  on := optLimitNat 1 100 t.on a.on
  off := optLimitNat 0 100 t.off a.off
  repeats := optLimitNat 0 255 t.repeats a.repeats
  priority := optLimitNat 0 7 t.priority a.priority
  targets := optRead zoneSet? t.targets a.targets

def patternClamped (a : PatternArgs) : Bool :=
  optLimited 200 4000 a.tone || optLimited 1 100 a.on || optLimited 0 100 a.off ||
  optLimited 0 255 a.repeats || optLimited 0 7 a.priority

/-- The CHIME entry of a pattern follows its priority (06 R105). -/
def followPriority (n : Fin 8) (c : Cabin) : Cabin :=
  match chimeEntry c n with
  | none => c
  | some i => modifyEntry i (fun e => { e with priority := (c.queue.patterns.get n).priority }) c

def setPattern (p : Port) (pattern : Nat) (a : PatternArgs) (c : Cabin) : Cabin :=
  match finOf? 8 pattern with
  | none => refuse p .malformed c
  | some n =>
    if optOk zoneSet? a.targets then
      if p = .rear then refuse p .denied c
      else
        let c' := { c with queue := { c.queue with
          patterns := c.queue.patterns.set n (changedPattern (c.queue.patterns.get n) a) } }
        respond p (doneOr (patternClamped a)) [] (refreshSound (followPriority n c'))
    else refuse p .malformed c

def readPattern (p : Port) (pattern : Nat) (c : Cabin) : Cabin :=
  match finOf? 8 pattern with
  | none => refuse p .malformed c
  | some n => respond p .done (patternWords (c.queue.patterns.get n)) c

/-- Read Announcements (06 R119). -/
def readAnnouncements (p : Port) (c : Cabin) : Cabin := respond p .done (announcementWords c) c

/-! ## The cadence (06 R111) -/

/-- A new on-period begins, with the pattern's tone and periods of this moment (06 R111). -/
def beginOn (t : Pattern) (v : Voice) : Voice :=
  { v with cadence := .on t.on, tone := t.tone, offLength := t.off, sample := 0 }

/-- The end of a cycle: a CHIME entry that has played its repeats is finished (06 R111). -/
def endCycle (chime : Bool) (t : Pattern) (v : Voice) : Voice :=
  let v := { v with cycles := v.cycles + 1 }
  if chime ∧ 1 ≤ t.repeats ∧ t.repeats ≤ v.cycles then { v with cadence := .finished } else beginOn t v

/-- A voice at a cadence tick (06 R111). -/
def tickVoice (chime : Bool) (t : Pattern) (v : Voice) : Voice :=
  match v.cadence with
  | .waiting => beginOn t v
  | .on k =>
    if 1 < k then { v with cadence := .on (k - 1) }
    else if v.offLength = 0 then endCycle chime t v
    else { v with cadence := .off v.offLength }
  | .off k => if 1 < k then { v with cadence := .off (k - 1) } else endCycle chime t v
  | .finished => v

def EntryKind.isChime : EntryKind → Bool
  | .chime _ => true
  | _ => false

/-- A voice at a cadence tick, by the pattern of its entry (06 R111). -/
def tickHolder (c : Cabin) (v : Voice) : Voice :=
  match (c.entrySlot v.slot).entry with
  | none => v
  | some e =>
    match entryPattern e.kind with
    | none => v
    | some n => tickVoice e.kind.isChime (c.queue.patterns.get n) v

def cadenceTick (c : Cabin) : Cabin :=
  { c with queue := { c.queue with voices := c.queue.voices.map fun v => v.map (tickHolder c) } }

/-- The CHIME entry whose last cycle has ended is COMPLETED (06 R111; log 3). -/
def chimeCompleted (v : Fin 2) (c : Cabin) : Cabin :=
  match c.queue.voices.get v with
  | none => c
  | some x => if x.cadence = .finished then endEntry x.slot .completed c else c

/-! ## Time limits (06 R115, R117) -/

def navTimeout (c : Cabin) : Cabin :=
  match navEntry c with
  | none => c
  | some i => endEntry i .timedOut c

def trafficTimeout (i : Fin 8) (c : Cabin) : Cabin :=
  match (c.entrySlot i).entry with
  | none => c
  | some e => if e.kind.isTraffic then endAndIgnore i .timedOut c else c

/-! ## The meanings -/

/-- START_CHIME (06 R113). -/
def execStartChime (p : Port) (pattern : Nat) (targets : Option Nat) (s : State) : Outcome :=
  .next (cabRequest p (startChime p pattern targets) s)
/-- CANCEL_ANNOUNCEMENT (06 R114). -/
def execCancelAnnouncement (p : Port) (h : Handle) (s : State) : Outcome :=
  .next (cabRequest p (cancelAnnouncement p h) s)
/-- START_NAV (06 R115). -/
def execStartNav (p : Port) (targets : Nat) (s : State) : Outcome := .next (cabRequest p (startNav p targets) s)
/-- KEEP_NAV (06 R115). -/
def execKeepNav (p : Port) (s : State) : Outcome := .next (cabRequest p (keepNav p) s)
/-- END_NAV (06 R115). -/
def execEndNav (p : Port) (s : State) : Outcome := .next (cabRequest p (endNav p) s)
/-- SET_PATTERN (06 R112). -/
def execSetPattern (p : Port) (pattern : Nat) (a : PatternArgs) (s : State) : Outcome :=
  .next (cabRequest p (setPattern p pattern a) s)
/-- READ_PATTERN (06 R112). -/
def execReadPattern (p : Port) (pattern : Nat) (s : State) : Outcome :=
  .next (cabRequest p (readPattern p pattern) s)
/-- READ_ANNOUNCEMENTS (06 R119). -/
def execReadAnnouncements (p : Port) (s : State) : Outcome := .next (cabRequest p (readAnnouncements p) s)
/-- CADENCE_TICK (06 R111). -/
def execCadenceTick (s : State) : Outcome := .next (s.onCab cadenceTick)
/-- CHIME_COMPLETED (06 R111). -/
def execChimeCompleted (v : Fin 2) (s : State) : Outcome := .next (s.onCab (chimeCompleted v))
/-- NAV_TIMEOUT (06 R115). -/
def execNavTimeout (s : State) : Outcome := .next (s.onCab navTimeout)
/-- TRAFFIC_TIMEOUT (06 R117). -/
def execTrafficTimeout (slot : Fin 8) (s : State) : Outcome := .next (s.onCab (trafficTimeout slot))

end Sys2Proof.Machine
end

