-- ==== Sys2Proof/Machine/CallRequests.lean ====
section
/-! DEFINITION. The call controller's requests and the tones of calls (07 sections 7.1 to 7.6). -/

namespace Sys2Proof.Machine

/-! ## Tones (07 R127, 06 R118) -/

/-- The kind of tone the RINGING call of a slot should have: WAITING beside an ACTIVE call, else RING
(07 R127). -/
def wantsWaiting (c : Cabin) (i : Fin 2) : Bool := decide (callState c (otherCall i) = some .active)

/-- The entry is the tone kind wanted. -/
def toneFits (waiting : Bool) (k : EntryKind) : Bool :=
  match k with
  | .ring _ => !waiting
  | .waiting _ => waiting
  | .chime _ => false
  | .nav => false
  | .traffic _ _ => false

/-- The entry of a live announcement handle (06 R104). -/
def liveEntry (c : Cabin) (h : EntryId) : Option Entry :=
  if (c.entrySlot h.slot).gen = h.gen then (c.entrySlot h.slot).entry else none

/-- End a tone with the reason CALL (06 R118). -/
def endTone (h : EntryId) (c : Cabin) : Cabin :=
  match liveEntry c h with
  | none => c
  | some _ => endEntry h.slot .call c

/-- The call has this tone entry (07 R121). -/
def setTone (i : Fin 2) (t : Option EntryId) (c : Cabin) : Cabin := modifyCall i (fun r => { r with tone := t }) c

/-- End the tone that the call holds, by the controller's own act (07 R127). -/
def dropTone (i : Fin 2) (c : Cabin) : Cabin :=
  match (c.callSlot i).record with
  | none => c
  | some r =>
    match r.tone with
    | none => c
    | some h => setTone i none (endTone h c)

/-- Post CALL for the call of a slot: to the front port, and to the rear port where it concerns the rear
(07 R130). -/
def postCall (i : Fin 2) (c : Cabin) : Cabin :=
  postIf (concernsRear c (c.callSlot i).record) .rear .call (post .front .call c)

/-- Queue the tone of a RINGING call; one that is refused leaves ring unplayed yes (07 R127). -/
def queueTone (i : Fin 2) (r : CallRecord) (c : Cabin) : Cabin :=
  let waiting := wantsWaiting c i
  let kind := if waiting then EntryKind.waiting (c.callId i) else EntryKind.ring (c.callId i)
  let targets := if waiting then ZoneSet.of [.z2] else effectiveListeners r
  match queueEntry kind 6 targets 0 c with
  | (c', some h) => setTone i (some h) c'
  | (c', none) => postCall i (modifyCall i (fun r => { r with ringUnplayed := true }) c')

/-- The call holds a tone of the kind it should have. -/
def toneInPlace (c : Cabin) (i : Fin 2) (r : CallRecord) : Bool :=
  match r.tone with
  | none => false
  | some h =>
    match liveEntry c h with
    | none => false
    | some e => toneFits (wantsWaiting c i) e.kind

/-- Settle the tone of the call of a slot, if it is RINGING (07 R127). -/
def settleTone (i : Fin 2) (c : Cabin) : Cabin :=
  match (c.callSlot i).record with
  | none => c
  | some r =>
    if r.state = .ringing ∧ toneInPlace c i r = false then queueTone i r (dropTone i c) else c

/-- A RING entry follows its call's effective listeners (07 R127, 06 R118). -/
def followListeners (i : Fin 2) (c : Cabin) : Cabin :=
  match (c.callSlot i).record with
  | none => c
  | some r =>
    match r.tone with
    | none => c
    | some h =>
      match liveEntry c h with
      | none => c
      | some e =>
        match e.kind with
        | .ring _ => modifyEntry h.slot (fun e => { e with targets := effectiveListeners r }) c
        | _ => c

/-- What follows a change of the calls: the canceller, and everyone's duck state and audible entries
(07 R131, R133). -/
def settleCalls (c : Cabin) : Cabin := refreshSound (followActiveCall c)

/-! ## Open Call (07 R123) -/

def openForm (a : OpenArgs) : Bool :=
  optOk zoneSet? a.listeners && optOk talker? a.talker && optOk yesNo? a.joinable

/-- The record that Open Call creates (07 R121). -/
def openedCall (a : OpenArgs) : CallRecord where
  state := .ringing
  listeners := optRead zoneSet? (ZoneSet.of [.z0, .z2]) a.listeners
  privacy := false
  joinable := optRead yesNo? false a.joinable
  level := optLimit (-60) 0 (-12) a.level
  talker := optRead talker? .driver a.talker
  uplinkMute := false
  ringUnplayed := false
  tone := none

def freeCallSlot (c : Cabin) : Option (Fin 2) := firstIdx fun i => decide ((c.callSlot i).record = none)

/-- Create a call record in a slot (07 R121). -/
def createCall (i : Fin 2) (r : CallRecord) (c : Cabin) : Cabin :=
  putCall i { c.callSlot i with record := some r } c

def openCall (p : Port) (a : OpenArgs) (c : Cabin) : Cabin :=
  if openForm a then
    if p = .rear then refuse p .denied c
    else match freeCallSlot c with
      | none => refuse p .full c
      | some i => respond p (doneOr (optLimited (-60) 0 a.level)) [callWord (c.callId i)]
          (settleCalls (settleTone i (createCall i (openedCall a) c)))
  else refuse p .malformed c

/-! ## Answer, Hold Call, Resume, End Call (07 R124 to R126) -/

/-- Check a request of the front port that names a call: MALFORMED, STALE, DENIED (07 R121). -/
def onCall (p : Port) (h : Handle) (k : Fin 2 → CallRecord → Cabin → Cabin) (c : Cabin) : Cabin :=
  match finOf? 2 h.slot with
  | none => refuse p .malformed c
  | some i =>
    match callOf c i h with
    | none => refuse p .stale c
    | some r => if p = .rear then refuse p .denied c else k i r c

def setCallState (i : Fin 2) (v : CallState) (c : Cabin) : Cabin := modifyCall i (fun r => { r with state := v }) c

/-- The call becomes ACTIVE, the other call HELD if it was ACTIVE (07 R124, R125). -/
def activate (i : Fin 2) (c : Cabin) : Cabin :=
  let c' := if callState c (otherCall i) = some .active then setCallState (otherCall i) .held c else c
  setCallState i .active c'

/-- Answer performed (07 R124). -/
def answerAt (p : Port) (i : Fin 2) (r : CallRecord) (c : Cabin) : Cabin :=
  if r.state = .ringing then
    respond p .done [] (settleCalls (settleTone (otherCall i) (dropTone i (activate i c))))
  else refuse p .wrongState c

def answerCall (p : Port) (h : Handle) (c : Cabin) : Cabin := onCall p h (answerAt p) c

/-- Hold Call performed (07 R125). -/
def holdAt (p : Port) (i : Fin 2) (r : CallRecord) (c : Cabin) : Cabin :=
  if r.state = .active then
    respond p .done [] (settleCalls (settleTone (otherCall i) (setCallState i .held c)))
  else refuse p .wrongState c

def holdCall (p : Port) (h : Handle) (c : Cabin) : Cabin := onCall p h (holdAt p) c

/-- Resume performed (07 R125). -/
def resumeAt (p : Port) (i : Fin 2) (r : CallRecord) (c : Cabin) : Cabin :=
  if r.state = .held then
    respond p .done [] (settleCalls (settleTone (otherCall i) (activate i c)))
  else refuse p .wrongState c

def resumeCall (p : Port) (h : Handle) (c : Cabin) : Cabin := onCall p h (resumeAt p) c

/-- The record of a slot is retired, its generation advancing; the CALL event is judged by the record as
it was (07 R121, R126, R130). -/
def retireCall (i : Fin 2) (c : Cabin) : Cabin := putCall i ⟨(c.callSlot i).gen + 1, none⟩ c

/-- End Call performed (07 R126). -/
def endAt (p : Port) (i : Fin 2) (_r : CallRecord) (c : Cabin) : Cabin :=
  respond p .done [] (settleCalls (settleTone (otherCall i) (retireCall i (dropTone i c))))

def endCall (p : Port) (h : Handle) (c : Cabin) : Cabin := onCall p h (endAt p) c

/-! ## Listeners and settings (07 R128) -/

/-- Replace a call's record by one with other listeners or settings, with the consequences of Set
Listeners (07 R128). -/
def changeCall (i : Fin 2) (r : CallRecord) (c : Cabin) : Cabin :=
  refreshSound (followListeners i (modifyCall i (fun _ => r) c))

/-- Set Listeners performed (07 R128). -/
def listenersAt (p : Port) (zones : ZoneSet) (i : Fin 2) (r : CallRecord) (c : Cabin) : Cabin :=
  respond p .done [] (changeCall i { r with listeners := zones } c)

def setListeners (p : Port) (h : Handle) (zones : Nat) (c : Cabin) : Cabin :=
  match zoneSet? zones with
  | none => refuse p .malformed c
  | some zs => onCall p h (listenersAt p zs) c

def callForm (a : CallArgs) : Bool :=
  optOk talker? a.talker && optOk yesNo? a.uplinkMute && optOk yesNo? a.privacy && optOk yesNo? a.joinable

/-- Without the headphone zones (07 R128). -/
def withoutHeadphones (s : ZoneSet) : ZoneSet := (s.set .z3 false).set .z4 false

/-- Rear joinable becomes no (07 R128). -/
def revokes (r : CallRecord) (a : CallArgs) : Bool :=
  r.joinable && !optRead yesNo? r.joinable a.joinable

/-- The record with the selected fields at their new values (07 R128). -/
def changedCall (r : CallRecord) (a : CallArgs) : CallRecord :=
  { r with
    level := optLimit (-60) 0 r.level a.level
    talker := optRead talker? r.talker a.talker
    uplinkMute := optRead yesNo? r.uplinkMute a.uplinkMute
    privacy := optRead yesNo? r.privacy a.privacy
    joinable := optRead yesNo? r.joinable a.joinable
    listeners := if revokes r a then withoutHeadphones r.listeners else r.listeners }

/-- Set Call performed (07 R128). -/
def settingsAt (p : Port) (a : CallArgs) (i : Fin 2) (r : CallRecord) (c : Cabin) : Cabin :=
  respond p (doneOr (optLimited (-60) 0 a.level)) [] (changeCall i (changedCall r a) c)

def setCall (p : Port) (h : Handle) (a : CallArgs) (c : Cabin) : Cabin :=
  if callForm a then onCall p h (settingsAt p a) c else refuse p .malformed c

/-! ## Set Uplink Gain (07 R132) -/

def setUplinkGain (p : Port) (gain : Int) (c : Cabin) : Cabin :=
  if p = .rear then refuse p .denied c
  else respond p (doneOr (limited 0 24 gain)) []
    { c with calls := { c.calls with uplinkGain := limit 0 24 gain } }

/-! ## Join Call and Leave Call (07 R129) -/

/-- Z3 and Z4 (07 R129). -/
def headphoneZone : Zone → Bool
  | .z0 => false
  | .z1 => false
  | .z2 => false
  | .z3 => true
  | .z4 => true

/-- The checks that Join Call and Leave Call share: MALFORMED, STALE, DENIED (07 R129). A stale handle is STALE
whatever the zone, which the order of 10 R160 puts first (log 47). -/
def onRearCall (p : Port) (h : Handle) (zone : Nat) (k : Zone → Fin 2 → CallRecord → Cabin → Cabin) (c : Cabin) :
    Cabin :=
  match finOf? 2 h.slot, Zone.ofNat? zone with
  | some i, some z =>
    match callOf c i h with
    | none => refuse p .stale c
    | some r => if p = .front ∨ headphoneZone z = false then refuse p .denied c else k z i r c
  | _, _ => refuse p .malformed c

def joinAt (p : Port) (z : Zone) (i : Fin 2) (r : CallRecord) (c : Cabin) : Cabin :=
  if r.joinable = false then refuse p .denied c
  else if r.privacy then refuse p .wrongState c
  else respond p .done [] (changeCall i { r with listeners := r.listeners.set z true } c)

def joinCall (p : Port) (h : Handle) (zone : Nat) (c : Cabin) : Cabin := onRearCall p h zone (joinAt p) c

def leaveAt (p : Port) (z : Zone) (i : Fin 2) (r : CallRecord) (c : Cabin) : Cabin :=
  respond p .done [] (changeCall i { r with listeners := r.listeners.set z false } c)

def leaveCall (p : Port) (h : Handle) (zone : Nat) (c : Cabin) : Cabin := onRearCall p h zone (leaveAt p) c

/-! ## Read Call (07 R130) -/

def readCall (p : Port) (h : Handle) (c : Cabin) : Cabin :=
  match finOf? 2 h.slot with
  | none => refuse p .malformed c
  | some i =>
    match callOf c i h with
    | none => refuse p .stale c
    | some r =>
      if p = .rear ∧ concernsRear c (some r) = false then refuse p .denied c
      else respond p .done (callWords c i r) c

/-! ## The meanings -/

/-- OPEN_CALL (07 R123). -/
def execOpenCall (p : Port) (a : OpenArgs) (s : State) : Outcome := .next (cabRequest p (openCall p a) s)
/-- ANSWER (07 R124). -/
def execAnswer (p : Port) (h : Handle) (s : State) : Outcome := .next (cabRequest p (answerCall p h) s)
/-- HOLD_CALL (07 R125). -/
def execHoldCall (p : Port) (h : Handle) (s : State) : Outcome := .next (cabRequest p (holdCall p h) s)
/-- RESUME (07 R125). -/
def execResume (p : Port) (h : Handle) (s : State) : Outcome := .next (cabRequest p (resumeCall p h) s)
/-- END_CALL (07 R126). -/
def execEndCall (p : Port) (h : Handle) (s : State) : Outcome := .next (cabRequest p (endCall p h) s)
/-- SET_LISTENERS (07 R128). -/
def execSetListeners (p : Port) (h : Handle) (zones : Nat) (s : State) : Outcome :=
  .next (cabRequest p (setListeners p h zones) s)
/-- SET_CALL (07 R128). -/
def execSetCall (p : Port) (h : Handle) (a : CallArgs) (s : State) : Outcome := .next (cabRequest p (setCall p h a) s)
/-- SET_UPLINK_GAIN (07 R132). -/
def execSetUplinkGain (p : Port) (gain : Int) (s : State) : Outcome := .next (cabRequest p (setUplinkGain p gain) s)
/-- JOIN_CALL (07 R129). -/
def execJoinCall (p : Port) (h : Handle) (zone : Nat) (s : State) : Outcome := .next (cabRequest p (joinCall p h zone) s)
/-- LEAVE_CALL (07 R129). -/
def execLeaveCall (p : Port) (h : Handle) (zone : Nat) (s : State) : Outcome := .next (cabRequest p (leaveCall p h zone) s)
/-- READ_CALL (07 R130). -/
def execReadCall (p : Port) (h : Handle) (s : State) : Outcome := .next (cabRequest p (readCall p h) s)

end Sys2Proof.Machine
end

