-- ==== Sys2Proof/Machine/Flags.lean ====
section
/-! DEFINITION. The flags the ring controller and the supply monitor keep: drive causes, external mute,
the sticky flags of a node, the after-LOW watch (08 R139, R144, R146, R147, 09 R153). -/

namespace Sys2Proof.Machine

/-- Post a kind to both ports. -/
def State.postBoth (k : EventKind) (s : State) : State := s.onCab (Machine.postBoth k)

def State.setRing (g : Ring) (s : State) : State := { s with ring := g }

def State.setSupply (v : Supply) (s : State) : State := { s with supply := v }

/-! ## The system mute line (08 R146, R147) -/

/-- At least one drive cause stands (08 R146). -/
def DriveCauses.any (d : DriveCauses) : Bool := d.supply || d.request || d.liteReset

/-- External mute: the line is seen asserted and no drive cause stands (08 R147). -/
def externalNow (g : Ring) : Bool := g.lineSeen && !g.drive.any

/-- Find external mute again; a change posts MUTE to both ports (08 R147). -/
def settleMute (s : State) : State :=
  if externalNow s.ring = s.ring.externalMute then s
  else (s.setRing { s.ring with externalMute := externalNow s.ring }).postBoth .mute

/-- Set the drive causes (08 R146). -/
def setDrive (d : DriveCauses) (s : State) : State := settleMute (s.setRing { s.ring with drive := d })

/-- The line is seen at a level that differs from the one before: MUTE to both ports (08 R147). -/
def seeLine (asserted : Bool) (s : State) : State :=
  settleMute ((s.setRing { s.ring with lineSeen := asserted }).postBoth .mute)

/-- The after-LOW notice at the next release of the line (09 R153). -/
def afterLowNotice (s : State) : State :=
  if s.supply.afterLow then (s.setSupply { s.supply with afterLow := false }).onCab reconverge else s

/-- A change of the line seen (08 R147). -/
def muteLineChange (asserted : Bool) (s : State) : State :=
  if s.cab.ports.part = .held ∨ s.ring.lineSeen = asserted then s
  else if asserted then seeLine true s
  else afterLowNotice (seeLine false s)

/-- MUTE_LINE_CHANGE (08 R147). -/
def execMuteLineChange (asserted : Bool) (s : State) : Outcome := .next (muteLineChange asserted s)

/-! ## System Mute (08 R146) -/

/-- System Mute: `on` is 0 and `off` is 1 (10 R167; log 12). -/
def systemMute (p : Port) (value : Nat) (s : State) : State :=
  match firstOfTwo? value with
  | none => s.onCab (refuse p .malformed)
  | some on =>
    if p = .rear then s.onCab (refuse p .denied)
    else (setDrive { s.ring.drive with request := on } s).onCab (respond p .done [])

/-- SYSTEM_MUTE (08 R146). -/
def execSystemMute (p : Port) (value : Nat) (s : State) : Outcome := .next (takeRequest p (systemMute p value) s)

/-! ## Sticky flags (08 R139, R144) -/

/-- A flag of the second set is set where that of the first is clear. -/
def Sticky.gains (old new : Sticky) : Bool :=
  (!old.linkLost && new.linkLost) || (!old.overTemperature && new.overTemperature) ||
  (!old.outputShort && new.outputShort) || (!old.nodeSupply && new.nodeSupply)

/-- The sticky flags with those of a report set (08 R144). -/
def Sticky.report (t : Sticky) (f : FaultFlags) : Sticky :=
  { t with overTemperature := t.overTemperature || f.overTemperature,
           outputShort := t.outputShort || f.outputShort,
           nodeSupply := t.nodeSupply || f.nodeSupply }

/-- A fault flag of a report is set (08 R144). -/
def faultShown (f : FaultFlags) : Bool := f.overTemperature || f.outputShort || f.nodeSupply

def noSticky : Sticky := ⟨false, false, false, false⟩

end Sys2Proof.Machine
end

