-- ==== Sys2Proof/Machine/RingEvents.lean ====
section
/-! DEFINITION. The speaker ring: frames, discovery, the ability exchange, configuration, status and the
requests on the ring (08). -/

namespace Sys2Proof.Machine

/-! ## Node records -/

def State.node (s : State) (i : Fin 6) : Node := s.ring.nodes.get i

/-- Write a node record without an event. -/
def writeNode (i : Fin 6) (n : Node) (s : State) : State :=
  s.setRing { s.ring with nodes := s.ring.nodes.set i n }

/-- Post RING to the front port (08 R149). -/
def postRing (s : State) : State := s.onCab (post .front .ring)

/-- Write a node record; a change of its state and a sticky flag that becomes set post RING (08 R139,
R149). -/
def putNode (i : Fin 6) (n : Node) (s : State) : State :=
  if n.state ≠ (s.node i).state ∨ (s.node i).sticky.gains n.sticky then postRing (writeNode i n s)
  else writeNode i n s

/-! ## Placement (08 R143) -/

/-- The map entry of a zone channel names the position. -/
def placedOn (e : Placement) (i : Fin 6) : Bool :=
  match e.entry with
  | none => false
  | some (p, _) => decide (p = i.val)

/-- The zone channel is CARRIED on the position. -/
def carriedOn (g : Ring) (i : Fin 6) (z : ZoneChan) : Bool :=
  placedOn (g.placement.get z) i && decide ((g.placement.get z).status = .carried)

/-- A channel of Z0, Z1 or Z2 is CARRIED on the position (08 R145). -/
def carriesCabin (g : Ring) (i : Fin 6) : Bool :=
  (List.finRange 14).any fun z => loudspeakerZone (channelFeed z).1 && carriedOn g i z

/-- A placement entry with the status that `f` gives it, if it is mapped to the position. -/
def newStatus (i : Fin 6) (f : ZoneChan → Placement → PlaceStatus) (z : ZoneChan) (e : Placement) : Placement :=
  if placedOn e i then { e with status := f z e } else e

/-- Set the status of every zone channel mapped to the position (08 R143). -/
def setStatuses (i : Fin 6) (f : ZoneChan → Placement → PlaceStatus) (s : State) : State :=
  s.setRing { s.ring with placement := Tab.build 14 fun z => newStatus i f z (s.ring.placement.get z) }

/-- Every zone channel mapped to the position becomes PENDING (08 R145). -/
def makePending (i : Fin 6) (s : State) : State := setStatuses i (fun _ _ => .pending) s

/-- Every zone channel CARRIED on the position becomes PENDING (08 R144). -/
def dropCarried (i : Fin 6) (s : State) : State :=
  setStatuses i (fun _ e => if e.status = .carried then .pending else e.status) s

/-- The node notice of a node that leaves RUNNING with a channel of Z0, Z1 or Z2 CARRIED on it (08 R145,
07 R136). -/
def nodeNotice (i : Fin 6) (s : State) : State :=
  if (s.node i).state = .running ∧ carriesCabin s.ring i then s.onCab reconverge else s

/-! ## Loss (08 R145) -/

/-- A node record as it becomes ABSENT; its kind, channel count and level class stay (08 R139, R145). -/
def lostNode (linkLost : Bool) (n : Node) : Node :=
  { n with state := .absent, retry := 0, fault := none, corrupt := 0, sent := none, echoed := none, config := [],
           sticky := { n.sticky with linkLost := n.sticky.linkLost || linkLost } }

/-- A node becomes ABSENT with the effects of loss (08 R145). -/
def makeAbsent (linkLost : Bool) (i : Fin 6) (s : State) : State :=
  let n := s.node i
  if n.state = .absent then s
  else putNode i (lostNode linkLost n) (makePending i (nodeNotice i s))

/-- NODE_LOST: the corrupt run of a node has reached 8 (08 R145; log 3). -/
def nodeLost (i : Fin 6) (s : State) : State := if 8 ≤ (s.node i).corrupt then makeAbsent true i s else s

/-- NODE_LOST (08 R145). -/
def execNodeLost (i : Fin 6) (s : State) : Outcome := .next (nodeLost i s)

/-! ## Frames and the ring state (08 R138) -/

/-- The corrupt run after a return word (08 R145). -/
def nextCorrupt (w : ReturnWord) (n : Node) : Node :=
  if n.state = .absent then n
  else match w with
    | .good => { n with corrupt := 0 }
    | .corrupt => { n with corrupt := min 8 (n.corrupt + 1) }
    | .empty => { n with corrupt := min 8 (n.corrupt + 1) }

/-- The runs of synchronised and unsynchronised frames after a frame (08 R138). -/
def countFrame (synchronised : Bool) (g : Ring) : Ring :=
  match g.state with
  | .down => g
  | .locking => { g with goodFrames := if synchronised then min 96 (g.goodFrames + 1) else 0 }
  | .up => { g with badFrames := if synchronised then 0 else min 4 (g.badFrames + 1) }

/-- A returning frame (08 R138, R145). -/
def returnFrame (f : RingFrame) (s : State) : State :=
  let g := countFrame f.synchronised s.ring
  s.setRing { g with nodes := Tab.build 6 fun i => nextCorrupt (f.words.get i) (g.nodes.get i) }

/-- RETURN_FRAME (08 R138). -/
def execReturnFrame (f : RingFrame) (s : State) : Outcome := .next (returnFrame f s)

/-- Poll every ABSENT position (08 R140). -/
def pollNode (n : Node) : Node := if n.state = .absent then { n with sent := some .poll } else n

def pollAll (s : State) : State := s.setRing { s.ring with nodes := s.ring.nodes.map pollNode }

/-- The ring becomes UP after 96 consecutive synchronised frames and polls at once (08 R138, R140). -/
def ringUp (s : State) : State :=
  if s.ring.state = .locking ∧ 96 ≤ s.ring.goodFrames then
    pollAll (postRing (s.setRing { s.ring with state := .up, goodFrames := 0, badFrames := 0 }))
  else s

/-- RING_UP (08 R138; log 3). -/
def execRingUp (s : State) : Outcome := .next (ringUp s)

/-- Every node that is not ABSENT is lost, and locking begins again (08 R138). -/
def ringDown (s : State) : State :=
  if s.ring.state = .up ∧ 4 ≤ s.ring.badFrames then
    let s := eachIdx 6 (makeAbsent true) s
    postRing (s.setRing { s.ring with state := .locking, goodFrames := 0, badFrames := 0 })
  else s

/-- RING_DOWN (08 R138; log 3). -/
def execRingDown (s : State) : Outcome := .next (ringDown s)

/-- The controller polls every 100 ms while the ring is UP (08 R140). -/
def discoveryPoll (s : State) : State := if s.ring.state = .up then pollAll s else s

/-- DISCOVERY_POLL (08 R140). -/
def execDiscoveryPoll (s : State) : Outcome := .next (discoveryPoll s)

/-- A node that answers a poll is DISCOVERED and is sent the ability request (08 R140; log 25). -/
def pollAnswer (i : Fin 6) (s : State) : State :=
  let n := s.node i
  if s.ring.state = .up ∧ n.state = .absent ∧ n.sent = some .poll then
    putNode i { n with state := .discovered, pages := 0, toggle := false, corrupt := 0,
                       sent := some .abilityRequest, echoed := none } s
  else s

/-- POLL_ANSWER (08 R140). -/
def execPollAnswer (i : Fin 6) (s : State) : Outcome := .next (pollAnswer i s)

/-! ## Configuration (08 R143) -/

/-- The zone channels mapped to a node channel, in zone channel order. -/
def mappedTo (g : Ring) (i : Fin 6) (k : Nat) : List ZoneChan :=
  (List.finRange 14).filter fun z => decide ((g.placement.get z).entry = some (i.val, k))

/-- A headphone zone's channel goes to a HEADPHONE-AMP only, and a HEADPHONE-AMP takes no other (08 R143). -/
def kindFits (kind : Option NodeKind) (z : ZoneChan) : Bool :=
  decide (headphoneZone (channelFeed z).1 = decide (kind = some .headphoneAmp))

/-- The zone channel that the page for a node channel names, or unused (08 R143). -/
def pageFor (g : Ring) (i : Fin 6) (kind : Option NodeKind) (k : Nat) : Option ZoneChan :=
  match mappedTo g i k with
  | [] => none
  | z :: _ => if kindFits kind z then some z else none

/-- The configuration pages for a node (08 R143). -/
def pagesFor (g : Ring) (i : Fin 6) (n : Node) : List (Option ZoneChan) :=
  (List.range (n.channels.getD 0)).map (pageFor g i n.kind)

/-- The statuses that a configuration decides: a zone channel named in a page is PENDING until the node
runs, and any other mapped to the position is UNPLACED (08 R143). -/
def workedStatus (pages : List (Option ZoneChan)) (z : ZoneChan) : PlaceStatus :=
  if pages.contains (some z) then .pending else .unplaced

/-- A node becomes CONFIGURING: its pages are worked out and the first is sent (08 R143). -/
def startConfig (i : Fin 6) (n : Node) (s : State) : State :=
  let pages := pagesFor s.ring i n
  putNode i { n with state := .configuring, fault := none, config := pages, sent := some (.configPage 0) }
    (setStatuses i (fun z _ => workedStatus pages z) s)

/-- The zone channels named in the acknowledged pages are CARRIED (08 R143). -/
def carryNamed (i : Fin 6) (pages : List (Option ZoneChan)) (s : State) : State :=
  setStatuses i (fun z e => if pages.contains (some z) then .carried else e.status) s

/-- A node goes to FAULT while it is being brought up (08 R142, R143). -/
def faultNode (i : Fin 6) (reason : NodeFault) (s : State) : State :=
  putNode i { s.node i with state := .fault, fault := some reason, sent := none } s

/-- What follows the acknowledgement of a configuration page (08 R143). -/
def configAcknowledged (i : Fin 6) (s : State) : State :=
  let n := s.node i
  match n.sent with
  | some (.configPage k) =>
    if k + 1 < n.config.length then writeNode i { n with sent := some (.configPage (k + 1)) } s
    else writeNode i { n with sent := some .finalPage } s
  | some .finalPage => carryNamed i n.config (putNode i { n with state := .running, retry := 0, sent := none } s)
  | some .poll => s
  | some .abilityRequest => s
  | none => s

/-- An answer to a configuration page (08 R143). -/
def configPageAnswer (i : Fin 6) (acknowledged : Bool) (s : State) : State :=
  if (s.node i).state = .configuring then
    if acknowledged then configAcknowledged i s else faultNode i .refused s
  else s

/-- CONFIG_PAGE_ANSWER (08 R143). -/
def execConfigPageAnswer (i : Fin 6) (acknowledged : Bool) (s : State) : Outcome :=
  .next (configPageAnswer i acknowledged s)

/-- 50 ms without an answer: the pages are sent again, or the node faults (08 R143). -/
def configTimeout (i : Fin 6) (s : State) : State :=
  let n := s.node i
  if n.state = .configuring then
    if n.retry < 3 then writeNode i { n with retry := n.retry + 1, sent := some (.configPage 0) } s
    else faultNode i .exchange s
  else s

/-- CONFIG_TIMEOUT (08 R143). -/
def execConfigTimeout (i : Fin 6) (s : State) : Outcome := .next (configTimeout i s)

/-! ## The ability exchange (08 R141, R142) -/

/-- The node is in its exchange (08 R142). -/
def exchanging (n : Node) : Bool := decide (n.state = .discovered) || decide (n.state = .exchanging)

/-- The exchange fails: it starts again from BASE, or the node faults (08 R142). -/
def exchangeFails (i : Fin 6) (s : State) : State :=
  let n := s.node i
  if n.retry < 3 then
    writeNode i { n with retry := n.retry + 1, pages := 0, toggle := false, sent := some .abilityRequest,
                         echoed := none } s
  else faultNode i .exchange s

/-- PAGE_TIMER_EXPIRY (08 R142). -/
def pageTimerExpiry (i : Fin 6) (s : State) : State := if exchanging (s.node i) then exchangeFails i s else s

def execPageTimerExpiry (i : Fin 6) (s : State) : Outcome := .next (pageTimerExpiry i s)

/-- The node as an accepted page leaves it, if the page is in its place: its toggle is echoed (08 R141; log 22). -/
def acceptPage (page : AbilityPage) (n : Node) : Option Node :=
  match page.kind with
  | .base kind channels levelClass =>
    if n.pages = 0 ∧ 1 ≤ channels ∧ channels ≤ 8 then
      kind.map fun k => { n with kind := some k, channels := some channels, levelClass := some levelClass,
                                 pages := 1, toggle := !n.toggle, sent := none, echoed := some page.toggle }
    else none
  | .channel m =>
    if 1 ≤ n.pages ∧ m + 1 = n.pages then
      some { n with pages := n.pages + 1, toggle := !n.toggle, sent := none, echoed := some page.toggle }
    else none

/-- The page is the last the channel count allows (08 R141). -/
def lastPage (n : Node) : Bool := decide (n.channels = some (n.pages - 1) ∧ 1 ≤ n.pages)

/-- A page with the expected toggle (08 R141). -/
def takePage (i : Fin 6) (page : AbilityPage) (s : State) : State :=
  match acceptPage page (s.node i) with
  | none => exchangeFails i s
  | some n =>
    if page.more = lastPage n then exchangeFails i s
    else if page.more then putNode i { n with state := .exchanging } s
    else startConfig i n s

/-- A repeat is acknowledged again and discarded (08 R141). -/
def echoRepeat (i : Fin 6) (page : AbilityPage) (s : State) : State :=
  writeNode i { s.node i with echoed := some page.toggle } s

/-- An ability page (08 R141). The last page of an exchange can still be repeated while the node is CONFIGURING, where
no other page has a place (log 25). -/
def abilityPage (i : Fin 6) (page : AbilityPage) (s : State) : State :=
  let n := s.node i
  if exchanging n then
    if page.toggle = n.toggle then takePage i page s else echoRepeat i page s
  else if n.state = .configuring ∧ page.toggle ≠ n.toggle then echoRepeat i page s
  else s

/-- ABILITY_PAGE (08 R141). -/
def execAbilityPage (i : Fin 6) (page : AbilityPage) (s : State) : Outcome := .next (abilityPage i page s)

/-! ## Status reports (08 R144) -/

/-- A RUNNING node reports a fault (08 R144, R145). -/
def reportFault (i : Fin 6) (f : FaultFlags) (s : State) : State :=
  let n := s.node i
  putNode i { n with state := .fault, fault := some .reported, sticky := n.sticky.report f }
    (dropCarried i (nodeNotice i s))

/-- A status report (08 R144). -/
def statusReport (i : Fin 6) (f : FaultFlags) (s : State) : State :=
  let n := s.node i
  if n.state = .running then
    if faultShown f then reportFault i f s else s
  else if n.state = .fault ∧ n.fault = some .reported then
    if faultShown f then putNode i { n with sticky := n.sticky.report f } s else startConfig i n s
  else s

/-- STATUS_REPORT (08 R144). -/
def execStatusReport (i : Fin 6) (f : FaultFlags) (s : State) : Outcome := .next (statusReport i f s)

/-! ## Requests on the ring (08 R148) -/

/-- Read Ring (08 R148). -/
def readRing (p : Port) (s : State) : State := s.onCab (respond p .done (ringWords s.ring))

/-- READ_RING (08 R148). -/
def execReadRing (p : Port) (s : State) : Outcome := .next (takeRequest p (readRing p) s)

/-- Read Node (08 R148): the sticky flags are returned as they stood and cleared. -/
def readNode (p : Port) (position : Nat) (s : State) : State :=
  match finOf? 6 position with
  | none => s.onCab (refuse p .malformed)
  | some i =>
    if p = .rear then s.onCab (refuse p .denied)
    else (writeNode i { s.node i with sticky := noSticky } s).onCab (respond p .done (nodeWords i (s.node i)))

/-- READ_NODE (08 R148). -/
def execReadNode (p : Port) (position : Nat) (s : State) : Outcome := .next (takeRequest p (readNode p position) s)

/-- Restart Node (08 R148): ABSENT with the effects of loss, but for the link-lost flag. -/
def restartNode (p : Port) (position : Nat) (s : State) : State :=
  match finOf? 6 position with
  | none => s.onCab (refuse p .malformed)
  | some i =>
    if p = .rear then s.onCab (refuse p .denied)
    else if (s.node i).state = .absent then s.onCab (refuse p .wrongState)
    else (makeAbsent false i s).onCab (respond p .done [])

/-- RESTART_NODE (08 R148). -/
def execRestartNode (p : Port) (position : Nat) (s : State) : Outcome :=
  .next (takeRequest p (restartNode p position) s)

end Sys2Proof.Machine
end

