-- ==== Sys2Proof/Machine/SupplyEvents.lean ====
section
/-! DEFINITION. The supply monitor, power-on reset, start-up and the calibration image (09). -/

namespace Sys2Proof.Machine

/-! ## Supply states (09 R150, R151) -/

/-- The crank offset on entering a supply state (09 R151). -/
def crankOn : SupplyState → Int
  | .normal => 0
  | .dip => -36
  | .settle => -36
  | .recover => -36
  | .low => -36

/-- Enter a supply state; a change posts SUPPLY to both ports (09 R150, R151). -/
def enterSupply (st : SupplyState) (s : State) : State :=
  let s' := s.setSupply { s.supply with state := st, crank := crankOn st }
  if s.supply.state = st then s' else s'.postBoth .supply

/-- Enter LOW: the supply drive cause begins, the expect window ends, the tuners stop and the pass is
discarded (09 R153). -/
def enterLow (s : State) : State :=
  let s := enterSupply .low s
  let s := setDrive { s.ring.drive with supply := true } (s.setSupply { s.supply with window := false })
  s.onCab stopTuners

/-- Leave LOW for SETTLE: the tuners restart (09 R153, 05 R101). -/
def leaveLow (s : State) : State := (enterSupply .settle s).onCab restartTuners

/-- The classes of a sample (09 R150); `crossing` is above 9.0 V after one at or below it. -/
inductive SampleClass where
  | low | dip | middle | crossing | above
  deriving DecidableEq, Repr

/-- A sample at or above 5.0 V is classed by its millivolts and the sample before (09 R150; log 10). -/
def classOf (previous mv : Nat) : SampleClass :=
  if mv < 6000 then .low
  else if mv < 7000 then .dip
  else if mv ≤ 9000 then .middle
  else if previous ≤ 9000 then .crossing
  else .above

/-- The supply state's response to a sample (09 R150, the table). -/
def takeClass (k : SampleClass) (s : State) : State :=
  match k, s.supply.state with
  | .low, .low => s
  | .low, _ => enterLow s
  | .dip, .normal => enterSupply .dip s
  | .dip, .settle => enterSupply .dip s
  | .dip, .recover => enterSupply .dip s
  | .dip, _ => s
  | .crossing, .dip => enterSupply .settle s
  | .crossing, .low => leaveLow s
  | .crossing, _ => s
  | .middle, _ => s
  | .above, _ => s

/-- A sample below 7.0 V and a rising crossing end the expect window (09 R152). -/
def endsWindow : SampleClass → Bool
  | .low => true
  | .dip => true
  | .crossing => true
  | .middle => false
  | .above => false

/-- The first sample after power-on reset sets the state (09 R154). -/
def firstSample (mv : Nat) (s : State) : State :=
  if 9000 ≤ mv then enterSupply .normal s
  else if 6000 ≤ mv then enterSupply .dip s
  else enterLow s

/-- A sample at or above 5.0 V (09 R150, R152, R154). -/
def takeSample (mv : Nat) (s : State) : State :=
  match s.supply.previous with
  | none => firstSample mv (s.setSupply { s.supply with previous := some mv, window := false })
  | some v =>
    let k := classOf v mv
    takeClass k (s.setSupply { s.supply with previous := some mv, window := s.supply.window && !endsWindow k })

/-! ## Power-on reset (09 R154) -/

/-- Every block at its power-on value; the model's own queue and counter go on (09 R154). -/
def powerOnReset (s : State) : State := { State.reset with free := s.free, pending := s.pending }

/-- POWER_ON_RESET (09 R154). -/
def execPowerOnReset (s : State) : Outcome := .next (powerOnReset s)

/-- A supply sample; below 5.0 V it is a brownout reset (09 R150, R154). A part held in reset takes none. -/
def supplySample (mv : Nat) (s : State) : State :=
  if s.cab.ports.part = .held then s
  else if mv < 5000 then powerOnReset s
  else takeSample mv s

/-- SUPPLY_SAMPLE (09 R150). -/
def execSupplySample (mv : Nat) (s : State) : Outcome := .next (supplySample mv s)

/-! ## Endings by time (09 R151, R152) -/

/-- The supply drive cause ends, if it stands, and sets the after-LOW watch (09 R153). -/
def endSupplyDrive (s : State) : State :=
  if s.ring.drive.supply then
    setDrive { s.ring.drive with supply := false } (s.setSupply { s.supply with afterLow := true })
  else s

/-- The settle timer runs out in SETTLE (09 R151, R153). -/
def settleTimerExpiry (s : State) : State :=
  if s.supply.state = .settle then endSupplyDrive (enterSupply .recover s) else s

/-- SETTLE_TIMER_EXPIRY (09 R151). -/
def execSettleTimerExpiry (s : State) : Outcome := .next (settleTimerExpiry s)

/-- 8 ms of RECOVER: c rises by one step, and at 0 the state is NORMAL (09 R151). -/
def recoverStep (s : State) : State :=
  if s.supply.state = .recover then
    if s.supply.crank + 1 < 0 then s.setSupply { s.supply with crank := s.supply.crank + 1 }
    else enterSupply .normal s
  else s

/-- RECOVER_STEP (09 R151). -/
def execRecoverStep (s : State) : Outcome := .next (recoverStep s)

/-- The expect window's 3 s pass (09 R152). -/
def expectWindowExpiry (s : State) : State :=
  if s.supply.window then
    let s' := s.setSupply { s.supply with window := false }
    match s.supply.previous with
    | none => s'
    | some v => if 9000 ≤ v then enterSupply .settle s' else s'
  else s

/-- EXPECT_WINDOW_EXPIRY (09 R152). -/
def execExpectWindowExpiry (s : State) : Outcome := .next (expectWindowExpiry s)

/-! ## Expect Dip (09 R152) -/

def expectDip (p : Port) (s : State) : State :=
  if p = .rear then s.onCab (refuse p .denied)
  else if s.supply.state ≠ .normal then s.onCab (refuse p .wrongState)
  else
    let s := enterSupply .dip s
    (s.setSupply { s.supply with window := true }).onCab (respond p .done [])

/-- EXPECT_DIP (09 R152). -/
def execExpectDip (p : Port) (s : State) : Outcome := .next (takeRequest p (expectDip p) s)

/-! ## Start-up (09 R154, R155) -/

def setPart (v : PartState) (c : Cabin) : Cabin := { c with ports := { c.ports with part := v } }

/-- The rail reaches 5.0 V while the part is held: the part is STARTING, and the line is first sensed with
no event (09 R154, 08 R149; log 24). -/
def startUp (mv : Nat) (lineAsserted : Bool) (s : State) : State :=
  if s.cab.ports.part = .held ∧ 5000 ≤ mv then
    (s.setRing { s.ring with lineSeen := lineAsserted, externalMute := lineAsserted && !s.ring.drive.any }).onCab
      (setPart .starting)
  else s

/-- START_UP (09 R154). -/
def execStartUp (mv : Nat) (lineAsserted : Bool) (s : State) : Outcome := .next (startUp mv lineAsserted s)

/-! ## The calibration image (09 R155, R156) -/

/-- The sum of all words of the image but the check word, modulo 65536 (09 R155). -/
def imageSum (ws : List Word) : Word := ws.foldl (· + ·) 0

/-- A map entry outside positions 0 to 5 or node channels 0 to 7 is unplaced (09 R156). -/
def limitMapEntry : Option (Nat × Nat) → Option (Nat × Nat)
  | none => none
  | some (p, k) => if p < 6 ∧ k < 8 then some (p, k) else none

/-- A zone's image values, each limited to its range (09 R156). -/
def limitZoneImage (z : ZoneImage) : ZoneImage where
  absoluteCeiling := limit (-192) 0 z.absoluteCeiling
  defaultCeiling := limit (-192) 0 z.defaultCeiling
  duckDepth := limit (-80) 0 z.duckDepth
  callDuckDepth := limit (-80) 0 z.callDuckDepth
  traffic := limit (-120) 0 z.traffic
  nav := limit (-120) 0 z.nav
  chime := limit (-120) 0 z.chime
  ring := limit (-120) 0 z.ring
  accept := z.accept

/-- The image copy taken from an image (09 R156). -/
def limitImage (v : Image) : Image where
  zones := v.zones.map limitZoneImage
  map := v.map.map limitMapEntry
  antenna := ⟨limit (-10) 10 v.antenna.t0, limit (-10) 10 v.antenna.t1⟩
  driverTrim := limit (-24) 24 v.driverTrim
  passengerTrim := limit (-24) 24 v.passengerTrim

/-- The image copy a load gives; none where the image is set aside (09 R155). -/
def loadedImage : EepromRead → Option Image
  | .noAnswer => none
  | .failed => none
  | .read lengthOk others check values =>
    if lengthOk ∧ imageSum others = check then some (limitImage values) else none

/-- The cabin blocks as the part becomes RUNNING (09 R155, 01 R1, 05 R103). -/
def beginRunning (img : Image) (c : Cabin) : Cabin :=
  let c := setPart .running c
  let c := { c with dir := { c.dir with zones := resetZones img } }
  settleRoutes (markAllStale (settleRoles c))

/-- The ring enters LOCKING when the part becomes RUNNING (08 R138). -/
def beginLocking (s : State) : State :=
  if s.ring.state = .down then
    postRing (s.setRing { s.ring with state := .locking, goodFrames := 0, badFrames := 0 })
  else s

/-- The calibration load ends and the part becomes RUNNING (09 R155). -/
def imageLoadEnd (e : EepromRead) (s : State) : State :=
  if s.cab.ports.part = .starting then
    let img := (loadedImage e).getD builtInImage
    let s := s.setSupply { s.supply with image := img, imageAbsent := (loadedImage e).isNone }
    let s := s.setRing { s.ring with placement := resetPlacement img }
    beginLocking (s.onCab (beginRunning img))
  else s

/-- IMAGE_LOAD_END (09 R155). -/
def execImageLoadEnd (e : EepromRead) (s : State) : Outcome := .next (imageLoadEnd e s)

end Sys2Proof.Machine
end

