-- ==== Sys2Proof/Machine/PortEvents.lean ====
section
/-! DEFINITION. The transaction, Read Events, the console relay and lite reset (10). -/

namespace Sys2Proof.Machine

/-! ## The transaction (10 R158 to R160) -/

/-- The port is selected: it captures its status word, and an earlier response is lost (10 R158, R159). -/
def portSelect (p : Port) (s : State) : State :=
  s.onCab fun c => { c with ports := { c.ports with
    status := c.ports.status.set p (statusWord s p), response := c.ports.response.set p none } }

/-- PORT_SELECT (10 R159). -/
def execPortSelect (p : Port) (s : State) : Outcome := .next (portSelect p s)

/-- TRANSACTION_ABANDONED: nothing is taken and nothing changes (10 R158). -/
def execTransactionAbandoned (_p : Port) (s : State) : Outcome := .next s

/-- UNKNOWN_REQUEST: a bad request number or length is MALFORMED (10 R160). -/
def execUnknownRequest (p : Port) (_number _length : Nat) (s : State) : Outcome :=
  .next (cabRequest p (refuse p .malformed) s)

/-! ## Read Events (10 R163) -/

/-- The event set as a word, bit 0 ROUTE to bit 12 MUTE (10 R167). -/
def eventsWord (e : EventSet) : Word := bitsWord e.cells

def clearEvents (p : Port) (c : Cabin) : Cabin :=
  { c with ports := { c.ports with events := c.ports.events.set p emptyEvents } }

def readEvents (p : Port) (c : Cabin) : Cabin :=
  respond p .done [eventsWord (c.ports.events.get p), c.ports.liteNumber] (clearEvents p c)

/-- READ_EVENTS (10 R163). -/
def execReadEvents (p : Port) (s : State) : Outcome := .next (cabRequest p (readEvents p) s)

/-! ## The console relay (10 R164, R165) -/

/-- Write a port's outgoing relay slot. -/
def setRelay (p : Port) (w : Option Word) (c : Cabin) : Cabin :=
  { c with ports := { c.ports with relay := c.ports.relay.set p w } }

def relaySend (p : Port) (w : Word) (c : Cabin) : Cabin :=
  match c.ports.relay.get p with
  | some _ => refuse p .wrongState c
  | none => respond p .done [] (post p.other .relayIn (setRelay p (some w) c))

/-- RELAY_SEND (10 R164). -/
def execRelaySend (p : Port) (w : Word) (s : State) : Outcome := .next (cabRequest p (relaySend p w) s)

def relayTake (p : Port) (c : Cabin) : Cabin :=
  match c.ports.relay.get p.other with
  | none => refuse p .wrongState c
  | some w => respond p .done [w] (post p.other .relayDone (setRelay p.other none c))

/-- RELAY_TAKE (10 R165). -/
def execRelayTake (p : Port) (s : State) : Outcome := .next (cabRequest p (relayTake p) s)

/-! ## Lite reset (10 R166) -/

/-- The ports at the start of a lite reset (10 R166). -/
def litePorts (v : Ports) : Ports :=
  { v with part := .liteReset, events := PerPort.both emptyEvents, relay := PerPort.both none }

/-- An occupied slot is freed and its generation advances; a free one keeps it (01 R23, 06 R120, 07 R137). -/
def freeRouteSlot (x : RouteSlot) : RouteSlot :=
  match x.record with
  | none => x
  | some _ => ⟨x.gen + 1, none⟩

def freeEntry (x : EntrySlot) : EntrySlot :=
  match x.entry with
  | none => x
  | some _ => ⟨x.gen + 1, none⟩

def freeCall (x : CallSlot) : CallSlot :=
  match x.record with
  | none => x
  | some _ => ⟨x.gen + 1, none⟩

/-- The directory at lite reset; the media declarations stay (01 R23). -/
def liteDirectory (img : Image) (v : Directory) : Directory :=
  { v with zones := resetZones img, rearControl := false, lists := v.lists.map fun l => l.map freeRouteSlot }

/-- A zone of the mix engine at lite reset (02 R41, 03 R56). -/
def liteMixZone (m : MixZone) : MixZone := { emptyMixZone with recorded := m.recorded }

/-- The plan builder at lite reset (03 R56). -/
def liteBuilder : Builder := Builder.reset

/-- The announcement queue at lite reset (06 R120). -/
def liteQueue (v : Queue) : Queue :=
  { v with
    slots := v.slots.map freeEntry
    ends := []
    endNumber := 0
    ignored := []
    patterns := builtInPatterns
    voices := Tab.fill 2 none }

/-- The call controller at lite reset (07 R137). -/
def liteCalls (v : Calls) : Calls where
  slots := v.slots.map freeCall
  canceller := idleCanceller
  uplinkGain := 0
  uplinkLevel := 0
  phoneUl := 0

/-- A station record at lite reset: no route names it and it is not watched (01 R23, 04 R85). -/
def liteStation (r : Station) : Station := { r with refs := 0, watched := false }

/-- The station table at lite reset, but for the pass (04 R85). -/
def liteTable (v : StationTable) : StationTable :=
  { v with
    slots := v.slots.map fun x => { x with record := x.record.map liteStation }
    watch := none
    cursor := PerPort.both none }

/-- Diversity is off and follows are abandoned at lite reset (05 R94, R100; log 32). -/
def liteAllocator (c : Cabin) : Cabin :=
  settleRoles (endDiversity .pc1 (endDiversity .pc0 (abandonFollow .pc1 (abandonFollow .pc0 c))))

/-- The lite reset actions of the cabin blocks at its start (10 R166). -/
def liteCabin (img : Image) (c : Cabin) : Cabin :=
  let c : Cabin := { c with
    ports := litePorts c.ports
    queue := liteQueue c.queue
    calls := liteCalls c.calls
    dir := liteDirectory img c.dir
    mix := { c.mix with zones := c.mix.zones.map liteMixZone }
    builder := liteBuilder
    table := liteTable c.table }
  discardPass (liteAllocator c)

/-- Lite Reset (10 R166). -/
def liteReset (p : Port) (s : State) : State :=
  if p = .rear then s.onCab (refuse p .denied)
  else
    let s := s.onCab (liteCabin s.supply.image)
    (setDrive { s.ring.drive with liteReset := true } s).onCab (respond p .accepted [])

/-- LITE_RESET (10 R166). -/
def execLiteReset (p : Port) (s : State) : Outcome := .next (takeRequest p (liteReset p) s)

/-- The cabin blocks at the end of a lite reset (10 R166, 03 R56, 05 R103). -/
def liteEndCabin (c : Cabin) : Cabin :=
  let c := { c with ports := { c.ports with part := .running, liteNumber := c.ports.liteNumber + 1 } }
  settleDirectory (settleRoles (markAllStale (postBoth .zone c)))

/-- The 20 ms of a lite reset are over (10 R166). -/
def liteResetEnd (s : State) : State :=
  if s.cab.ports.part = .liteReset then
    setDrive { s.ring.drive with liteReset := false } (s.onCab liteEndCabin)
  else s

/-- LITE_RESET_END (10 R166). -/
def execLiteResetEnd (s : State) : Outcome := .next (liteResetEnd s)

end Sys2Proof.Machine
end

