-- ==== Sys2Proof/Machine/Dispatch.lean ====
section
/-! DEFINITION. One meaning for each command. -/

namespace Sys2Proof.Machine

/-- The effect of a command on everything but the queue of waiting commands. -/
def exec (i : Instr) (s : State) : Host.Outcome State Fault Refusal :=
  match i with
  | .portSelect p => Sys2Proof.Machine.execPortSelect p s
  | .transactionAbandoned p => Sys2Proof.Machine.execTransactionAbandoned p s
  | .unknownRequest p number length => Sys2Proof.Machine.execUnknownRequest p number length s
  | .placeRoute p a => Sys2Proof.Machine.execPlaceRoute p a s
  | .alterRoute p h a => Sys2Proof.Machine.execAlterRoute p h a s
  | .park p h => Sys2Proof.Machine.execPark p h s
  | .unpark p h => Sys2Proof.Machine.execUnpark p h s
  | .retireRoute p h => Sys2Proof.Machine.execRetireRoute p h s
  | .readRoute p h => Sys2Proof.Machine.execReadRoute p h s
  | .clearMarks p h => Sys2Proof.Machine.execClearMarks p h s
  | .setZone p zone a => Sys2Proof.Machine.execSetZone p zone a s
  | .readZone p zone => Sys2Proof.Machine.execReadZone p zone s
  | .linkList p zone list => Sys2Proof.Machine.execLinkList p zone list s
  | .grantRearControl p value => Sys2Proof.Machine.execGrantRearControl p value s
  | .clearZoneRoutes p zones => Sys2Proof.Machine.execClearZoneRoutes p zones s
  | .mediaState p m0 m1 m2 m3 => Sys2Proof.Machine.execMediaState p m0 m1 m2 m3 s
  | .enterHold p => Sys2Proof.Machine.execEnterHold p s
  | .releaseHold p => Sys2Proof.Machine.execReleaseHold p s
  | .readStation p h => Sys2Proof.Machine.execReadStation p h s
  | .walkStations p count mode => Sys2Proof.Machine.execWalkStations p count mode s
  | .addStation p band channel => Sys2Proof.Machine.execAddStation p band channel s
  | .keep p h => Sys2Proof.Machine.execKeep p h s
  | .unkeep p h => Sys2Proof.Machine.execUnkeep p h s
  | .retireStation p h => Sys2Proof.Machine.execRetireStation p h s
  | .setTrafficWatch p h priority => Sys2Proof.Machine.execSetTrafficWatch p h priority s
  | .readReception p => Sys2Proof.Machine.execReadReception p s
  | .startChime p pattern targets => Sys2Proof.Machine.execStartChime p pattern targets s
  | .cancelAnnouncement p h => Sys2Proof.Machine.execCancelAnnouncement p h s
  | .startNav p targets => Sys2Proof.Machine.execStartNav p targets s
  | .keepNav p => Sys2Proof.Machine.execKeepNav p s
  | .endNav p => Sys2Proof.Machine.execEndNav p s
  | .setPattern p pattern a => Sys2Proof.Machine.execSetPattern p pattern a s
  | .readPattern p pattern => Sys2Proof.Machine.execReadPattern p pattern s
  | .readAnnouncements p => Sys2Proof.Machine.execReadAnnouncements p s
  | .openCall p a => Sys2Proof.Machine.execOpenCall p a s
  | .answer p h => Sys2Proof.Machine.execAnswer p h s
  | .holdCall p h => Sys2Proof.Machine.execHoldCall p h s
  | .resume p h => Sys2Proof.Machine.execResume p h s
  | .endCall p h => Sys2Proof.Machine.execEndCall p h s
  | .setListeners p h zones => Sys2Proof.Machine.execSetListeners p h zones s
  | .setCall p h a => Sys2Proof.Machine.execSetCall p h a s
  | .setUplinkGain p gain => Sys2Proof.Machine.execSetUplinkGain p gain s
  | .joinCall p h zone => Sys2Proof.Machine.execJoinCall p h zone s
  | .leaveCall p h zone => Sys2Proof.Machine.execLeaveCall p h zone s
  | .readCall p h => Sys2Proof.Machine.execReadCall p h s
  | .readRing p => Sys2Proof.Machine.execReadRing p s
  | .readNode p position => Sys2Proof.Machine.execReadNode p position s
  | .restartNode p position => Sys2Proof.Machine.execRestartNode p position s
  | .systemMute p value => Sys2Proof.Machine.execSystemMute p value s
  | .expectDip p => Sys2Proof.Machine.execExpectDip p s
  | .readEvents p => Sys2Proof.Machine.execReadEvents p s
  | .relaySend p w => Sys2Proof.Machine.execRelaySend p w s
  | .relayTake p => Sys2Proof.Machine.execRelayTake p s
  | .liteReset p => Sys2Proof.Machine.execLiteReset p s
  | .liteResetEnd => Sys2Proof.Machine.execLiteResetEnd s
  | .powerOnReset => Sys2Proof.Machine.execPowerOnReset s
  | .imageLoadEnd e => Sys2Proof.Machine.execImageLoadEnd e s
  | .supplySample mv => Sys2Proof.Machine.execSupplySample mv s
  | .settleTimerExpiry => Sys2Proof.Machine.execSettleTimerExpiry s
  | .recoverStep => Sys2Proof.Machine.execRecoverStep s
  | .expectWindowExpiry => Sys2Proof.Machine.execExpectWindowExpiry s
  | .rampTick => Sys2Proof.Machine.execRampTick s
  | .mixSample x => Sys2Proof.Machine.execMixSample x s
  | .planBuildComplete => Sys2Proof.Machine.execPlanBuildComplete s
  | .measurement t f => Sys2Proof.Machine.execMeasurement t f s
  | .diversityOff c => Sys2Proof.Machine.execDiversityOff c s
  | .diversityTuneComplete => Sys2Proof.Machine.execDiversityTuneComplete s
  | .retuneComplete c => Sys2Proof.Machine.execRetuneComplete c s
  | .followStart c => Sys2Proof.Machine.execFollowStart c s
  | .followProbeComplete f => Sys2Proof.Machine.execFollowProbeComplete f s
  | .followWinnerTuned => Sys2Proof.Machine.execFollowWinnerTuned s
  | .excursionStart c => Sys2Proof.Machine.execExcursionStart c s
  | .excursionEnd c f => Sys2Proof.Machine.execExcursionEnd c f s
  | .scanMeasurement f => Sys2Proof.Machine.execScanMeasurement f s
  | .dwellTimeout => Sys2Proof.Machine.execDwellTimeout s
  | .dataGroup t g => Sys2Proof.Machine.execDataGroup t g s
  | .cadenceTick => Sys2Proof.Machine.execCadenceTick s
  | .chimeCompleted voice => Sys2Proof.Machine.execChimeCompleted voice s
  | .navTimeout => Sys2Proof.Machine.execNavTimeout s
  | .trafficTimeout slot => Sys2Proof.Machine.execTrafficTimeout slot s
  | .echoBlockEnd => Sys2Proof.Machine.execEchoBlockEnd s
  | .doubleTalkTimeout => Sys2Proof.Machine.execDoubleTalkTimeout s
  | .returnFrame f => Sys2Proof.Machine.execReturnFrame f s
  | .ringUp => Sys2Proof.Machine.execRingUp s
  | .ringDown => Sys2Proof.Machine.execRingDown s
  | .nodeLost pos => Sys2Proof.Machine.execNodeLost pos s
  | .discoveryPoll => Sys2Proof.Machine.execDiscoveryPoll s
  | .pollAnswer pos => Sys2Proof.Machine.execPollAnswer pos s
  | .abilityPage pos page => Sys2Proof.Machine.execAbilityPage pos page s
  | .pageTimerExpiry pos => Sys2Proof.Machine.execPageTimerExpiry pos s
  | .configPageAnswer pos acknowledged => Sys2Proof.Machine.execConfigPageAnswer pos acknowledged s
  | .configTimeout pos => Sys2Proof.Machine.execConfigTimeout pos s
  | .statusReport pos f => Sys2Proof.Machine.execStatusReport pos f s
  | .muteLineChange asserted => Sys2Proof.Machine.execMuteLineChange asserted s
  | .startUp mv lineAsserted => Sys2Proof.Machine.execStartUp mv lineAsserted s

end Sys2Proof.Machine
end

