-- ==== Sys2Proof/Safety.lean ====
section
/-! DEFINITION. What holds of the part in every state it can be in: the statements the spec makes about
whole records and blocks, in the terms the claims use. -/

namespace Sys2Proof.Machine

/-! ## Supply (09 R151, R152) -/

/-- The crank offset is the one the supply state gives, and an expect window stands only in DIP (09 R151,
R152). -/
def SupplyFits (v : Supply) : Prop :=
  (match v.state with
   | .normal => v.crank = 0
   | .recover => -36 ≤ v.crank ∧ v.crank < 0
   | .dip => v.crank = -36
   | .settle => v.crank = -36
   | .low => v.crank = -36) ∧
  (v.window = true → v.state = .dip)

/-! ## The mute line (08 R147) -/

/-- The line is in external mute exactly while it is seen asserted and no drive cause stands (08 R147). -/
def MuteFits (g : Ring) : Prop := g.externalMute = (g.lineSeen && !(g.drive.supply || g.drive.request || g.drive.liteReset))

/-! ## Calls (07 R121) -/

/-- At most one call record is ACTIVE, and the echo canceller is IDLE exactly when none is (07 R121). -/
def CallsFit (c : Cabin) : Prop :=
  ¬ (callState c 0 = some .active ∧ callState c 1 = some .active) ∧
  (c.calls.canceller.state = .idle ↔ callState c 0 ≠ some .active ∧ callState c 1 ≠ some .active)

/-! ## Hold (03 R45, R51) -/

/-- No build is in flight unless the Hold state is RUNNING (03 R45, R51). -/
def HoldFits (c : Cabin) : Prop := c.builder.hold ≠ .running → c.builder.job = none

/-! ## Programme channels (05 R89) -/

/-- The two programme channels never carry the same station (05 R89). -/
def ChannelsDiffer (c : Cabin) : Prop := ∀ h, (c.chan .pc0).station = some h → (c.chan .pc1).station ≠ some h

/-- A channel is served by a tuner exactly while it carries a station, the two by different tuners; a channel that has
a supporting tuner, by diversity or by a follow that borrows one, is the only one carried; each tuner has the role
that R92 gives; and the two never scan together (05 R92, R94, R97). -/
def RolesFit (c : Cabin) : Prop :=
  (∀ x, (c.chan x).serving.isSome = (c.chan x).station.isSome) ∧
  (∀ u, (c.chan .pc0).serving = some u → (c.chan .pc1).serving ≠ some u) ∧
  (∀ x, (c.chan x).diversity = true ∨ borrowing (c.chan x) = true → (c.chan x.other).station = none) ∧
  (∀ u, (c.tuner u).role = desiredRole c u) ∧ ((c.tuner .t0).role = .scan → (c.tuner .t1).role ≠ .scan)

/-! ## The station table (04 R61) -/

/-- No two live station records have the same band and frequency, and no two have the same accepted
identity (04 R61). -/
def StationsDiffer (c : Cabin) : Prop :=
  ∀ (i j : Fin 40) (a b : Station), i ≠ j → (c.stationSlot i).record = some a → (c.stationSlot j).record = some b →
    a.freq ≠ b.freq ∧ (∀ code, a.identity = some code → b.identity ≠ some code)

/-! ## The route directory (01 R12) -/

/-- No list holds two present routes that name the same source (01 R12). -/
def RoutesDiffer (c : Cabin) : Prop :=
  ∀ (l : Fin 8) (j k : Fin 6) (a b : RouteRecord), j ≠ k → (c.route l j).record = some a → (c.route l k).record = some b →
    a.present = true → b.present = true → a.source ≠ b.source

/-! ## The announcement queue (06 R104, R115) -/

/-- The queue never holds two CHIME entries of one pattern, nor two NAV entries (06 R104, R115). -/
def EntriesDiffer (c : Cabin) : Prop :=
  ∀ (i j : Fin 8) (a b : Entry), i ≠ j → (c.entrySlot i).entry = some a → (c.entrySlot j).entry = some b →
    (∀ n, a.kind = .chime n → b.kind ≠ .chime n) ∧ (a.kind = .nav → b.kind ≠ .nav)

/-- A record's alternates hold at most 6 frequencies, no duplicate and not the record's own frequency, and stand in
the order of 04 R62: measured entries by quality, highest first, then unmeasured ones. -/
def AlternatesFit (c : Cabin) : Prop :=
  ∀ (i : Fin 40) (r : Station), (c.stationSlot i).record = some r →
    r.alternates.length ≤ 6 ∧ (r.alternates.map (·.chan)).Nodup ∧ r.freq.chan ∉ r.alternates.map (·.chan) ∧
    r.alternates.Pairwise fun a b => altBefore b a = false

/-- The reference count of every live station record is the number of routes, present or parked, that name it,
and the station handle in every occupied route slot is live (01 R13). -/
def RefsMatch (c : Cabin) : Prop :=
  (∀ (i : Fin 40) (r : Station), (c.stationSlot i).record = some r →
    r.refs = routeKeys.countP fun x => decide ((c.route x.1 x.2).record.map (·.source) = some (.station (c.stationId i)))) ∧
  (∀ (l : Fin 8) (k : Fin 6) (r : RouteRecord) (h : StationId), (c.route l k).record = some r →
    r.source = .station h → (c.station h).isSome = true)

/-- Every route's state is the one its record and the blocks it depends on give (01 R7). -/
def StatesDerived (c : Cabin) : Prop :=
  ∀ (l : Fin 8) (k : Fin 6) (r : RouteRecord), (c.route l k).record = some r → r.state = routeState c l r

/-! ## The mix engine (02 R25, 03 R48) -/

/-- A zone holds at most 16 route contributions, departing or not, at most six of them not departing; and at most
ten overlays, at most two of them not departing (02 R25, 03 R48). -/
def MixFits (c : Cabin) : Prop :=
  (∀ z, (c.mixZone z).routes.length ≤ 6 ∧ (c.mixZone z).routes.length + (c.mixZone z).leaving.length ≤ 16 ∧
    (c.mixZone z).overlays.length ≤ 2 ∧
    (c.mixZone z).overlays.length + (c.mixZone z).leavingOverlays.length ≤ 10) ∧
  (∀ j ∈ c.builder.job, j.shares.length ≤ 6)

/-- The overlays of a zone that are not departing have distinct keys (02 R32). -/
def OverlaysDiffer (c : Cabin) : Prop := ∀ z, ((c.mixZone z).overlays.map (·.key)).Nodup

/-! ## Who is heard (02 R32, 06 R106, R110, 07 R131) -/

/-- In each zone the audible entry is the highest ranked of the eligible ones, and there is none where none is
eligible; the listened call is the ACTIVE call heard there; and the overlays not departing are theirs (06 R106, 07
R131, 02 R32). -/
def AudibleFits (c : Cabin) : Prop :=
  ∀ z, (c.mixZone z).listened = listenedCall c z ∧
    ((c.mixZone z).audible = none → ∀ i e, (c.entrySlot i).entry = some e → eligible c z e = false) ∧
    (∀ a, (c.mixZone z).audible = some a → (c.entrySlot a.entry.slot).gen = a.entry.gen ∧
      ∃ e, (c.entrySlot a.entry.slot).entry = some e ∧ a.kind = audibleKind e.kind ∧ eligible c z e = true ∧
        ∀ j f, (c.entrySlot j).entry = some f → eligible c z f = true → outranks f e = false) ∧
    (c.mixZone z).overlays.map (·.key) ⊆ wantedOverlays (c.zone z).present (c.mixZone z) ∧
    wantedOverlays (c.zone z).present (c.mixZone z) ⊆ (c.mixZone z).overlays.map (·.key)

/-- Each voice holds a candidate, no entry holds two, and a candidate without a voice finds both voices held by
entries of its own priority or above (06 R110). -/
def VoicesFit (c : Cabin) : Prop :=
  (∀ v x, c.queue.voices.get v = some x → voiceCandidate c x.slot = true) ∧
  (∀ x, c.queue.voices.get 0 = some x → ∀ y, c.queue.voices.get 1 = some y → x.slot ≠ y.slot) ∧
  (∀ i e, (c.entrySlot i).entry = some e → voiceCandidate c i = true → voiceOf c i = none →
    ∀ v, ∃ x, c.queue.voices.get v = some x ∧ ∃ f, (c.entrySlot x.slot).entry = some f ∧ e.priority ≤ f.priority)

/-- The priority of every entry is the one its kind fixes, a CHIME entry's that of its pattern (06 R105). -/
def PrioritiesFit (c : Cabin) : Prop :=
  ∀ (i : Fin 8) (e : Entry), (c.entrySlot i).entry = some e → e.priority =
    match e.kind with
    | .chime n => (c.queue.patterns.get n).priority
    | .nav => 4
    | .traffic _ _ => 3
    | .ring _ => 6
    | .waiting _ => 6

/-- The traffic conditions have been tested: a carried station that satisfies its condition has an entry, and the
targets of every TRAFFIC entry are the traffic targets of its station (06 R116). It fails where a full queue has
refused a bulletin. -/
def TrafficSettled (c : Cabin) : Prop :=
  (∀ x h, (c.chan x).station = some h → trafficCondition c h = true → (trafficEntry c h).isSome = true) ∧
  (∀ i e, (c.entrySlot i).entry = some e → ∀ h x, e.kind = .traffic h x → e.targets = trafficTargets c h)

/-- What a test of the traffic conditions leaves (06 R116): a carried station that satisfies its condition has an entry,
or the queue is full of entries that no bulletin can displace; and the targets of its entry are its traffic targets. -/
def TrafficTested (c : Cabin) : Prop :=
  ∀ x h, (c.chan x).station = some h →
    (trafficCondition c h = true → (trafficEntry c h).isSome = true ∨
      ∀ i, ∃ e, (c.entrySlot i).entry = some e ∧ 3 ≤ e.priority) ∧
    ∀ i, trafficEntry c h = some i → ∀ e, (c.entrySlot i).entry = some e → e.targets = trafficTargets c h

/-- The commands by which the entry `e` of a slot ends, with the reason of each (06 R109, R111, R114, R115, R117). -/
def EndsEntry (s : State) (cmd : Instr) (i : Fin 8) (e : Entry) (reason : EndReason) : Prop :=
  (cmd = .navTimeout ∧ navEntry s.cab = some i ∧ reason = .timedOut) ∨
  (cmd = .trafficTimeout i ∧ e.kind.isTraffic = true ∧ reason = .timedOut) ∨
  (e.kind.isChime = true ∧ reason = .completed ∧ ∃ v, cmd = .chimeCompleted v ∧
    ∃ x, s.cab.queue.voices.get v = some x ∧ x.slot = i ∧ x.cadence = .finished) ∨
  (s.cab.ports.part = .running ∧ cmd = .endNav .front ∧ navEntry s.cab = some i ∧ reason = .requested) ∨
  (s.cab.ports.part = .running ∧
    cmd = .cancelAnnouncement .front { slot := i.val, gen := (s.cab.entrySlot i).gen.val } ∧
    e.kind.ofCall = false ∧ reason = .requested)

/-! ## Requests (10 section 10.3) -/

/-- The port of a request: of the 51 requests and of a frame that names none (10 R160). -/
def requestPort : Instr → Option Port
  | .unknownRequest p _ _ => some p
  | .placeRoute p _ => some p | .alterRoute p _ _ => some p | .park p _ => some p | .unpark p _ => some p
  | .retireRoute p _ => some p | .readRoute p _ => some p | .clearMarks p _ => some p | .setZone p _ _ => some p
  | .readZone p _ => some p | .linkList p _ _ => some p | .grantRearControl p _ => some p
  | .clearZoneRoutes p _ => some p | .mediaState p _ _ _ _ => some p | .enterHold p => some p
  | .releaseHold p => some p | .readStation p _ => some p | .walkStations p _ _ => some p
  | .addStation p _ _ => some p | .keep p _ => some p | .unkeep p _ => some p | .retireStation p _ => some p
  | .setTrafficWatch p _ _ => some p | .readReception p => some p | .startChime p _ _ => some p
  | .cancelAnnouncement p _ => some p | .startNav p _ => some p | .keepNav p => some p | .endNav p => some p
  | .setPattern p _ _ => some p | .readPattern p _ => some p | .readAnnouncements p => some p
  | .openCall p _ => some p | .answer p _ => some p | .holdCall p _ => some p | .resume p _ => some p
  | .endCall p _ => some p | .setListeners p _ _ => some p | .setCall p _ _ => some p | .setUplinkGain p _ => some p
  | .joinCall p _ _ => some p | .leaveCall p _ _ => some p | .readCall p _ => some p | .readRing p => some p
  | .readNode p _ => some p | .restartNode p _ => some p | .systemMute p _ => some p | .expectDip p => some p
  | .readEvents p => some p | .relaySend p _ => some p | .relayTake p => some p | .liteReset p => some p
  | _ => none

/-- A result that performs nothing (10 R160). -/
def Result.refuses : Result → Bool
  | .done => false | .accepted => false | .clamped => false | _ => true

/-! ## What a command leaves as it was -/

/-- The part is RUNNING (10 R159). -/
def State.Running (s : State) : Prop := s.cab.ports.part = .running

/-- The response last put on a port (10 R158). -/
def State.answer (s : State) (p : Port) : Option Response := s.cab.ports.response.get p

/-- The kind is present in the port's event set (10 R162). -/
def State.shows (s : State) (p : Port) (k : EventKind) : Prop := EventSet.has (s.cab.ports.events.get p) k = true

/-- No station record holds a deferred identity, so that no change of assignment brings a merge about (04 R78). -/
def NoDeferrals (c : Cabin) : Prop :=
  ∀ (i : Fin 40) (r : Station), (c.stationSlot i).record = some r → r.deferred = none

/-- A present route in a list linked to a present zone, or the traffic watch, demands the station at this priority
(05 R88). -/
def DemandsAt (c : Cabin) (h : StationId) (p : Nat) : Prop :=
  (∃ (z : Zone) (l : Fin 8) (k : Fin 6) (r : RouteRecord), (c.zone z).present = true ∧ (c.zone z).list = some l ∧
    (c.route l k).record = some r ∧ r.present = true ∧ r.source = .station h ∧ r.priority = p) ∨
  ∃ w, c.table.watch = some w ∧ w.station = h ∧ w.priority = p

/-- The programme channels carry the winners of the arbitration, so that another arbitration changes nothing. -/
def Settled (c : Cabin) : Prop := newAssignment c = ((c.chan .pc0).station, (c.chan .pc1).station)

/-- After a change of the records the channels carry the winners that the new records and the channels as they stood
give, unless the part is HOLD-PENDING or HOLDING, when they carry what they did (05 R89, R91). -/
def CarriesTheWinners (s t : State) : Prop :=
  ((t.cab.chan .pc0).station, (t.cab.chan .pc1).station) =
    if s.cab.builder.hold = .running
    then newAssignment { t.cab with alloc := { t.cab.alloc with chans := s.cab.alloc.chans } }
    else ((s.cab.chan .pc0).station, (s.cab.chan .pc1).station)

/-- A command that tests the traffic conditions (06 R116): a bulletin that it raises has the channel that carries its
station, priority 3 and 300 s, and TRAFFIC has been posted to both ports. -/
def RaisesBulletins (s t : State) : Prop :=
  TrafficTested t.cab ∧
  ∀ i e, (t.cab.entrySlot i).entry = some e → ∀ h x, e.kind = .traffic h x → trafficEntry s.cab h = none →
    (t.cab.chan x).station = some h ∧ e.priority = 3 ∧ e.timeLeft = 300000 ∧
    (s.cab.ports.part.posts = true → t.shows .front .traffic ∧ t.shows .rear .traffic)

/-- The ring, the supply monitor, the waiting commands and the model's counter are as they were. -/
def KeptOutside (s t : State) : Prop :=
  t.ring = s.ring ∧ t.supply = s.supply ∧ t.free = s.free ∧ t.pending = s.pending

/-- The ports are as they were, but for event sets and the response of port `p`. -/
def KeptPorts (p : Port) (s t : State) : Prop :=
  t.cab.ports.part = s.cab.ports.part ∧ t.cab.ports.relay = s.cab.ports.relay ∧
  t.cab.ports.liteNumber = s.cab.ports.liteNumber ∧ t.cab.ports.status = s.cab.ports.status ∧
  t.answer p.other = s.answer p.other

/-- No event of any port has gone. -/
def KeptEvents (s t : State) : Prop := ∀ p k, s.shows p k → t.shows p k

/-- The calls, the canceller and the uplink are as they were, but for tones that the queue displaced (07 R127). -/
def KeptCalls (s t : State) : Prop :=
  t.cab.calls.canceller = s.cab.calls.canceller ∧ t.cab.calls.uplinkGain = s.cab.calls.uplinkGain ∧
  t.cab.calls.uplinkLevel = s.cab.calls.uplinkLevel ∧ t.cab.calls.phoneUl = s.cab.calls.phoneUl ∧
  ∀ i, (t.cab.callSlot i).gen = (s.cab.callSlot i).gen ∧
    (t.cab.callSlot i).record.map (fun r => { r with tone := none, ringUnplayed := false }) =
    (s.cab.callSlot i).record.map (fun r => { r with tone := none, ringUnplayed := false })

/-- What a plan says of a contribution, whatever its level is doing (03 R42). -/
def RouteShare.planOf (x : RouteShare) : RouteId × PlanSource × DuckClass × Level := (x.route, x.source, x.duck, x.planned)

/-- No plan is rebuilt: the recorded values and what the plan says of each contribution are as they were (03 R53). -/
def KeptPlans (s t : State) : Prop :=
  ∀ z, (t.cab.mixZone z).recorded = (s.cab.mixZone z).recorded ∧
    (t.cab.mixZone z).routes.map RouteShare.planOf = (s.cab.mixZone z).routes.map RouteShare.planOf

/-- No level moves between two ramp ticks: every route contribution, in the plan or departing, keeps its level. -/
def KeptLevels (s t : State) : Prop :=
  ∀ z, (t.cab.mixZone z).routes.map (·.current) = (s.cab.mixZone z).routes.map (·.current) ∧
    (t.cab.mixZone z).leaving.map (·.current) = (s.cab.mixZone z).leaving.map (·.current)

/-- A build in flight keeps what it read, but for the orphaned marks (03 R43, R46). -/
def KeptBuild (s t : State) : Prop :=
  ∀ j, s.cab.builder.job = some j → ∃ b, t.cab.builder.job = some b ∧ b.zone = j.zone ∧ b.values = j.values ∧
    b.shares.map (fun n => { n with orphaned := false }) = j.shares.map fun n => { n with orphaned := false }

/-- The contributions planned from these routes, in the plan, departing or in the build in flight, are orphaned now, and
the others as they were (03 R46, R53). -/
def Orphans (gone : List RouteId) (s t : State) : Prop :=
  (∀ z, (t.cab.mixZone z).routes.map (·.orphaned) =
      (s.cab.mixZone z).routes.map (fun x => x.orphaned || decide (x.route ∈ gone)) ∧
    (t.cab.mixZone z).leaving.map (·.orphaned) =
      (s.cab.mixZone z).leaving.map fun x => x.orphaned || decide (x.route ∈ gone)) ∧
  ∀ j, s.cab.builder.job = some j → ∃ b, t.cab.builder.job = some b ∧
    b.shares.map (·.orphaned) = j.shares.map fun n => n.orphaned || decide (n.route ∈ gone)

/-- A route slot is as it was, but for the derived state of its record (01 R7). -/
def SameRoute (a b : RouteSlot) : Prop :=
  a.gen = b.gen ∧ a.record.map (fun r => { r with state := .parked }) = b.record.map (fun r => { r with state := .parked })

/-- Everything that a request on the directory or the station table leaves alone, whatever the arbitration and
the announcement queue then do: all but the event sets, the directory, the station records, the tuners and
channels, the queue's entries, the duck states and the builder's flags. -/
def KeptAround (p : Port) (s t : State) : Prop :=
  KeptOutside s t ∧ KeptPorts p s t ∧ KeptEvents s t ∧ KeptCalls s t ∧ KeptPlans s t ∧ KeptLevels s t ∧
  KeptBuild s t ∧ t.cab.mix.channels = s.cab.mix.channels ∧ t.cab.builder.hold = s.cab.builder.hold ∧
  t.cab.table.position = s.cab.table.position ∧ t.cab.table.tableFull = s.cab.table.tableFull ∧
  t.cab.alloc.stopped = s.cab.alloc.stopped ∧ t.cab.queue.patterns = s.cab.queue.patterns ∧
  t.cab.queue.ignored = s.cab.queue.ignored

/-- Everything that a request on the announcement queue leaves alone: the directory, the station table, the tuners and
channels, the plans and their levels, the calls but for displaced tones, the ring and the supply monitor. -/
def KeptAroundQueue (p : Port) (s t : State) : Prop :=
  KeptOutside s t ∧ KeptPorts p s t ∧ KeptEvents s t ∧ KeptCalls s t ∧ t.cab.dir = s.cab.dir ∧
  t.cab.table = s.cab.table ∧ t.cab.alloc = s.cab.alloc ∧ t.cab.builder = s.cab.builder ∧
  t.cab.mix.channels = s.cab.mix.channels ∧
  ∀ z, (t.cab.mixZone z).recorded = (s.cab.mixZone z).recorded ∧ (t.cab.mixZone z).routes = (s.cab.mixZone z).routes ∧
    (t.cab.mixZone z).leaving = (s.cab.mixZone z).leaving

/-- The fields of a call record but for its state and what the queue makes of its tone (07 R121). -/
def CallRecord.settings (r : CallRecord) : CallRecord :=
  { r with state := .ringing, tone := none, ringUnplayed := false }

/-- Everything that a request on the calls leaves alone: the directory, the station table, the tuners and channels, the
plans and their levels, the uplink's settings, the patterns, the ring and the supply monitor. -/
def KeptAroundCalls (p : Port) (s t : State) : Prop :=
  KeptOutside s t ∧ KeptPorts p s t ∧ KeptEvents s t ∧ t.cab.dir = s.cab.dir ∧
  t.cab.table = s.cab.table ∧ t.cab.alloc = s.cab.alloc ∧ t.cab.builder = s.cab.builder ∧
  t.cab.mix.channels = s.cab.mix.channels ∧ t.cab.queue.patterns = s.cab.queue.patterns ∧
  t.cab.queue.ignored = s.cab.queue.ignored ∧ t.cab.calls.uplinkGain = s.cab.calls.uplinkGain ∧
  t.cab.calls.uplinkLevel = s.cab.calls.uplinkLevel ∧ t.cab.calls.phoneUl = s.cab.calls.phoneUl ∧
  ∀ z, (t.cab.mixZone z).recorded = (s.cab.mixZone z).recorded ∧ (t.cab.mixZone z).routes = (s.cab.mixZone z).routes ∧
    (t.cab.mixZone z).leaving = (s.cab.mixZone z).leaving

/-- The cabin blocks but the ports are as they were. -/
def KeptCabin (s t : State) : Prop :=
  t.cab.dir = s.cab.dir ∧ t.cab.mix = s.cab.mix ∧ t.cab.builder = s.cab.builder ∧ t.cab.table = s.cab.table ∧
  t.cab.alloc = s.cab.alloc ∧ t.cab.queue = s.cab.queue ∧ t.cab.calls = s.cab.calls

/-- Nothing but the ring and the cabin blocks has changed. -/
def KeptBeyondRing (s t : State) : Prop := t.supply = s.supply ∧ t.free = s.free ∧ t.pending = s.pending

/-- Of the cabin blocks only the event sets have changed, and no event has gone. -/
def OnlyEvents (s t : State) : Prop :=
  t.cab = { s.cab with ports := { s.cab.ports with events := t.cab.ports.events } } ∧ KeptEvents s t

/-- Of the cabin blocks only the event sets and the canceller have changed, and no event has gone. -/
def EventsAndCanceller (s t : State) : Prop :=
  t.cab = { s.cab with
    ports := { s.cab.ports with events := t.cab.ports.events },
    calls := { s.cab.calls with canceller := t.cab.calls.canceller } } ∧ KeptEvents s t

/-- Only the node record of a position has changed, and RING has been posted to the front port where its state has
(08 R139). -/
def ChangesNode (i : Fin 6) (s t : State) : Prop :=
  (∀ j, j ≠ i → t.node j = s.node j) ∧ t.ring = { s.ring with nodes := t.ring.nodes } ∧ OnlyEvents s t ∧
  KeptBeyondRing s t ∧
  ((t.node i).state ≠ (s.node i).state → s.cab.ports.part.posts = true → t.shows .front .ring)

/-- A node becomes CONFIGURING (08 R143): the page for each of its channels names the first zone channel, in their
order, that is mapped to it, if headphone channels and headphone amplifiers agree, or is unused; the zone channels
named are PENDING and the others mapped to the position UNPLACED. -/
def BeginsConfiguring (i : Fin 6) (s t : State) : Prop :=
  (t.node i).state = .configuring ∧ (t.node i).config.length = ((t.node i).channels).getD 0 ∧
  (∀ k : Fin 8, ∀ e, (t.node i).config[k.val]? = some e → ∀ z : ZoneChan, (e = some z ↔
    (s.ring.placement.get z).entry = some (i.val, k.val) ∧
    (∀ y : ZoneChan, y < z → (s.ring.placement.get y).entry ≠ some (i.val, k.val)) ∧
    (10 ≤ z.val ↔ (t.node i).kind = some .headphoneAmp))) ∧
  (∀ z : ZoneChan, t.ring.placement.get z = if placedOn (s.ring.placement.get z) i = true
    then { s.ring.placement.get z with
      status := if (t.node i).config.contains (some z) then .pending else .unplaced }
    else s.ring.placement.get z) ∧
  (∀ j, j ≠ i → t.node j = s.node j) ∧
  t.ring = { s.ring with nodes := t.ring.nodes, placement := t.ring.placement } ∧ OnlyEvents s t ∧ KeptBeyondRing s t ∧
  (s.cab.ports.part.posts = true → t.shows .front .ring)

/-- Only station records have changed, and what the queue made of them: no response, directory, channel, tuner but
for its acceptance state, or anything of `KeptAround`. -/
def KeptButStations (s t : State) : Prop :=
  KeptAround .front s t ∧ t.answer .front = s.answer .front ∧ t.cab.dir.zones = s.cab.dir.zones ∧
  t.cab.dir.rearControl = s.cab.dir.rearControl ∧ t.cab.dir.media = s.cab.dir.media ∧
  (∀ l k, SameRoute (t.cab.route l k) (s.cab.route l k)) ∧ t.cab.table.watch = s.cab.table.watch ∧
  t.cab.table.cursor = s.cab.table.cursor ∧ t.cab.table.dwell = s.cab.table.dwell ∧
  (∀ x, t.cab.chan x = s.cab.chan x) ∧
  ∀ u, { t.cab.tuner u with acc := (s.cab.tuner u).acc } = s.cab.tuner u

/-- A contribution as the plan of a zone with entry `e` takes it from a route: the stream named, or the channel that
carries the station named; and the lower of volume plus gain and the ceiling, silent below -192 (03 R42, 02 R28). -/
def PlansRoute (c : Cabin) (e : ZoneEntry) (r : RouteRecord) (n : BuiltShare) : Prop :=
  n.orphaned = false ∧ r.present = true ∧ (r.state = .tuning ∨ r.state = .playing) ∧ n.duck = r.duck ∧
  (∀ m, r.source = .media m → n.source = .media m) ∧
  (∀ h, r.source = .station h → ∃ x, n.source = .chan x ∧ (c.chan x).station = some h) ∧
  n.planned = if e.volume + r.gain < -192 then .silent else .steps (min (e.volume + r.gain) e.ceiling)

/-- What a build that starts now reads: the zone's four values, and, in slot order, one contribution for each present
route of the linked list that is TUNING or PLAYING, and none while the zone is not present (03 R42, R43, R50). -/
def ReadsAtStart (c : Cabin) (j : BuildJob) : Prop :=
  let e := c.zone j.zone
  j.values = { ceiling := e.ceiling, userMute := e.userMute, duckDepth := e.duckDepth,
               callDuckDepth := e.callDuckDepth } ∧
  j.shares.Pairwise (fun a b => a.route.slot < b.route.slot) ∧
  (∀ n ∈ j.shares, e.present = true ∧ ∃ l k, e.list = some l ∧ n.route = ⟨l, k, (c.route l k).gen⟩ ∧
    ∃ r, (c.route l k).record = some r ∧ PlansRoute c e r n) ∧
  (e.present = true → ∀ l, e.list = some l → ∀ k r, (c.route l k).record = some r → r.present = true →
    (r.state = .tuning ∨ r.state = .playing) → (∀ h, r.source = .station h → ∃ x, (c.chan x).station = some h) →
    ∃ n ∈ j.shares, n.route = ⟨l, k, (c.route l k).gen⟩)

/-- The zone is stale, or its build has started with what it reads now (03 R43 to R45). -/
def Rebuilds (t : State) (z : Zone) : Prop :=
  t.cab.builder.stale.get z = true ∨ ∃ j, t.cab.builder.job = some j ∧ j.zone = z ∧ ReadsAtStart t.cab j

/-- A record with its received and new marks cleared (04 R68). -/
def unmarked (q : Station) : Station := { q with received := false, isNew := false }

/-- A station slot whose record, if any, has `n` references more and `m` fewer (01 R13). -/
def StationSlot.moved (n m : Nat) (v : StationSlot) : StationSlot :=
  { v with record := v.record.map fun r => { r with refs := r.refs + n - m } }

/-- How many of these routes name the station in a slot. -/
def namers (c : Cabin) (i : Fin 40) (l : List (Fin 8 × Fin 6)) : Nat :=
  l.countP fun x => decide ((c.route x.1 x.2).record.map (·.source) = some (.station (c.stationId i)))

/-- A find in the table of `c` (04 R64, R69): the record `r` takes the lowest-numbered free slot, its generation as it
is. In a full table it takes, where it is stronger, the slot of the weakest record that is CANDIDATE and not held, the
lowest-numbered of those, its generation advanced; in every other case the find is dropped and table-full is set. -/
def Creates (c : Cabin) (r : Station) (after : Fin 40 → StationSlot) (full : Bool) : Prop :=
  let weak (i : Fin 40) (b : Station) := (c.stationSlot i).record = some b ∧ b.state = .candidate ∧ held c i = false
  (∀ i, (c.stationSlot i).record = none → (∀ j, j < i → (c.stationSlot j).record ≠ none) →
    after i = ⟨(c.stationSlot i).gen, some r⟩ ∧ (∀ j, j ≠ i → after j = c.stationSlot j) ∧ full = c.table.tableFull) ∧
  ((∀ i, (c.stationSlot i).record ≠ none) →
    (∀ i b, weak i b → b.quality < r.quality →
      (∀ j q, weak j q → b.quality < q.quality ∨ (b.quality = q.quality ∧ i ≤ j)) →
      after i = ⟨(c.stationSlot i).gen + 1, some r⟩ ∧ (∀ j, j ≠ i → after j = c.stationSlot j) ∧
      full = c.table.tableFull) ∧
    ((∀ i b, weak i b → r.quality ≤ b.quality) → (∀ j, after j = c.stationSlot j) ∧ full = true))

/-- What a scanned channel of raw quality `raw` makes of the table, row by row of 04 R64's table, but for a dwell that
may follow. -/
def Scans (c : Cabin) (raw : Nat) (after : Fin 40 → StationSlot) (full : Bool) : Prop :=
  (∀ i, stationAtFreq c c.table.position = some i → ∀ r, (c.stationSlot i).record = some r →
    after i = ⟨(c.stationSlot i).gen, some { r with
      quality := if carried c (c.stationId i) then r.quality else raw,
      received := r.received || decide (30 ≤ raw) }⟩ ∧
    (∀ j, j ≠ i → after j = c.stationSlot j) ∧ full = c.table.tableFull) ∧
  (stationAtFreq c c.table.position = none → raw < 30 ∨ c.table.position.band = .fm →
    (∀ j, after j = c.stationSlot j) ∧ full = c.table.tableFull) ∧
  (stationAtFreq c c.table.position = none → 30 ≤ raw → c.table.position.band = .mw →
    Creates c (newStation c.table.position raw .candidate .scan none) after full)

/-- The end of a completed pass, which finds the slots as `mid` has them, row by row of 04 R68's table. -/
def Ages (c : Cabin) (mid after : Fin 40 → StationSlot) : Prop :=
  ∀ i, ((mid i).record = none → after i = mid i) ∧ ∀ r, (mid i).record = some r →
    (r.isNew = true → after i = ⟨(mid i).gen, some (unmarked r)⟩) ∧
    (r.isNew = false → r.received = true →
      after i = ⟨(mid i).gen, some (unmarked { r with miss := 0, state := .listed })⟩) ∧
    (r.isNew = false → r.received = false → r.miss + 1 ≤ 2 →
      after i = ⟨(mid i).gen, some (unmarked { r with miss := r.miss + 1 })⟩) ∧
    (r.isNew = false → r.received = false → 3 ≤ r.miss + 1 →
      after i = if held c i then ⟨(mid i).gen, some (unmarked { r with miss := 3, state := .lost })⟩
        else ⟨(mid i).gen + 1, none⟩)

/-- The frequency `w` wins a follow of the station against channel quality `q` (05 R98): measured at 40 or above and at
least 10 above `q`, still eligible, no eligible frequency measured higher, and none as high earlier in the list. -/
def Wins (c : Cabin) (h : StationId) (q : Nat) (measured : List (Nat × Nat)) (w : Nat × Nat) : Prop :=
  40 ≤ w.2 ∧ q + 10 ≤ w.2 ∧ probeable c h w.1 = true ∧ ∃ k : Nat, measured[k]? = some w ∧
    ∀ (j : Nat) (m : Nat × Nat), measured[j]? = some m → probeable c h m.1 = true → m.2 < w.2 ∨ (m.2 = w.2 ∧ k ≤ j)

/-! ## A safe state -/

/-- A state in which every one of these holds. -/
def State.Safe (s : State) : Prop :=
  SupplyFits s.supply ∧ MuteFits s.ring ∧ CallsFit s.cab ∧ HoldFits s.cab ∧ ChannelsDiffer s.cab ∧ RolesFit s.cab ∧
  StationsDiffer s.cab ∧ AlternatesFit s.cab ∧ RoutesDiffer s.cab ∧ RefsMatch s.cab ∧ StatesDerived s.cab ∧
  MixFits s.cab ∧ OverlaysDiffer s.cab ∧ EntriesDiffer s.cab ∧ PrioritiesFit s.cab ∧ AudibleFits s.cab ∧ VoicesFit s.cab

end Sys2Proof.Machine
end

