-- ==== Sys2Proof/Certificates/Slice0/Obligations.lean ====
section
/-! DEFINITION. The statements for the provers, chapter by chapter of the spec. -/

open Sys2Proof Sys2Proof.Machine

/-! ## Steps and reset -/

/-- A step takes the command at the front of the queue and runs it on the part with the rest of the queue; on an empty
queue the block idles (the model's choice, log 1). -/
def Obligations.StepRunsTheFrontCommand : Prop :=
  (∀ (c : Instr) (rest : List Instr) (s : State),
    step { s with pending := c :: rest } = exec c { s with pending := rest }) ∧
  (∀ s : State, s.pending = [] → step s = .next s)

/-- No rule of the spec lets a command stop the part: every command answers a next state, and leaves the waiting
commands as they are. The queue of waiting commands is the model's own, and that power-on reset leaves it too is its
choice (log 1, DESIGN CHOICE). -/
def Obligations.EveryCommandAnswersANextState : Prop :=
  ∀ (i : Instr) (s : State), ∃ t, exec i s = .next t ∧ t.pending = s.pending

/-- What power-on reset leaves, and that every invariant below holds then (01 R6, R22, 03 R56, 04 R85, 05 R103, 06 R104,
07 R137, 08 R138, 10 R162 to R165). That the number of a cleared path estimate is 0 is the model's choice (log 7). -/
def Obligations.ResetLeavesASafeState : Prop :=
  let s := State.reset
  s.Safe ∧
  (∀ l k, s.cab.route l k = ⟨0, none⟩) ∧ (∀ n, s.cab.dir.media.get n = false) ∧ s.cab.dir.rearControl = false ∧
  (∀ z, (s.cab.zone z).list = (if z = .z0 ∨ z = .z1 then some 0 else none) ∧
    (s.cab.mixZone z).recorded = none ∧ (s.cab.mixZone z).routes = [] ∧ (s.cab.mixZone z).leaving = [] ∧
    (s.cab.mixZone z).overlays = [] ∧ (s.cab.mixZone z).leavingOverlays = [] ∧ (s.cab.mixZone z).audible = none ∧
    (s.cab.mixZone z).listened = none ∧ s.cab.builder.stale.get z = false) ∧
  s.cab.builder.hold = .running ∧ s.cab.builder.position = .z4 ∧ s.cab.builder.job = none ∧
  (∀ i, s.cab.stationSlot i = ⟨0, none⟩) ∧ s.cab.table.watch = none ∧ s.cab.table.position = ⟨.fm, 0⟩ ∧
  s.cab.table.tableFull = false ∧
  (∀ x, (s.cab.chan x).station = none ∧ (s.cab.chan x).follow = none ∧ (s.cab.chan x).followCount = 0 ∧
    (s.cab.chan x).diversity = false) ∧
  (∀ u, (s.cab.tuner u).role = .idle ∧ (s.cab.tuner u).tuned = none ∧ (s.cab.tuner u).smoothed = none) ∧
  (∀ i, s.cab.entrySlot i = ⟨0, none⟩) ∧ s.cab.queue.ends = [] ∧ s.cab.queue.endNumber = 0 ∧ s.cab.queue.ignored = [] ∧
  (∀ i, s.cab.callSlot i = ⟨0, none⟩) ∧ s.cab.calls.canceller.state = .idle ∧ s.cab.calls.canceller.path = 0 ∧
  s.cab.calls.uplinkGain = 0 ∧ s.cab.calls.phoneUl = 0 ∧ s.ring.state = .down ∧ (∀ n, (s.ring.nodes.get n).state = .absent) ∧
  s.ring.drive = ⟨false, false, false⟩ ∧ s.ring.externalMute = false ∧ s.supply.afterLow = false ∧
  (∀ p, s.cab.ports.events.get p = emptyEvents ∧ s.cab.ports.relay.get p = none) ∧ s.cab.ports.liteNumber = 0

/-! ## Control ports (10) -/

/-- 10 R161: while the part is STARTING or carrying out a lite reset every request is answered BUSY with an empty body
and changes nothing, and the status word shows the part state; held in reset, no request is taken and the word is 0. -/
def Obligations.BusyWhileStartingOrLiteReset : Prop :=
  (∀ (i : Instr) (p : Port) (s : State), requestPort i = some p →
    (s.cab.ports.part = .starting ∨ s.cab.ports.part = .liteReset →
      exec i s = .next (s.onCab (respond p .busy []))) ∧
    (s.cab.ports.part = .held → exec i s = .next s)) ∧
  (∀ (p : Port) (s : State), ∃ t, exec (.portSelect p) s = .next t ∧
    (s.cab.ports.part = .starting → (t.cab.ports.status.get p).toNat % 4 = 0) ∧
    (s.cab.ports.part = .liteReset → (t.cab.ports.status.get p).toNat % 4 = 2) ∧
    (s.cab.ports.part = .held → t.cab.ports.status.get p = 0))

/-- 10 R158, R160: in RUNNING every request is answered and none is answered BUSY; a request that is refused changes
nothing, posts no event and carries an empty response body; an abandoned transaction changes nothing, and a frame that
names no request is MALFORMED. -/
def Obligations.RefusedRequestsChangeNothing : Prop :=
  (∀ (i : Instr) (p : Port) (s : State), s.Running → requestPort i = some p →
    ∃ t r, exec i s = .next t ∧ t.answer p = some r ∧ r.result ≠ .busy ∧
      (r.result.refuses = true → t = s.onCab (respond p r.result []))) ∧
  (∀ (p : Port) (number length : Nat) (s : State),
    exec (.transactionAbandoned p) s = .next s ∧
    (s.Running → exec (.unknownRequest p number length) s = .next (s.onCab (respond p .malformed []))))

/-- 10 R159: the status word captured at select, and that no other command changes it while the part is out of reset. -/
def Obligations.StatusWordIsCapturedAtSelect : Prop :=
  (∀ (p : Port) (s : State), s.cab.ports.part ≠ .held →
    ∃ t, exec (.portSelect p) s = .next t ∧
      (∃ w, t.cab.ports.status.get p = w ∧
        w.toNat % 4 = (match s.cab.ports.part with | .held => 0 | .starting => 0 | .running => 1 | .liteReset => 2) ∧
        w.toNat / 4 % 4 = (match s.cab.builder.hold with | .running => 0 | .pending => 1 | .holding => 2) ∧
        w.toNat / 16 % 8 =
          (match s.supply.state with | .normal => 0 | .dip => 1 | .settle => 2 | .recover => 3 | .low => 4) ∧
        w.getLsbD 7 = s.ring.lineSeen ∧ (w.getLsbD 8 = true ↔ ∃ k, s.shows p k) ∧
        w.getLsbD 9 = (s.cab.ports.relay.get p.other).isSome ∧ w.getLsbD 10 = (s.cab.ports.relay.get p).isSome ∧
        w.getLsbD 11 = s.supply.imageAbsent ∧
        w.toNat / 4096 = (match s.ring.state with | .down => 0 | .locking => 1 | .up => 2)) ∧
      t.cab.ports.status.get p.other = s.cab.ports.status.get p.other ∧ t.cab.ports.events = s.cab.ports.events ∧
      t.cab.ports.relay = s.cab.ports.relay ∧ t.answer p.other = s.answer p.other ∧ t.cab.dir = s.cab.dir ∧
      t.cab.mix = s.cab.mix ∧ t.cab.builder = s.cab.builder ∧ t.cab.table = s.cab.table ∧ t.cab.alloc = s.cab.alloc ∧
      t.cab.queue = s.cab.queue ∧ t.cab.calls = s.cab.calls ∧ KeptOutside s t) ∧
  (∀ (i : Instr) (p : Port) (s t : State), exec i s = .next t → i ≠ .portSelect p → t.cab.ports.part ≠ .held →
    t.cab.ports.status.get p = s.cab.ports.status.get p)

/-- 10 R162 and R163: the event sets, the attention lines and Read Events. -/
def Obligations.EventSetsAttentionAndReadEvents : Prop :=
  (∀ (p q : Port) (k j : EventKind) (c : Cabin), c.ports.part.posts = true →
    (EventSet.has ((post p k c).ports.events.get q) j = true ↔
      EventSet.has (c.ports.events.get q) j = true ∨ (q = p ∧ j = k)) ∧ attention (post p k c) p = true) ∧
  (∀ (p : Port) (c : Cabin), attention c p = true ↔ ∃ k, EventSet.has (c.ports.events.get p) k = true) ∧
  (∀ (p : Port) (s : State), s.Running → ∃ t, exec (.readEvents p) s = .next t ∧ attention t.cab p = false) ∧
  (∀ p, attention State.reset.cab p = false) ∧
  (∀ (i : Instr) (s t : State), s.cab.ports.part = .starting → exec i s = .next t → t.cab.ports.part = .starting →
    t.cab.ports.events = s.cab.ports.events) ∧
  (∀ s : State, s.Running → ∃ t, exec (.liteReset .front) s = .next t ∧
    ∀ p k, t.shows p k → k = .mute ∧ s.ring.externalMute = true) ∧
  (∀ (p : Port) (s : State), s.Running →
    ∃ t w, exec (.readEvents p) s = .next t ∧ t.answer p = some ⟨.done, [w, s.cab.ports.liteNumber]⟩ ∧
      (∀ k, w.getLsbD k.idx.val = true ↔ s.shows p k) ∧ (∀ n, 13 ≤ n → w.getLsbD n = false) ∧
      (∀ k, ¬ t.shows p k) ∧ attention t.cab p = false ∧
      t.cab.ports.events.get p.other = s.cab.ports.events.get p.other ∧ t.cab.ports.part = s.cab.ports.part ∧
      t.cab.ports.relay = s.cab.ports.relay ∧ t.cab.ports.liteNumber = s.cab.ports.liteNumber ∧
      t.answer p.other = s.answer p.other ∧ t.cab.dir = s.cab.dir ∧
      t.cab.mix = s.cab.mix ∧ t.cab.builder = s.cab.builder ∧ t.cab.table = s.cab.table ∧ t.cab.alloc = s.cab.alloc ∧
      t.cab.queue = s.cab.queue ∧ t.cab.calls = s.cab.calls ∧ KeptOutside s t) ∧
  State.reset.cab.ports.liteNumber = 0 ∧
  (∀ (i : Instr) (s t : State), exec i s = .next t → t.cab.ports.part ≠ .held →
    t.cab.ports.liteNumber =
      if i = .liteResetEnd ∧ s.cab.ports.part = .liteReset then s.cab.ports.liteNumber + 1
      else s.cab.ports.liteNumber) ∧
  (∀ (p : Port) (k : EventKind) (s : State), s.Running →
    (∃ t w, exec (.readEvents p) (s.onCab (post p k)) = .next t ∧
      t.answer p = some ⟨.done, [w, s.cab.ports.liteNumber]⟩ ∧ w.getLsbD k.idx.val = true ∧ ∀ j, ¬ t.shows p j) ∧
    (∃ t w, exec (.readEvents p) s = .next t ∧ t.answer p = some ⟨.done, [w, s.cab.ports.liteNumber]⟩ ∧
      (¬ s.shows p k → w.getLsbD k.idx.val = false) ∧ (t.onCab (post p k)).shows p k ∧
      attention (t.onCab (post p k)).cab p = true))

/-- 10 R164 and R165: the console relay, and both orders of a Send and the Take that empties the slot. -/
def Obligations.TheConsoleRelay : Prop :=
  (∀ (p : Port) (w : Word) (s : State), s.Running →
    ((s.cab.ports.relay.get p).isSome = true → exec (.relaySend p w) s = .next (s.onCab (respond p .wrongState []))) ∧
    (s.cab.ports.relay.get p = none → ∃ t, exec (.relaySend p w) s = .next t ∧ t.answer p = some ⟨.done, []⟩ ∧
      t.cab.ports.relay.get p = some w ∧ t.cab.ports.relay.get p.other = s.cab.ports.relay.get p.other ∧
      (∀ q k, t.shows q k ↔ s.shows q k ∨ (q = p.other ∧ k = .relayIn)) ∧
      (statusWord t p.other).getLsbD 9 = true ∧ (statusWord t p).getLsbD 10 = true ∧ t.cab.dir = s.cab.dir ∧
      t.cab.mix = s.cab.mix ∧ t.cab.builder = s.cab.builder ∧ t.cab.table = s.cab.table ∧ t.cab.alloc = s.cab.alloc ∧
      t.cab.queue = s.cab.queue ∧ t.cab.calls = s.cab.calls ∧ KeptOutside s t)) ∧
  (∀ (p : Port) (s : State), s.Running →
    (s.cab.ports.relay.get p.other = none → exec (.relayTake p) s = .next (s.onCab (respond p .wrongState []))) ∧
    (∀ w, s.cab.ports.relay.get p.other = some w → ∃ t, exec (.relayTake p) s = .next t ∧
      t.answer p = some ⟨.done, [w]⟩ ∧ t.cab.ports.relay.get p.other = none ∧
      t.cab.ports.relay.get p = s.cab.ports.relay.get p ∧
      (∀ q k, t.shows q k ↔ s.shows q k ∨ (q = p.other ∧ k = .relayDone)) ∧
      (statusWord t p).getLsbD 9 = false ∧ (statusWord t p.other).getLsbD 10 = false ∧ t.cab.dir = s.cab.dir ∧
      t.cab.mix = s.cab.mix ∧ t.cab.builder = s.cab.builder ∧ t.cab.table = s.cab.table ∧ t.cab.alloc = s.cab.alloc ∧
      t.cab.queue = s.cab.queue ∧ t.cab.calls = s.cab.calls ∧ KeptOutside s t)) ∧
  (∀ (p : Port) (old new : Word) (s : State), s.Running → s.cab.ports.relay.get p = some old →
    (∃ t u, exec (.relayTake p.other) s = .next t ∧ exec (.relaySend p new) t = .next u ∧
      u.answer p.other = some ⟨.done, [old]⟩ ∧ u.answer p = some ⟨.done, []⟩ ∧
      u.cab.ports.relay.get p = some new ∧ u.shows p .relayDone) ∧
    (∃ t u, exec (.relaySend p new) s = .next t ∧ exec (.relayTake p.other) t = .next u ∧
      u.answer p = some ⟨.wrongState, []⟩ ∧ u.answer p.other = some ⟨.done, [old]⟩ ∧
      u.cab.ports.relay.get p = none ∧ u.shows p .relayDone)) ∧
  (∀ p, State.reset.cab.ports.relay.get p = none) ∧
  (∀ s : State, s.Running → ∃ t, exec (.liteReset .front) s = .next t ∧
    ∀ p, t.cab.ports.relay.get p = none ∧ ¬ t.shows p .relayIn ∧ ¬ t.shows p .relayDone)

/-- 10 R166, 01 R23, 03 R56, 04 R85, 06 R120, 07 R137: what the start of a lite reset leaves: the directory, the queue
with its built-in patterns, the calls, the table with both walk cursors at start, the mix and the builder; and its end,
which leaves patterns, cursors and an empty queue as they are. That exactly MUTE stays in the emptied sets, where the
start ends an external mute, is read from the order of the actions (log 37, DEDUCED); that LITE_RESET_END changes
nothing out of its place is the model's reading (log 4, DEDUCED); that the number of a cleared path estimate is 0 is
its choice (log 7). At the end of a lite reset that its start has left without routes and watch station, both channels
are released and the roles settled (05 R103); that both tuners stay IDLE where it ends in supply LOW is the model's
choice (log 49, DESIGN CHOICE), and that the end leaves the new pass at the position it has reached is too (log 51,
DESIGN CHOICE). That diversity and follows are over at the START, where R103 speaks of the end, is read from the order
of the actions (log 32, DEDUCED). -/
def Obligations.LiteResetStartsAndEnds : Prop :=
  (∀ s : State, s.Running → ∃ t, exec (.liteReset .front) s = .next t ∧ t.answer .front = some ⟨.accepted, []⟩ ∧
    t.cab.ports.part = .liteReset ∧ t.ring.drive.liteReset = true ∧
    (∀ p k, t.shows p k ↔ k = .mute ∧ s.ring.externalMute = true) ∧ (∀ p, t.cab.ports.relay.get p = none) ∧
    (∀ l k, t.cab.route l k = ⟨(s.cab.route l k).gen + (if (s.cab.route l k).record.isSome then 1 else 0), none⟩) ∧
    (∀ i, t.cab.entrySlot i = ⟨(s.cab.entrySlot i).gen + (if (s.cab.entrySlot i).entry.isSome then 1 else 0), none⟩) ∧
    (∀ i, t.cab.callSlot i = ⟨(s.cab.callSlot i).gen + (if (s.cab.callSlot i).record.isSome then 1 else 0), none⟩) ∧
    t.cab.dir.zones = resetZones s.supply.image ∧ t.cab.dir.rearControl = false ∧ t.cab.dir.media = s.cab.dir.media ∧
    (∀ i, t.cab.stationSlot i = ⟨(s.cab.stationSlot i).gen,
      (s.cab.stationSlot i).record.map fun r => { r with refs := 0, watched := false, received := false }⟩) ∧
    (∀ p, t.cab.table.cursor.get p = none) ∧
    (let z01 : ZoneSet := ⟨true, true, false, false, false⟩
     let z02 : ZoneSet := ⟨true, false, true, false, false⟩
     t.cab.queue.patterns.cells = [
      ⟨1000, 5, 0, 1, 2, { z01 with z2 := true }⟩, ⟨1500, 10, 10, 2, 2, z02⟩, ⟨700, 20, 20, 3, 3, z02⟩,
      ⟨2000, 10, 5, 5, 5, { z01 with z2 := true }⟩, ⟨2500, 25, 25, 0, 6, z02⟩,
      ⟨3000, 5, 5, 0, 7, ⟨true, true, true, true, true⟩⟩, ⟨440, 20, 100, 0, 6, ⟨false, false, true, false, false⟩⟩,
      ⟨800, 100, 100, 0, 6, z02⟩]) ∧
    t.cab.queue.endNumber = 0 ∧ (∀ v, t.cab.queue.voices.get v = none) ∧ (∀ z, (t.cab.mixZone z).audible = none) ∧
    (∀ z, (t.cab.mixZone z).routes = [] ∧ (t.cab.mixZone z).leaving = [] ∧ (t.cab.mixZone z).overlays = [] ∧
      (t.cab.mixZone z).leavingOverlays = [] ∧ (t.cab.mixZone z).listened = none ∧ t.cab.builder.stale.get z = false) ∧
    t.cab.builder.hold = .running ∧ t.cab.builder.position = .z4 ∧ t.cab.builder.job = none ∧
    t.cab.table.watch = none ∧ t.cab.queue.ends = [] ∧ t.cab.queue.ignored = [] ∧
    t.cab.table.position = ⟨.fm, 0⟩ ∧ t.cab.table.dwell = none ∧ t.cab.table.tableFull = false ∧
    (∀ x, (t.cab.chan x).station = (s.cab.chan x).station ∧ (t.cab.chan x).diversity = false ∧
      (t.cab.chan x).follow = none) ∧
    t.cab.calls.canceller.state = .idle ∧ t.cab.calls.canceller.path = 0 ∧ t.cab.calls.uplinkGain = 0 ∧
    t.cab.calls.uplinkLevel = 0 ∧ t.cab.calls.phoneUl = 0 ∧ t.ring.nodes = s.ring.nodes ∧
    t.ring.state = s.ring.state ∧ t.supply = s.supply ∧
    t.cab.ports.liteNumber = s.cab.ports.liteNumber ∧ t.cab.ports.status = s.cab.ports.status) ∧
  (∀ s : State, s.Running → exec (.liteReset .rear) s = .next (s.onCab (respond .rear .denied []))) ∧
  (∀ s : State, s.cab.ports.part = .liteReset → ∃ t, exec .liteResetEnd s = .next t ∧ t.Running ∧
    t.cab.ports.liteNumber = s.cab.ports.liteNumber + 1 ∧ t.ring.drive.liteReset = false ∧
    t.shows .front .zone ∧ t.shows .rear .zone ∧ (∀ z, Rebuilds t z) ∧
    ((∀ l k, (s.cab.route l k).record = none) → s.cab.table.watch = none → s.cab.builder.hold = .running →
      RolesFit s.cab →
      (∀ x, (t.cab.chan x).station = none ∧ (t.cab.chan x).serving = none ∧ ((s.cab.chan x).station ≠ none →
        (t.cab.chan x).retuning = false ∧ (t.cab.chan x).diversity = false ∧ (t.cab.chan x).follow = none ∧
        (t.cab.chan x).followCount = 0)) ∧
      (s.cab.alloc.stopped = false →
        (∀ u, (s.cab.tuner u).role = .scan → (t.cab.tuner u).role = .scan ∧ (t.cab.tuner u.other).role = .idle) ∧
        ((∀ u, (s.cab.tuner u).role ≠ .scan) → (t.cab.tuner .t0).role = .scan ∧ (t.cab.tuner .t1).role = .idle ∧
          (t.cab.tuner .t0).tuned = some s.cab.table.position)) ∧
      (s.cab.alloc.stopped = true → ∀ u, (t.cab.tuner u).role = .idle) ∧
      ((∀ i, (s.cab.entrySlot i).entry = none) → (∀ i, t.cab.entrySlot i = s.cab.entrySlot i) ∧
        t.cab.queue.ends = s.cab.queue.ends ∧ t.cab.queue.endNumber = s.cab.queue.endNumber ∧
        (∀ v, s.cab.queue.voices.get v = none → t.cab.queue.voices.get v = none) ∧
        ∀ z, (s.cab.mixZone z).audible = none → (t.cab.mixZone z).audible = none)) ∧
    t.cab.queue.patterns = s.cab.queue.patterns ∧ t.cab.table.cursor = s.cab.table.cursor ∧
    t.cab.dir.zones = s.cab.dir.zones ∧ t.ring.nodes = s.ring.nodes ∧ t.supply = s.supply ∧
    t.cab.ports.relay = s.cab.ports.relay ∧ t.cab.ports.status = s.cab.ports.status) ∧
  (∀ s : State, s.cab.ports.part ≠ .liteReset → exec .liteResetEnd s = .next s)

/-! ## The route directory (01) and Hold (03) -/

/-- 01 R15, R13, R7: Place Route. The lowest-numbered free slot, or the named one, receives the record; the station
named gains a reference; the linking zones are rebuilt; nothing else in the directory changes but derived states. The
channels then carry the winners, and the bulletins that the placement lets in are raised (05 R89, 06 R116). That the
response carries the state derived after the arbitration is the model's reading (log 15, DEDUCED). That a build which
starts at once reads the assignment of the channels after the arbitration of the same request is the model's choice
(log 17, DESIGN CHOICE). -/
def Obligations.PlaceRouteCreatesTheRecord : Prop :=
  ∀ (p : Port) (a : PlaceArgs) (f : PlaceForm) (src : Source) (k : Fin 6) (s : State),
    s.Running → NoDeferrals s.cab → placeForm? a = some f → resolveSource s.cab f.source = some src →
    (p = .rear → rearMayChangeList s.cab f.list = true ∧ f.pinned = false) →
    (f.present = true → listNames s.cab f.list src = false) → placeSlot s.cab f = some k →
    ∃ t r, exec (.placeRoute p a) s = .next t ∧
      t.cab.route f.list k = ⟨(s.cab.route f.list k).gen, some r⟩ ∧
      r.present = f.present ∧ r.source = src ∧ r.gain = max (-48) (min 24 a.gain) ∧
      (r.priority : Int) = max 0 (min 7 a.priority) ∧ r.duck = f.duck ∧ r.owner = p ∧ r.shared = f.shared ∧
      r.pinned = f.pinned ∧ r.heard = false ∧ r.altered = false ∧ r.state = routeState t.cab f.list r ∧
      t.answer p = some ⟨if (-48 ≤ a.gain ∧ a.gain ≤ 24) ∧ 0 ≤ a.priority ∧ a.priority ≤ 7 then .done else .clamped,
        [routeWord ⟨f.list, k, (s.cab.route f.list k).gen⟩, natWord r.state.num]⟩ ∧
      (∀ l j, (l, j) ≠ (f.list, k) → SameRoute (t.cab.route l j) (s.cab.route l j)) ∧
      (∀ i, t.cab.stationSlot i =
        StationSlot.moved (if src = .station (s.cab.stationId i) then 1 else 0) 0 (s.cab.stationSlot i)) ∧
      (∀ z, links s.cab f.list z = true → Rebuilds t z) ∧
      t.cab.dir.zones = s.cab.dir.zones ∧ t.cab.dir.rearControl = s.cab.dir.rearControl ∧
      t.cab.dir.media = s.cab.dir.media ∧ t.cab.table.watch = s.cab.table.watch ∧
      t.cab.table.cursor = s.cab.table.cursor ∧ KeptAround p s t ∧ CarriesTheWinners s t ∧
      (PrioritiesFit s.cab → RaisesBulletins s t)

/-- 01 R16, R9, R13: Alter Route; one that changes no value does nothing but answer. Where it changes a value, the
named fields take their new values, references move with the source, and a change by the other port sets the altered
mark and posts ROUTE to the owner. The channels then carry the winners, and the traffic conditions are tested (05 R89,
06 R116). That a build which starts at once reads the assignment of the channels after the arbitration of the same
request is the model's choice (log 17, DESIGN CHOICE). -/
def Obligations.AlterRouteChangesTheNamedFields : Prop :=
  (∀ (p : Port) (h : Handle) (a : AlterArgs) (l : Fin 8) (k : Fin 6) (old : RouteRecord) (src : Source) (s : State),
    s.Running → routeKey? h = some (l, k) → alterForm a = true → routeOf s.cab l k h = some old →
    optSource s.cab old.source a.source = some src → alterDenied s.cab p l old a = false →
    alteredRecord old src a = old →
    exec (.alterRoute p h a) s = .next (s.onCab (respond p (doneOr (alterClamped a)) []))) ∧
  (∀ (p : Port) (h : Handle) (a : AlterArgs) (l : Fin 8) (k : Fin 6) (old : RouteRecord) (src : Source) (s : State),
    s.Running → NoDeferrals s.cab → routeKey? h = some (l, k) → alterForm a = true → routeOf s.cab l k h = some old →
    optSource s.cab old.source a.source = some src → alterDenied s.cab p l old a = false →
    (old.present = true → src ≠ old.source → duplicateIn s.cab l (some k) src = false) →
    alteredRecord old src a ≠ old →
    ∃ t r, exec (.alterRoute p h a) s = .next t ∧
      t.cab.route l k = ⟨(s.cab.route l k).gen, some r⟩ ∧
      r.source = src ∧ r.gain = a.gain.elim old.gain (fun v => max (-48) (min 24 v)) ∧
      (r.priority : Int) = a.priority.elim (old.priority : Int) (fun v => max 0 (min 7 v)) ∧
      r.duck = a.duck.elim old.duck (fun v => (duckClass? v).getD old.duck) ∧
      r.shared = a.shared.elim old.shared (fun v => decide (v = 1)) ∧
      r.pinned = a.pinned.elim old.pinned (fun v => decide (v = 1)) ∧
      r.present = old.present ∧ r.owner = old.owner ∧ r.heard = old.heard ∧
      r.altered = (old.altered || decide (p ≠ old.owner)) ∧ r.state = routeState t.cab l r ∧
      (p ≠ old.owner → t.shows old.owner .route) ∧
      t.answer p = some ⟨doneOr (alterClamped a), []⟩ ∧
      (∀ m j, (m, j) ≠ (l, k) → SameRoute (t.cab.route m j) (s.cab.route m j)) ∧
      (∀ i, t.cab.stationSlot i = StationSlot.moved
        (if src ≠ old.source ∧ src = .station (s.cab.stationId i) then 1 else 0)
        (if src ≠ old.source ∧ old.source = .station (s.cab.stationId i) then 1 else 0) (s.cab.stationSlot i)) ∧
      (∀ z, links s.cab l z = true → Rebuilds t z) ∧
      t.cab.dir.zones = s.cab.dir.zones ∧ t.cab.dir.rearControl = s.cab.dir.rearControl ∧
      t.cab.dir.media = s.cab.dir.media ∧ t.cab.table.watch = s.cab.table.watch ∧
      t.cab.table.cursor = s.cab.table.cursor ∧ KeptAround p s t ∧ CarriesTheWinners s t ∧
      (PrioritiesFit s.cab → RaisesBulletins s t))

/-- 01 R17: Park of a present record and Unpark of a parked one, where the access rule and R12 allow it. The channels
then carry the winners, and the traffic conditions are tested (05 R89, 06 R116). That a build which starts at once
reads the assignment of the channels after the arbitration of the same request is the model's choice (log 17, DESIGN
CHOICE). -/
def Obligations.ParkAndUnparkSetPresent : Prop :=
  ∀ (p : Port) (h : Handle) (l : Fin 8) (k : Fin 6) (old : RouteRecord) (s : State),
    s.Running → NoDeferrals s.cab → routeKey? h = some (l, k) → routeOf s.cab l k h = some old →
    mayChangeRoute s.cab p l old = true →
    (old.present = false → duplicateIn s.cab l (some k) old.source = false) →
    ∃ t r, exec (if old.present then .park p h else .unpark p h) s = .next t ∧
      t.cab.route l k = ⟨(s.cab.route l k).gen, some r⟩ ∧
      { r with state := old.state } =
        { old with present := !old.present, altered := old.altered || decide (p ≠ old.owner) } ∧
      r.state = routeState t.cab l r ∧ (old.present = true → r.state = .parked) ∧
      (p ≠ old.owner → t.shows old.owner .route) ∧ t.answer p = some ⟨.done, []⟩ ∧
      (∀ m j, (m, j) ≠ (l, k) → SameRoute (t.cab.route m j) (s.cab.route m j)) ∧
      t.cab.table.slots = s.cab.table.slots ∧ (∀ z, links s.cab l z = true → Rebuilds t z) ∧
      t.cab.dir.zones = s.cab.dir.zones ∧ t.cab.dir.rearControl = s.cab.dir.rearControl ∧
      t.cab.dir.media = s.cab.dir.media ∧ t.cab.table.watch = s.cab.table.watch ∧
      t.cab.table.cursor = s.cab.table.cursor ∧ KeptAround p s t ∧ CarriesTheWinners s t ∧
      (PrioritiesFit s.cab → RaisesBulletins s t)

/-- 01 R18, R6, R13 and R21: Retire Route, and Clear Zone Routes over the routes it may clear. The contributions
planned from the routes retired are orphaned (03 R46, R53), the channels then carry the winners, and the traffic
conditions are tested (05 R89, 06 R116). That a build which starts at once reads the assignment of the channels after
the arbitration of the same request is the model's choice (log 17, DESIGN CHOICE). -/
def Obligations.RetiringFreesTheSlots : Prop :=
  (∀ (p : Port) (h : Handle) (l : Fin 8) (k : Fin 6) (old : RouteRecord) (s : State),
    s.Running → NoDeferrals s.cab → routeKey? h = some (l, k) → routeOf s.cab l k h = some old →
    mayChangeRoute s.cab p l old = true →
    ∃ t, exec (.retireRoute p h) s = .next t ∧ t.cab.route l k = ⟨(s.cab.route l k).gen + 1, none⟩ ∧
      (p ≠ old.owner → t.shows old.owner .route) ∧ t.answer p = some ⟨.done, []⟩ ∧
      (∀ m j, (m, j) ≠ (l, k) → SameRoute (t.cab.route m j) (s.cab.route m j)) ∧
      (∀ i, t.cab.stationSlot i = StationSlot.moved 0 (namers s.cab i [(l, k)]) (s.cab.stationSlot i)) ∧
      Orphans [⟨l, k, (s.cab.route l k).gen⟩] s t ∧
      (∀ z, links s.cab l z = true → Rebuilds t z) ∧
      t.cab.dir.zones = s.cab.dir.zones ∧ t.cab.dir.rearControl = s.cab.dir.rearControl ∧
      t.cab.dir.media = s.cab.dir.media ∧ t.cab.table.watch = s.cab.table.watch ∧
      t.cab.table.cursor = s.cab.table.cursor ∧ KeptAround p s t ∧ CarriesTheWinners s t ∧
      (PrioritiesFit s.cab → RaisesBulletins s t)) ∧
  (∀ (p : Port) (mask : Nat) (zs : ZoneSet) (s : State), s.Running → NoDeferrals s.cab → zoneSet? mask = some zs →
    ∃ t gone, exec (.clearZoneRoutes p mask) s = .next t ∧
      gone = routeKeys.filter (fun x =>
        ((s.cab.route x.1 x.2).record.any fun r => !r.pinned && mayChangeRoute s.cab p x.1 r) &&
        Zone.all.any fun z => zs.get z && links s.cab x.1 z) ∧
      t.answer p = some ⟨.done, [natWord gone.length]⟩ ∧
      (∀ l k, (l, k) ∈ gone → t.cab.route l k = ⟨(s.cab.route l k).gen + 1, none⟩ ∧
        (∀ r, (s.cab.route l k).record = some r → p ≠ r.owner → t.shows r.owner .route) ∧
        (∀ z, links s.cab l z = true → Rebuilds t z)) ∧
      (∀ l k, (l, k) ∉ gone → SameRoute (t.cab.route l k) (s.cab.route l k)) ∧
      (∀ i, t.cab.stationSlot i = StationSlot.moved 0 (namers s.cab i gone) (s.cab.stationSlot i)) ∧
      Orphans (gone.map fun x => ⟨x.1, x.2, (s.cab.route x.1 x.2).gen⟩) s t ∧
      t.cab.dir.zones = s.cab.dir.zones ∧ t.cab.dir.rearControl = s.cab.dir.rearControl ∧
      t.cab.dir.media = s.cab.dir.media ∧ t.cab.table.watch = s.cab.table.watch ∧
      t.cab.table.cursor = s.cab.table.cursor ∧ KeptAround p s t ∧
      (gone ≠ [] → CarriesTheWinners s t ∧ (PrioritiesFit s.cab → RaisesBulletins s t)))

/-- 01 R20: Read Zone returns every field of the entry with the requesting port's own clip flag, which it clears; 01
R18: Read Route changes nothing; 01 R9: Clear Marks clears both marks of the owner's record and no more. The words of
Read Zone, spelled, are laid out by the model's reading of R167's general layout (log 12, DESIGN CHOICE). The route
record is spelled word by word as 10 R167 lays it out. -/
def Obligations.DirectoryReadsAndMarks : Prop :=
  (∀ (p : Port) (h : Handle) (l : Fin 8) (k : Fin 6) (r : RouteRecord) (s : State),
    s.Running → routeKey? h = some (l, k) → routeOf s.cab l k h = some r →
    exec (.readRoute p h) s = .next (s.onCab (respond p .done (routeWords ⟨l, k, (s.cab.route l k).gen⟩ r))) ∧
    exec (.clearMarks p h) s = .next (s.onCab (if p = r.owner then
      fun c => respond p .done [] (setRouteRecord l k { r with heard := false, altered := false } c)
      else refuse p .denied))) ∧
  (∀ (p : Port) (n : Nat) (z : Zone) (s : State), s.Running → Zone.ofNat? n = some z →
    ∃ t e, exec (.readZone p n) s = .next t ∧ e = s.cab.zone z ∧
      t.answer p = some ⟨.done, zoneWords s.cab p z⟩ ∧
      t = s.onCab (fun c => respond p .done (zoneWords s.cab p z)
        { c with dir := { c.dir with zones := c.dir.zones.set z { e with clip := e.clip.set p false } } })) ∧
  (∀ (h : RouteId) (r : RouteRecord), routeWords h r = [
    BitVec.ofNat 16 (h.gen.val * 4096 + h.list.val * 256 + h.slot.val),
    (match r.source with | .station _ => 0 | .media n => BitVec.ofNat 16 (256 + n.val)),
    (match r.source with | .station a => BitVec.ofNat 16 (a.gen.val * 4096 + a.slot.val) | .media _ => 65535),
    BitVec.ofInt 16 r.gain, BitVec.ofNat 16 r.priority, (match r.duck with | .duck => 0 | .mute => 1 | .ignore => 2),
    BitVec.ofNat 16 (r.present.toNat + 2 * r.shared.toNat + 4 * r.pinned.toNat + 8 * r.heard.toNat +
      16 * r.altered.toNat + 32 * (decide (r.owner = .rear)).toNat),
    (match r.state with
      | .parked => 0 | .unlinked => 1 | .waiting => 2 | .tuning => 3 | .silent => 4 | .playing => 5)]) ∧
  (∀ (c : Cabin) (p : Port) (z : Zone) (e : ZoneEntry), e = c.zone z → zoneWords c p z =
    [BitVec.ofNat 16 e.present.toNat, (match e.list with | none => 65535 | some l => BitVec.ofNat 16 l.val)] ++
    [e.volume, e.ceiling, e.duckDepth, e.callDuckDepth, e.traffic, e.nav, e.chime, e.ring].map (BitVec.ofInt 16) ++
    [BitVec.ofNat 16 (e.accept.traffic.toNat + 2 * e.accept.nav.toNat + 4 * e.accept.chime.toNat),
     BitVec.ofNat 16 e.userMute.toNat, BitVec.ofNat 16 (e.clip.get p).toNat,
     BitVec.ofNat 16 (decide (z = .z1) && c.dir.rearControl).toNat,
     BitVec.ofNat 16 (decide (z = .z3 ∨ z = .z4 ∨ (z = .z1 ∧ c.dir.rearControl = true))).toNat])

/-- 01 R19: Set Zone. The named fields take their limited values and the ceiling is settled by the port's row of the
table; a change makes the zone stale and posts ZONE to both ports. The channels then carry the winners; of the fields
only a new accept set tests the traffic conditions (05 R89, 06 R116). Which bit of the accept set's word stands for
which kind is the model's choice (log 12, DESIGN CHOICE). That a build which starts at once reads the assignment of the
channels after the arbitration of the same request is the model's choice (log 17, DESIGN CHOICE). -/
def Obligations.SetZoneSettlesTheEntry : Prop :=
  ∀ (p : Port) (n : Nat) (a : ZoneArgs) (z : Zone) (s : State),
    s.Running → NoDeferrals s.cab → Zone.ofNat? n = some z → zoneForm a = true → mayChangeZone s.cab p z = true →
    (p = .rear → a.present = none) →
    ∃ t, exec (.setZone p n a) s = .next t ∧
      (let old := s.cab.zone z
       let img := s.supply.image.zones.get z
       let new := t.cab.zone z
       new.present = a.present.elim old.present (fun v => decide (v = 1)) ∧
       new.volume = a.volume.elim old.volume (fun v => max (-192) (min 0 v)) ∧
       (∀ asked, a.ceiling = some asked → ∀ v, v = max (-192) (min 0 asked) →
         (p = .front → new.ceiling = min v img.absoluteCeiling) ∧
         (p = .rear → v ≤ old.ceiling → new.ceiling = v) ∧
         (p = .rear → old.ceiling < v →
           new.ceiling = max old.ceiling (min v (min img.defaultCeiling img.absoluteCeiling))) ∧
         (new.ceiling ≠ asked → t.answer p = some ⟨.clamped, []⟩)) ∧
       (a.ceiling = none → new.ceiling = old.ceiling) ∧
       new.duckDepth = a.duckDepth.elim old.duckDepth (fun v => max (-80) (min 0 v)) ∧
       new.callDuckDepth = a.callDuckDepth.elim old.callDuckDepth (fun v => max (-80) (min 0 v)) ∧
       new.traffic = a.traffic.elim old.traffic (fun v => max (-120) (min 0 v)) ∧
       new.nav = a.nav.elim old.nav (fun v => max (-120) (min 0 v)) ∧
       new.chime = a.chime.elim old.chime (fun v => max (-120) (min 0 v)) ∧
       new.ring = a.ring.elim old.ring (fun v => max (-120) (min 0 v)) ∧
       (∀ m, a.accept = some m → new.accept = ⟨m.testBit 0, m.testBit 1, m.testBit 2⟩) ∧
       (a.accept = none → new.accept = old.accept) ∧
       new.userMute = a.userMute.elim old.userMute (fun v => decide (v = 1)) ∧
       new.list = old.list ∧ new.clip = old.clip ∧
       (new ≠ old → Rebuilds t z ∧ t.shows .front .zone ∧ t.shows .rear .zone ∧ CarriesTheWinners s t) ∧
       (new.accept ≠ old.accept → PrioritiesFit s.cab → RaisesBulletins s t) ∧
       (new.accept = old.accept → t.cab.alloc.chans = s.cab.alloc.chans → t.cab.queue.slots = s.cab.queue.slots) ∧
       (new = old → t = s.onCab (respond p (doneOr (zoneClamped p img old a)) []))) ∧
      (t.answer p = some ⟨.done, []⟩ ∨ t.answer p = some ⟨.clamped, []⟩) ∧
      (∀ y, y ≠ z → t.cab.zone y = s.cab.zone y) ∧
      (∀ l k, SameRoute (t.cab.route l k) (s.cab.route l k)) ∧
      t.cab.table.slots = s.cab.table.slots ∧ t.cab.dir.rearControl = s.cab.dir.rearControl ∧
      t.cab.dir.media = s.cab.dir.media ∧ t.cab.table.watch = s.cab.table.watch ∧
      t.cab.table.cursor = s.cab.table.cursor ∧ KeptAround p s t

/-- 01 R5, R4: Link List and Grant Rear Control; naming what already stands changes nothing and posts nothing. After a
new link the channels carry the winners and the traffic conditions are tested (05 R89, 06 R116). 01 R22, 03 R44: Media
State declares streams open or closed; the routes of a changed stream have their states derived again and the zones
that hold or name it are rebuilt. That a build which starts at once reads the assignment of the channels after the
arbitration of the same request is the model's choice (log 17, DESIGN CHOICE). -/
def Obligations.LinksGrantsAndStreams : Prop :=
  (∀ (p : Port) (n : Nat) (m : Option Nat) (z : Zone) (l : Option (Fin 8)) (s : State),
    s.Running → NoDeferrals s.cab → Zone.ofNat? n = some z → listForm m = some l → mayChangeZone s.cab p z = true →
    ∃ t, exec (.linkList p n m) s = .next t ∧ t.answer p = some ⟨.done, []⟩ ∧
      t.cab.zone z = { s.cab.zone z with list := l } ∧ (∀ y, y ≠ z → t.cab.zone y = s.cab.zone y) ∧
      ((s.cab.zone z).list = l → t = s.onCab (respond p .done [])) ∧
      ((s.cab.zone z).list ≠ l → CarriesTheWinners s t ∧ (PrioritiesFit s.cab → RaisesBulletins s t) ∧
        Rebuilds t z ∧ t.shows .front .zone ∧ t.shows .rear .zone ∧
        ∀ x k r, (t.cab.route x k).record = some r → r.state = routeState t.cab x r) ∧
      (∀ x k, SameRoute (t.cab.route x k) (s.cab.route x k)) ∧
      t.cab.table.slots = s.cab.table.slots ∧ t.cab.dir.rearControl = s.cab.dir.rearControl ∧
      t.cab.dir.media = s.cab.dir.media ∧ t.cab.table.watch = s.cab.table.watch ∧
      t.cab.table.cursor = s.cab.table.cursor ∧ KeptAround p s t) ∧
  (∀ (v : Nat) (grant : Bool) (s : State), s.Running → firstOfTwo? v = some grant →
    exec (.grantRearControl .front v) s = .next (s.onCab fun c => respond .front .done []
      (if c.dir.rearControl = grant then c
       else postBoth .zone { c with dir := { c.dir with rearControl := grant } })) ∧
    exec (.grantRearControl .rear v) s = .next (s.onCab (refuse .rear .denied))) ∧
  (∀ (m0 m1 m2 m3 : Option Nat) (s : State), s.Running → mediaForm m0 m1 m2 m3 = true →
    ∃ t, exec (.mediaState .front m0 m1 m2 m3) s = .next t ∧ t.answer .front = some ⟨.done, []⟩ ∧
      (∀ n, t.cab.dir.media.get n =
        (match n with | 0 => m0 | 1 => m1 | 2 => m2 | 3 => m3).elim (s.cab.dir.media.get n) (fun v => decide (v = 0))) ∧
      (∀ n z, t.cab.dir.media.get n ≠ s.cab.dir.media.get n →
        ((∃ x ∈ (s.cab.mixZone z).routes, x.source = .media n) ∨
         (∃ l, (s.cab.zone z).list = some l ∧ listNames s.cab l (.media n) = true)) → Rebuilds t z) ∧
      (t.cab.dir.media ≠ s.cab.dir.media →
        ∀ l k r, (t.cab.route l k).record = some r → r.state = routeState t.cab l r) ∧
      (∀ l k a, (s.cab.route l k).record = some a → ∀ b, (t.cab.route l k).record = some b → a.state ≠ b.state →
        t.shows b.owner .route) ∧
      (∀ l k, SameRoute (t.cab.route l k) (s.cab.route l k)) ∧ t.cab.dir.zones = s.cab.dir.zones ∧
      t.cab.dir.rearControl = s.cab.dir.rearControl ∧ t.cab.table = s.cab.table ∧ t.cab.alloc = s.cab.alloc ∧
      t.cab.queue = s.cab.queue ∧ t.cab.calls = s.cab.calls ∧ KeptAround .front s t)

/-- 03 R51, R54, R55: Enter Hold from RUNNING. The part is HOLDING at once, with HOLD posted, when nothing is settling,
else HOLD-PENDING; a build in flight is dropped and its zone is stale again; nothing else changes. And Release Hold:
the state is RUNNING, every zone is rebuilt, the builder starts a build at once with what it reads now (R42, R43), and
the channels are assigned to the winners again. That the first build after Release Hold reads the NEW assignment of the
channels, where R54 allows either order, is the model's choice (log 17, DESIGN CHOICE). -/
def Obligations.EnterAndReleaseHold : Prop :=
  (∀ s : State, s.Running → s.cab.builder.hold = .running →
    ∃ t, exec (.enterHold .front) s = .next t ∧ t.answer .front = some ⟨.accepted, []⟩ ∧
      (anySettling s.cab = true → t.cab.builder.hold = .pending ∧ t.cab.ports.events = s.cab.ports.events) ∧
      (anySettling s.cab = false → t.cab.builder.hold = .holding ∧ t.shows .front .hold ∧
        ∀ p k, (p, k) ≠ (.front, .hold) → (t.shows p k ↔ s.shows p k)) ∧
      t.cab.builder.job = none ∧ t.cab.builder.position = s.cab.builder.position ∧
      (∀ z, t.cab.builder.stale.get z = true ↔
        s.cab.builder.stale.get z = true ∨ ∃ j, s.cab.builder.job = some j ∧ j.zone = z) ∧
      KeptOutside s t ∧ KeptPorts .front s t ∧ t.cab.dir = s.cab.dir ∧ t.cab.mix = s.cab.mix ∧
      t.cab.table = s.cab.table ∧ t.cab.alloc = s.cab.alloc ∧ t.cab.queue = s.cab.queue ∧ t.cab.calls = s.cab.calls) ∧
  (∀ s : State, s.Running → s.cab.builder.hold ≠ .running → NoDeferrals s.cab →
    ∃ t, exec (.releaseHold .front) s = .next t ∧ t.answer .front = some ⟨.done, []⟩ ∧
      t.cab.builder.hold = .running ∧ (∀ z, Rebuilds t z) ∧ t.cab.builder.job.isSome = true ∧
      (s.cab.builder.job = none → ∃ j, t.cab.builder.job = some j ∧ j.zone = t.cab.builder.position ∧
        (zonesFrom s.cab.builder.position).head? = some j.zone ∧ ReadsAtStart t.cab j) ∧
      ((t.cab.chan .pc0).station, (t.cab.chan .pc1).station) = newAssignment s.cab ∧
      (∀ l k r, (t.cab.route l k).record = some r → r.state = routeState t.cab l r) ∧
      (∀ l k, SameRoute (t.cab.route l k) (s.cab.route l k)) ∧ t.cab.dir.zones = s.cab.dir.zones ∧
      t.cab.dir.rearControl = s.cab.dir.rearControl ∧ t.cab.dir.media = s.cab.dir.media ∧
      t.cab.table.slots = s.cab.table.slots ∧ t.cab.table.watch = s.cab.table.watch ∧
      KeptOutside s t ∧ KeptPorts .front s t ∧ KeptEvents s t ∧ KeptCalls s t ∧ KeptPlans s t ∧ KeptLevels s t ∧
      t.cab.queue.patterns = s.cab.queue.patterns ∧ t.cab.queue.ignored = s.cab.queue.ignored)

/-- 03 R53: while the part is HOLD-PENDING or HOLDING no zone's plan is rebuilt, and the station of each programme
channel changes only by an identity merge, which retires the record of the station it carried, and which a data group or
the end of a deferral brings about. -/
def Obligations.HoldKeepsPlansAndAssignment : Prop :=
  ∀ (i : Instr) (s t : State), HoldFits s.cab → s.cab.builder.hold ≠ .running → exec i s = .next t →
    t.cab.builder.hold ≠ .running →
    KeptPlans s t ∧
    (∀ x, ((s.cab.chan x).station = none → (t.cab.chan x).station = none) ∧
      ∀ h, (s.cab.chan x).station = some h → (t.cab.stationSlot h.slot).gen = (s.cab.stationSlot h.slot).gen →
        (t.cab.chan x).station = some h) ∧
    (NoDeferrals s.cab → (∀ u g, i ≠ .dataGroup u g) →
      ∀ x, (t.cab.chan x).station = (s.cab.chan x).station)

/-! ## Levels, the mix and the plans (02, 03) -/

/-- 02 R28 to R31: the target of a route contribution, column by column of R29's table; 02 R33: that of an overlay, by
its kind; 02 R34, the two sentences under its table: how many ticks a ramp takes. -/
def Obligations.TargetsAndRamps : Prop :=
  (∀ target : Int, -192 ≤ target → target ≤ 0 → ∀ n : Nat,
    ((rampStep · (.steps target))^[n] .silent = .steps target ↔ (target + 193).toNat ≤ n)) ∧
  (∀ level : Int, -192 ≤ level → level ≤ 0 → ∀ n : Nat,
    ((rampStep · .silent)^[n] (.steps level) = .silent ↔ (level + 193).toNat ≤ n)) ∧
  (∀ level target : Int, ∀ n : Nat, (rampStep · (.steps target))^[n] (.steps level) =
    .steps (if level ≤ target then min target (level + n) else max target (level - n))) ∧
  (∀ n : Nat, mutedStep^[n] (.steps 0) = .silent ↔ 49 ≤ n) ∧
  (∀ (e : ZoneEntry) (crank : Int) (m : MixZone) (x : RouteShare) (v : Recorded), m.recorded = some v →
    ((bulletinOn m x.source = true ∨ v.userMute = true) → routeTarget e crank m x = .silent) ∧
    (bulletinOn m x.source = false → v.userMute = false →
      (x.duck = .mute → (m.audible ≠ none ∨ m.listened ≠ none) → routeTarget e crank m x = .silent) ∧
      (x.duck = .ignore ∨ (m.audible = none ∧ m.listened = none) →
        routeTarget e crank m x = (x.planned.cap e.ceiling).add crank) ∧
      (x.duck = .duck → m.audible ≠ none → m.listened = none →
        routeTarget e crank m x = (x.planned.cap e.ceiling).add (v.duckDepth + crank)) ∧
      (x.duck = .duck → m.audible = none → m.listened ≠ none →
        routeTarget e crank m x = (x.planned.cap e.ceiling).add (v.callDuckDepth + crank)) ∧
      (x.duck = .duck → m.audible ≠ none → m.listened ≠ none →
        routeTarget e crank m x = (x.planned.cap e.ceiling).add (min v.duckDepth v.callDuckDepth + crank)))) ∧
  (∀ (e : ZoneEntry) (m : MixZone) (x : RouteShare), routeTarget e (-36) m x = .silent ∨
    ∃ a, routeTarget e 0 m x = .steps a ∧ routeTarget e (-36) m x = .steps (a - 36)) ∧
  (∀ (c : Cabin) (e : ZoneEntry) (crank level : Int) (k : OverlayKey),
    ((∃ a, k = .entry a ∧ level = (match a.kind with
        | .traffic _ => e.traffic | .nav => e.nav | .chime => e.chime | .ring => e.ring | .waiting => e.ring)) ∨
      (∃ h r, k = .call h ∧ (c.callSlot h.slot).gen = h.gen ∧ (c.callSlot h.slot).record = some r ∧ level = r.level)) →
    overlayTarget c e crank k = (if min level e.ceiling + max crank (-12) < -192 then .silent
      else .steps (min level e.ceiling + max crank (-12))))

/-- 02 R34 to R36, 03 R52, 07 R132, 01 R8: a ramp tick moves every level one tick towards its target, and a
contribution that meets it settles no more; HOLD is posted as the part becomes HOLDING; and a route's heard mark is set
exactly when a contribution of it has been above silent since the last tick with the route live and PLAYING. That the
times remaining of NAV and TRAFFIC entries run down at ramp ticks is the model's choice (log 2, DESIGN CHOICE). -/
def Obligations.RampTickMovesLevelsAndMarks : Prop :=
  (∀ s : State, ∃ t, exec .rampTick s = .next t ∧
    (∀ z, let m := s.cab.mixZone z
      let m' := t.cab.mixZone z
      let muted := s.ring.lineSeen
      m'.routes.map (·.current) = m.routes.map (fun x =>
        tickLevel muted x.current (routeTarget (s.cab.zone z) s.supply.crank m x)) ∧
      m'.routes.map RouteShare.planOf = m.routes.map RouteShare.planOf ∧
      m'.routes.map (·.orphaned) = m.routes.map (·.orphaned) ∧
      m'.routes.map (·.settling) = m.routes.map (fun x =>
        let target := routeTarget (s.cab.zone z) s.supply.crank m x
        x.settling && decide (tickLevel muted x.current target ≠ if muted then .silent else target)) ∧
      m'.routes.map (·.audibleSince) = m.routes.map (fun x => sharePlaying s.cab x &&
        decide (tickLevel muted x.current (routeTarget (s.cab.zone z) s.supply.crank m x) ≠ .silent)) ∧
      m'.leaving = (m.leaving.map fun x => { x with
        current := tickLevel muted x.current .silent,
        audibleSince := sharePlaying s.cab x && decide (tickLevel muted x.current .silent ≠ .silent) }).filter
        (·.current ≠ .silent) ∧
      m'.leaving.map (·.current) = (m.leaving.map fun x => tickLevel muted x.current .silent).filter (· ≠ .silent) ∧
      m'.overlays.map (·.current) = m.overlays.map (fun o =>
        tickLevel muted o.current (overlayTarget s.cab (s.cab.zone z) s.supply.crank o.key)) ∧
      m'.overlays.map (·.key) = m.overlays.map (·.key) ∧
      m'.leavingOverlays.map (·.current) =
        (m.leavingOverlays.map fun o => tickLevel muted o.current .silent).filter (· ≠ .silent) ∧
      m'.recorded = m.recorded ∧ m'.audible = m.audible ∧ m'.listened = m.listened) ∧
    (∀ l k, (t.cab.route l k).gen = (s.cab.route l k).gen ∧
      (t.cab.route l k).record.map (fun r => { r with heard := false }) =
        (s.cab.route l k).record.map (fun r => { r with heard := false })) ∧
    t.cab.calls.uplinkLevel = stepTowards s.cab.calls.uplinkLevel
      (s.cab.calls.uplinkGain + if s.cab.calls.canceller.state = .converging then -18 else 0) ∧
    (s.cab.builder.hold = .pending → s.cab.builder.job = none → anySettling t.cab = false →
      t.cab.builder.hold = .holding ∧ (s.cab.ports.part.posts = true → t.shows .front .hold)) ∧
    KeptPorts .front s t ∧ t.answer .front = s.answer .front ∧
    (∀ p k, t.shows p k ↔ s.shows p k ∨ (p = .front ∧ k = .hold ∧ s.cab.ports.part.posts = true ∧
      s.cab.builder.hold ≠ t.cab.builder.hold)) ∧
    (∀ i, t.cab.entrySlot i = ⟨(s.cab.entrySlot i).gen, (s.cab.entrySlot i).entry.map fun e => { e with
      timeLeft := if e.kind = .nav ∨ e.kind.isTraffic = true then e.timeLeft - 1 else e.timeLeft }⟩) ∧
    (s.cab.builder.hold = .pending → anySettling t.cab = true → t.cab.builder.hold = .pending) ∧
    (s.cab.builder.hold ≠ .pending → t.cab.builder = s.cab.builder ∧ t.cab.ports = s.cab.ports) ∧
    t.cab.dir.zones = s.cab.dir.zones ∧ t.cab.dir.rearControl = s.cab.dir.rearControl ∧
    t.cab.dir.media = s.cab.dir.media ∧ t.cab.mix.channels = s.cab.mix.channels ∧ t.cab.table = s.cab.table ∧
    t.cab.alloc = s.cab.alloc ∧ t.cab.calls.slots = s.cab.calls.slots ∧ t.cab.calls.canceller = s.cab.calls.canceller ∧
    t.cab.calls.phoneUl = s.cab.calls.phoneUl ∧ t.cab.queue.voices = s.cab.queue.voices ∧
    t.cab.queue.ends = s.cab.queue.ends ∧ KeptOutside s t) ∧
  (∀ (c : Cabin) (x : RouteShare), sharePlaying c x = true ↔ x.orphaned = false ∧
    ∃ r, c.route x.route.list x.route.slot = ⟨x.route.gen, some r⟩ ∧ r.state = .playing) ∧
  (∀ c : Cabin, anySettling c = false ↔ ∀ z, ∀ x ∈ (c.mixZone z).routes ++ (c.mixZone z).leaving, x.settling = false) ∧
  (∀ (s : State) (l : Fin 8) (k : Fin 6) (r : RouteRecord), (s.cab.route l k).record = some r →
    ∃ t q, exec .rampTick s = .next t ∧ (t.cab.route l k).record = some q ∧
      (q.heard = true ↔ r.heard = true ∨ ∃ z, ∃ x ∈ (s.cab.mixZone z).routes ++ (s.cab.mixZone z).leaving,
        x.route = ⟨l, k, (s.cab.route l k).gen⟩ ∧ x.orphaned = false ∧ x.audibleSince = true ∧ r.state = .playing ∧
        tickLevel s.ring.lineSeen x.current
          (if x ∈ (s.cab.mixZone z).routes then routeTarget (s.cab.zone z) s.supply.crank (s.cab.mixZone z) x
           else .silent) ≠ .silent))

/-- 02 R37: F(L) is 2^20 * 10^(L/40) to the nearest integer, for the levels of the mix and for the gains and trims up
to +24 (07 R132, 09 R156); scaling is symmetric about zero and never makes a sample larger. 05 R86, R87: the raw
quality is the figure of R86 rounded to the nearest integer, halves up, and limited; the smoothed quality starts at a
raw quality and then moves a quarter of the way, rounded down. -/
def Obligations.FactorsAndQualities : Prop :=
  (∀ l : Int, -192 ≤ l → l ≤ 24 → 0 < factorOf l ∧ (l ≤ 0 → factorOf l ≤ 2 ^ 20) ∧
    (2 * factorOf l - 1) ^ 40 * 10 ^ (-l).toNat ≤ 2 ^ 840 * 10 ^ l.toNat ∧
    2 ^ 840 * 10 ^ l.toNat < (2 * factorOf l + 1) ^ 40 * 10 ^ (-l).toNat) ∧
  factor .silent = 0 ∧
  (∀ (f : Nat) (x : Int), scale f (-x) = -scale f x) ∧
  (∀ (f : Nat) (x : Int), f ≤ 2 ^ 20 → (scale f x).natAbs ≤ x.natAbs) ∧
  (∀ (f : Nat) (x : Int), 0 ≤ x → (2 * scale f x - 1) * 2 ^ 20 ≤ 2 * (x * f) ∧ 2 * (x * f) < (2 * scale f x + 1) * 2 ^ 20) ∧
  (∀ (offset q : Int) (f : Figures), let v := 25 * ((f.fs : Int) + offset - 10) - 10 * f.multipath - 6 * f.adjacent
    20 * q - 10 ≤ v → v < 20 * q + 10 → (rawQuality .fm offset f : Int) = max 0 (min 100 q)) ∧
  (∀ (offset q : Int) (f : Figures), let v := 25 * ((f.fs : Int) + offset - 10) - 6 * f.adjacent
    20 * q - 10 ≤ v → v < 20 * q + 10 → (rawQuality .mw offset f : Int) = max 0 (min 100 q)) ∧
  (∀ raw, smooth none raw = raw) ∧
  (∀ old raw, 4 * smooth (some old) raw ≤ 3 * old + raw ∧ 3 * old + raw < 4 * (smooth (some old) raw + 1)) ∧
  (∀ old raw : Nat, raw ≤ old → ∀ n, old - raw ≤ n → (fun q => smooth (some q) raw)^[n] old = raw) ∧
  (∀ old raw : Nat, old < raw → ∀ n, raw - old ≤ n →
    raw ≤ (fun q => smooth (some q) raw)^[n] old + 3 ∧ (fun q => smooth (some q) raw)^[n] old ≤ raw)

/-- 02 R39, R38, R37, R27, R40, R3, 07 R132, R133, 08 R138, R143: a sample instant. Each zone channel is the saturated
sum of what the matrix feeds it from every contribution, departing ones too; PHONE-UL is the residual of the selected
microphone signal; the canceller adapts or is frozen; and the ring's frame carries each zone channel that is CARRIED on
a channel of a node. The estimate of the echo and how it adapts are free values (log 7); what a frame carries while the
ring is not UP, where two zone channels are mapped alike, is the model's choice (log 29), as is the left sample of an
MW station (log 21) and that a block not evaluated gives way (log 3). A voice in an on-period goes on to its next
sample (06 R111); how its sine is rounded, and that it is 0 at phase 0 and keeps within the peak, is the model's choice
(log 8, DESIGN CHOICE). The saturation of a trimmed microphone sample is 09 R156. -/
def Obligations.MixSampleSumsAndSaturates : Prop :=
  (∀ (x : SampleIn) (s : State), ∃ t, exec (.mixSample x) s = .next t ∧
    (∀ i, t.cab.mix.channels.get i = max (-8388608) (min 8388607
      (if s.cab.ports.part.posts then
        ((scaledFeeds s.cab x (channelFeed i).1).map (channelFeed i).2.of).sum else 0))) ∧
    (∀ i, -8388608 ≤ t.cab.mix.channels.get i ∧ t.cab.mix.channels.get i ≤ 8388607) ∧
    (∀ z, { t.cab.zone z with clip := (s.cab.zone z).clip } = s.cab.zone z ∧
      (s.cab.ports.part.posts = true → ∀ p, ((t.cab.zone z).clip.get p = true ↔ (s.cab.zone z).clip.get p = true ∨
        ∃ i, (channelFeed i).1 = z ∧ saturate (((scaledFeeds s.cab x z).map (channelFeed i).2.of).sum) ≠
          ((scaledFeeds s.cab x z).map (channelFeed i).2.of).sum) ∧
        ((t.cab.zone z).clip.get p ≠ (s.cab.zone z).clip.get p → t.shows p .zone))) ∧
    (activeCall s.cab = none → t.cab.calls.phoneUl = 0 ∧ t.cab.calls.canceller = s.cab.calls.canceller) ∧
    (∀ i, activeCall s.cab = some i → ∀ r, (s.cab.callSlot i).record = some r →
      let d := max (-8388608) (min 8388607 (scale (factorOf s.supply.image.driverTrim) x.driver.toInt))
      let p := max (-8388608) (min 8388607 (scale (factorOf s.supply.image.passengerTrim) x.passenger.toInt))
      let mic := match r.talker with | .driver => d | .passenger => p | .both => (d + p) / 2
      let reference := (((List.finRange 14).filter fun i => decide (i.val < 10)).map t.cab.mix.channels.get).sum
      let v := s.cab.calls.canceller
      let w := t.cab.calls.canceller
      let residual := mic - Config.echoEstimate v.path reference s.free
      let fresh := decide (3072 ≤ v.samples)
      t.cab.calls.phoneUl = (if r.uplinkMute then 0
        else max (-8388608) (min 8388607 (scale (factorOf s.cab.calls.uplinkLevel) residual))) ∧
      (v.state = .idle → w = v) ∧
      (v.state ≠ .idle → w.samples = (if fresh then 0 else v.samples) + 1 ∧
        w.micSquares = (if fresh then 0 else v.micSquares) + mic.natAbs ^ 2 ∧
        w.residualSquares = (if fresh then 0 else v.residualSquares) + residual.natAbs ^ 2 ∧
        w.discard = (v.discard && !fresh) ∧ w.state = v.state ∧ w.run = v.run ∧
        w.path = (if v.state = .doubleTalk then v.path else Config.adaptedPath v.path reference mic s.free))) ∧
    (∀ i k, (∀ z : ZoneChan, soundsOn s.ring i k z = true → (∀ y : ZoneChan, y < z → soundsOn s.ring i k y = false) →
        (t.ring.frame.get i).get k = some (t.cab.mix.channels.get z)) ∧
      ((∀ z : ZoneChan, soundsOn s.ring i k z = false) → (t.ring.frame.get i).get k = none)) ∧
    (∀ v, t.cab.queue.voices.get v = (s.cab.queue.voices.get v).map fun w => { w with
      sample := match w.cadence with | .on _ => w.sample + 1 | _ => w.sample }) ∧
    t.ring = { s.ring with frame := t.ring.frame } ∧
    t.cab.mix.zones = s.cab.mix.zones ∧ t.cab.dir.lists = s.cab.dir.lists ∧
    t.cab.dir.rearControl = s.cab.dir.rearControl ∧ t.cab.dir.media = s.cab.dir.media ∧
    t.cab.builder = s.cab.builder ∧ t.cab.table = s.cab.table ∧ t.cab.alloc = s.cab.alloc ∧
    t.cab.queue.slots = s.cab.queue.slots ∧ t.cab.calls.slots = s.cab.calls.slots ∧
    t.cab.calls.uplinkGain = s.cab.calls.uplinkGain ∧ t.cab.calls.uplinkLevel = s.cab.calls.uplinkLevel ∧
    t.supply = s.supply ∧ t.pending = s.pending) ∧
  (∀ (g : Ring) (i : Fin 6) (k : Fin 8) (z : ZoneChan), soundsOn g i k z = true ↔
    (g.placement.get z).entry = some (i.val, k.val) ∧ (g.state = .up → (g.placement.get z).status = .carried)) ∧
  (∀ l r : Int, ((List.finRange 14).map fun i => ((channelFeed i).1, (channelFeed i).2.of (l, r))) =
    [(.z0, l), (.z0, r), (.z0, (l + r) / 2), (.z0, (l + r) / 2), (.z1, l), (.z1, r), (.z1, l), (.z1, r),
     (.z2, l), (.z2, r), (.z3, l), (.z3, r), (.z4, l), (.z4, r)]) ∧
  (∀ (c : Cabin) (x : SampleIn) (z : Zone), scaledFeeds c x z =
    (((c.mixZone z).routes ++ (c.mixZone z).leaving).map fun y =>
      (scale (factor y.current) (sourceSample c x y.source).1, scale (factor y.current) (sourceSample c x y.source).2)) ++
    (((c.mixZone z).overlays ++ (c.mixZone z).leavingOverlays).map fun y =>
      (scale (factor y.current) (overlaySample c x y.key).1, scale (factor y.current) (overlaySample c x y.key).2))) ∧
  (∀ (c : Cabin) (x : SampleIn) (y : Chan),
    ((c.chan y).station = none ∨ (c.chan y).retuning = true ∨ selfProbing (c.chan y) = true ∨ c.alloc.stopped = true →
      sourceSample c x (.chan y) = (0, 0)) ∧
    (∀ (h : StationId) (r : Station) (a : TunerId), (c.chan y).station = some h → c.station h = some r →
      (c.chan y).serving = some a → (c.chan y).retuning = false → selfProbing (c.chan y) = false →
      c.alloc.stopped = false →
      let v := x.tuner.get (if (c.chan y).partner then a.other else a)
      sourceSample c x (.chan y) = (v.l.toInt, if r.freq.band = .mw then v.l.toInt else v.r.toInt))) ∧
  (∀ (c : Cabin) (x : SampleIn) (n : Fin 4), sourceSample c x (.media n) =
    if c.dir.media.get n then ((x.media.get n).l.toInt, (x.media.get n).r.toInt) else (0, 0)) ∧
  (∀ (c : Cabin) (x : SampleIn) (a : Audible) (h : CallId),
    overlaySample c x (.call h) = (x.phoneDl.toInt, x.phoneDl.toInt) ∧
    (∀ y, a.kind = .traffic y → overlaySample c x (.entry a) = sourceSample c x (.chan y)) ∧
    (a.kind = .nav → overlaySample c x (.entry a) = (x.nav.toInt, x.nav.toInt)) ∧
    (a.kind = .chime ∨ a.kind = .ring ∨ a.kind = .waiting → c.entryId a.entry.slot = a.entry →
      (voiceOf c a.entry.slot = none → overlaySample c x (.entry a) = (0, 0)) ∧
      ∀ v w, voiceOf c a.entry.slot = some v → c.queue.voices.get v = some w →
        ((∀ k, w.cadence ≠ .on k) → overlaySample c x (.entry a) = (0, 0)) ∧
        (∀ k, w.cadence = .on k →
          overlaySample c x (.entry a) = (toneSample w.tone w.sample, toneSample w.tone w.sample)))) ∧
  (∀ hz n : Nat, toneSample hz 0 = 0 ∧ (toneSample hz n).natAbs ≤ 4194304)

/-- 03 R47, R43, R45, R52: the end of a build installs what the build read at its start; each contribution of the new
set persists, is taken back, or enters from silent, and the others depart; the settling fields of R52; the removals of
R48, the lowest level first and of equal levels the one that departed first; the cabin change notice of R49; and what
the next build reads as it starts (R42, R43). That an orphaned share enters from silent (log 33) and that the command
does nothing with no build in flight (log 4) are the model's reading (both DEDUCED). That contributions which depart at
the same installation count as departed in the plan's order, so that equal levels among them fall in it, is the model's
reading (log 20, DEDUCED). -/
def Obligations.PlanBuildCompleteInstalls : Prop :=
  (∀ (s : State) (j : BuildJob), s.cab.builder.job = some j → ∃ t, exec .planBuildComplete s = .next t ∧
    (let m := s.cab.mixZone j.zone
     let m' := t.cab.mixZone j.zone
     m'.recorded = some j.values ∧
     m'.routes.map RouteShare.planOf = j.shares.map (fun n => (n.route, n.source, n.duck, n.planned)) ∧
     m'.routes.map (·.current) = j.shares.map (fun n =>
       match m.routes.find? (sameShare n) with
       | some x => x.current
       | none => match m.leaving.find? (sameShare n) with
         | some x => x.current
         | none => .silent) ∧
     m'.routes.map (·.settling) = j.shares.map (fun n =>
       match m.routes.find? (sameShare n) with
       | some x => x.settling || decide (inForce s.ring.lineSeen (routeTarget (s.cab.zone j.zone) s.supply.crank m x) ≠
           inForce s.ring.lineSeen (routeTarget (s.cab.zone j.zone) s.supply.crank m'
             { x with duck := n.duck, planned := n.planned }))
       | none => true) ∧
     (let pairs (l : List RouteShare) : List (RouteId × PlanSource) := l.map fun x => (x.route, x.source)
      let differ := (∃ y ∈ pairs m.routes, y ∉ pairs m'.routes) ∨ ∃ y ∈ pairs m'.routes, y ∉ pairs m.routes
      ((j.zone = .z0 ∨ j.zone = .z1 ∨ j.zone = .z2) → differ → t.cab.calls = (reconverge s.cab).calls ∧
        (t.cab.calls.canceller.state ≠ s.cab.calls.canceller.state → s.cab.ports.part.posts = true →
          t.shows .front .echo)) ∧
      (j.zone = .z3 ∨ j.zone = .z4 ∨ ¬ differ → t.cab.calls = s.cab.calls)) ∧
     (∀ x ∈ m'.leaving, x ∈ m.leaving ∨
       ∃ y ∈ m.routes, x = { y with settling := true } ∧ ∀ n ∈ j.shares, sameShare n y = false) ∧
     (j.shares.length + m.leaving.length + m.routes.length ≤ 16 →
       ∀ y ∈ m.routes, (∀ n ∈ j.shares, sameShare n y = false) → { y with settling := true } ∈ m'.leaving) ∧
     (j.shares.length ≤ 16 → m'.routes.length + m'.leaving.length ≤ 16) ∧
     (m.leaving.Pairwise (fun x y => x.route = y.route → x.source = y.source → x.orphaned = true ∨ y.orphaned = true) →
       ∃ (departing : List RouteShare) (kept : List (RouteShare × Nat)), departing = (m.leaving.filter fun x =>
           !j.shares.any fun n => sameShare n x && !m.routes.any (sameShare n)) ++
         ((m.routes.filter fun y => !j.shares.any fun n => sameShare n y).map fun y => { y with settling := true }) ∧
         kept.Sublist departing.zipIdx ∧ kept.map (·.1) = m'.leaving ∧
         kept.length = min departing.length (16 - j.shares.length) ∧
         ∀ a ∈ departing.zipIdx, a ∉ kept → ∀ b ∈ kept, a.1.current.lt b.1.current = true ∨
           (a.1.current = b.1.current ∧ a.2 < b.2)) ∧
     m'.overlays = m.overlays ∧ m'.leavingOverlays = m.leavingOverlays ∧ m'.audible = m.audible ∧
     m'.listened = m.listened) ∧
    (∀ z, z ≠ j.zone → t.cab.mixZone z = s.cab.mixZone z) ∧
    (s.cab.builder.hold = .running → s.Running →
      (∀ z, (zonesFrom s.cab.builder.position).find? (s.cab.builder.stale.get ·) = some z →
        t.cab.builder.position = z ∧ t.cab.builder.stale.get z = false ∧
        ∃ b, t.cab.builder.job = some b ∧ b.zone = z ∧ ReadsAtStart t.cab b) ∧
      ((zonesFrom s.cab.builder.position).find? (s.cab.builder.stale.get ·) = none → t.cab.builder.job = none)) ∧
    t.cab.dir = s.cab.dir ∧ t.cab.table = s.cab.table ∧ t.cab.alloc = s.cab.alloc ∧ t.cab.queue = s.cab.queue ∧
    t.cab.calls.slots = s.cab.calls.slots ∧ t.cab.mix.channels = s.cab.mix.channels ∧ KeptOutside s t) ∧
  (∀ (n : BuiltShare) (x : RouteShare), sameShare n x = true ↔
    n.orphaned = false ∧ x.orphaned = false ∧ n.route = x.route ∧ n.source = x.source) ∧
  (∀ a b : Level, a.lt b = true ↔ (a = .silent ∧ b ≠ .silent) ∨ ∃ m n, a = .steps m ∧ b = .steps n ∧ m < n) ∧
  (∀ s : State, s.cab.builder.job = none → exec .planBuildComplete s = .next s)

/-! ## The station table (04) -/

/-- 04 R79: Read Station changes nothing; Keep and Unkeep set the requesting port's own kept field and no more. 04 R82:
Set Traffic Watch makes the record named, or none, the watch station; the channels then carry the winners, and a change
of the watch station tests the traffic conditions (05 R89, 06 R116). The station record is spelled word by word (10
R167); that the word of an absent name segment is 0 is the model's choice (log 12, DESIGN CHOICE). -/
def Obligations.KeepUnkeepAndTrafficWatch : Prop :=
  (∀ (p : Port) (h : Handle) (i : Fin 40) (r : Station) (s : State), s.Running → finOf? 40 h.slot = some i →
    stationOf s.cab i h = some r →
    exec (.readStation p h) s = .next (s.onCab (respond p .done (stationWords s.cab i r))) ∧
    ∀ keep : Bool, ∃ t q, exec (if keep then .keep p h else .unkeep p h) s = .next t ∧
      t.cab.stationSlot i = ⟨(s.cab.stationSlot i).gen, some q⟩ ∧ q.kept.get p = keep ∧
      q.kept.get p.other = r.kept.get p.other ∧ { q with kept := r.kept } = r ∧
      (∀ j, j ≠ i → t.cab.stationSlot j = s.cab.stationSlot j) ∧ t.answer p = some ⟨.done, []⟩ ∧
      t.cab.ports.events = s.cab.ports.events ∧ KeptPorts p s t ∧ KeptOutside s t ∧
      t.cab.dir = s.cab.dir ∧ t.cab.mix = s.cab.mix ∧ t.cab.builder = s.cab.builder ∧ t.cab.alloc = s.cab.alloc ∧
      t.cab.queue = s.cab.queue ∧ t.cab.calls = s.cab.calls ∧
      { t.cab.table with slots := s.cab.table.slots } = s.cab.table) ∧
  (∀ (h : Option Handle) (i : Fin 40) (priority : Int) (s : State), s.Running → NoDeferrals s.cab →
    (∀ a, h = some a → finOf? 40 a.slot = some i ∧ (stationOf s.cab i a).isSome = true) →
    ∃ t, exec (.setTrafficWatch .front h priority) s = .next t ∧
      t.answer .front = some ⟨if 0 ≤ priority ∧ priority ≤ 7 then .done else .clamped, []⟩ ∧
      (h = none → t.cab.table.watch = none) ∧
      (h ≠ none → ∃ w, t.cab.table.watch = some w ∧ w.station = s.cab.stationId i ∧
        (w.priority : Int) = max 0 (min 7 priority)) ∧
      (∀ j r, (s.cab.stationSlot j).record = some r → t.cab.stationSlot j = ⟨(s.cab.stationSlot j).gen,
        some { r with watched :=
          if h ≠ none ∧ j = i then true
          else if s.cab.table.watch.map (·.station) = some (s.cab.stationId j) then false else r.watched }⟩) ∧
      (∀ j, (s.cab.stationSlot j).record = none → t.cab.stationSlot j = s.cab.stationSlot j) ∧
      t.cab.dir.zones = s.cab.dir.zones ∧ (∀ l k, SameRoute (t.cab.route l k) (s.cab.route l k)) ∧
      t.cab.dir.rearControl = s.cab.dir.rearControl ∧ t.cab.dir.media = s.cab.dir.media ∧
      t.cab.table.cursor = s.cab.table.cursor ∧ KeptAround .front s t ∧ CarriesTheWinners s t ∧
      (s.cab.table.watch.map (·.station) ≠ t.cab.table.watch.map (·.station) → PrioritiesFit s.cab →
        RaisesBulletins s t)) ∧
  (∀ (c : Cabin) (i : Fin 40) (r : Station), (c.stationSlot i).record = some r →
    let carries : Bool := decide ((c.chan .pc0).station = some (c.stationId i) ∨
      (c.chan .pc1).station = some (c.stationId i))
    let flag (b : Option Bool) : Nat := match b with | some true => 1 | some false => 0 | none => 2
    stationWords c i r = [
      BitVec.ofNat 16 ((c.stationSlot i).gen.val * 4096 + i.val),
      (match r.state with | .candidate => 0 | .listed => 1 | .lost => 2),
      (match r.freq.band with | .fm => 0 | .mw => 1), BitVec.ofNat 16 r.freq.chan, BitVec.ofNat 16 r.quality,
      BitVec.ofNat 16 (r.identity.getD 0), BitVec.ofNat 16 (r.deferred.getD 0)] ++
    ((List.finRange 4).map fun k => match r.name.get k with
      | none => 0 | some (a, b) => BitVec.ofNat 16 (a.toNat * 256 + b.toNat)) ++
    [BitVec.ofNat 16 (flag r.tp + 4 * flag r.ta), BitVec.ofNat 16 r.alternates.length] ++
    ((List.range 6).flatMap fun k => match r.alternates[k]? with
      | none => [65535, 65535]
      | some a => [BitVec.ofNat 16 a.chan, (a.quality.map (BitVec.ofNat 16)).getD 65535]) ++
    [BitVec.ofNat 16 r.miss,
     BitVec.ofNat 16 (r.received.toNat + 2 * r.isNew.toNat + 4 * r.kept.front.toNat + 8 * r.kept.rear.toNat +
      16 * r.watched.toNat + 32 * (decide (r.origin = .added)).toNat +
      64 * (decide (0 < r.refs) || r.kept.front || r.kept.rear || r.watched || carries).toNat + 128 * carries.toNat +
      256 * (r.name.get 0).isSome.toNat + 512 * (r.name.get 1).isSome.toNat + 1024 * (r.name.get 2).isSome.toNat +
      2048 * (r.name.get 3).isSome.toNat),
     BitVec.ofNat 16 r.refs])

/-- 04 R80, R57, R58: Add Station finds the record of the frequency, or creates one in the lowest-numbered free slot, or
is refused FULL. 04 R81, R60: Retire Station frees the slot of a record that is not held, and is refused for one that
is. The response word that says whether the record was created, 1 or 0, is the model's choice (log 12, DESIGN
CHOICE). -/
def Obligations.AddAndRetireStation : Prop :=
  (∀ (p : Port) (band : Nat) (b : Band) (channel : Int) (f : Freq) (s : State), s.Running → band? band = some b →
    f.band = b → (f.chan : Int) = max 0 (min (if b = .fm then 410 else 119) channel) →
    let result := if (f.chan : Int) = channel then Result.done else Result.clamped
    (∀ i, stationAtFreq s.cab f = some i →
      exec (.addStation p band channel) s =
        .next (s.onCab (respond p result [stationWord (s.cab.stationId i), 0]))) ∧
    (stationAtFreq s.cab f = none → freeStationSlot s.cab = none →
      exec (.addStation p band channel) s = .next (s.onCab (respond p .full []))) ∧
    (∀ i, stationAtFreq s.cab f = none → freeStationSlot s.cab = some i →
      ∃ t r, exec (.addStation p band channel) s = .next t ∧
        t.answer p = some ⟨result, [stationWord ⟨i, (s.cab.stationSlot i).gen⟩, 1]⟩ ∧
        t.cab.stationSlot i = ⟨(s.cab.stationSlot i).gen, some r⟩ ∧ r.state = .listed ∧ r.freq = f ∧ r.quality = 0 ∧
        r.identity = none ∧ r.deferred = none ∧ (∀ n, r.name.get n = none) ∧ r.tp = none ∧ r.ta = none ∧
        r.alternates = [] ∧ r.miss = 0 ∧ r.received = false ∧ r.isNew = true ∧ r.refs = 0 ∧
        (∀ q, r.kept.get q = false) ∧ r.watched = false ∧ r.origin = .added ∧
        t.shows .front .stations ∧ t.shows .rear .stations ∧
        (∀ j, (s.cab.stationSlot j).record = none → i ≤ j) ∧
        (∀ j, j ≠ i → t.cab.stationSlot j = s.cab.stationSlot j) ∧ KeptPorts p s t ∧ KeptEvents s t ∧ KeptOutside s t ∧
        t.cab.dir = s.cab.dir ∧ t.cab.mix = s.cab.mix ∧ t.cab.builder = s.cab.builder ∧ t.cab.alloc = s.cab.alloc ∧
        t.cab.queue = s.cab.queue ∧ t.cab.calls = s.cab.calls ∧
        { t.cab.table with slots := s.cab.table.slots } = s.cab.table)) ∧
  (∀ (h : Handle) (i : Fin 40) (r : Station) (s : State), s.Running → finOf? 40 h.slot = some i →
    stationOf s.cab i h = some r →
    let isHeld := 0 < r.refs ∨ r.kept.front = true ∨ r.kept.rear = true ∨ r.watched = true ∨
      (s.cab.chan .pc0).station = some (s.cab.stationId i) ∨ (s.cab.chan .pc1).station = some (s.cab.stationId i)
    (isHeld → exec (.retireStation .front h) s = .next (s.onCab (respond .front .wrongState []))) ∧
    (¬ isHeld → ∃ t, exec (.retireStation .front h) s = .next t ∧ t.answer .front = some ⟨.done, []⟩ ∧
      t.cab.stationSlot i = ⟨(s.cab.stationSlot i).gen + 1, none⟩ ∧
      (∀ j, j ≠ i → t.cab.stationSlot j = s.cab.stationSlot j) ∧ t.shows .front .stations ∧ t.shows .rear .stations ∧
      (∀ g, g ∈ t.cab.queue.ignored ↔ g ∈ s.cab.queue.ignored ∧ g ≠ s.cab.stationId i) ∧
      { t.cab.queue with ignored := s.cab.queue.ignored } = s.cab.queue ∧ KeptPorts .front s t ∧ KeptEvents s t ∧
      KeptOutside s t ∧ t.cab.dir = s.cab.dir ∧ t.cab.mix = s.cab.mix ∧ t.cab.builder = s.cab.builder ∧
      t.cab.alloc = s.cab.alloc ∧ t.cab.calls = s.cab.calls ∧
      { t.cab.table with slots := s.cab.table.slots } = s.cab.table))

/-- 04 R83: Walk Stations returns, in order, the first live records after the port's cursor, and moves the cursor. -/
def Obligations.WalkStationsReturnsTheNextRecords : Prop :=
  ∀ (p : Port) (count : Int) (mode : Nat) (fromStart : Bool) (s : State), s.Running → firstOfTwo? mode = some fromStart →
    ∃ t found, ∃ (n : Nat) (start : Option Freq), exec (.walkStations p count mode) s = .next t ∧
      (n : Int) = max 1 (min 4 count) ∧ start = (if fromStart then none else s.cab.table.cursor.get p) ∧
      t.answer p = some ⟨if (n : Int) = count then .done else .clamped, walkWords s.cab n found⟩ ∧
      found.Pairwise (fun a b => freqRank a.2.freq ≤ freqRank b.2.freq ∧ a.1 ≠ b.1) ∧
      (∀ x, x ∈ found → (s.cab.stationSlot x.1).record = some x.2 ∧ afterCursor start x.2.freq = true) ∧
      found.length = min n (countIdx fun i : Fin 40 => (s.cab.stationSlot i).record.any (afterCursor start ·.freq)) ∧
      (∀ x, x ∈ found → ∀ i r, (s.cab.stationSlot i).record = some r → (afterCursor start r.freq = true ∧
        (i, r) ∉ found) → freqRank x.2.freq ≤ freqRank r.freq) ∧
      t.cab.table.cursor.get p = (if found.length < n then none else found.getLast?.map (·.2.freq)) ∧
      t.cab.table.cursor.get p.other = s.cab.table.cursor.get p.other ∧
      { t.cab.table with cursor := s.cab.table.cursor } = s.cab.table ∧ t.cab.ports.events = s.cab.ports.events ∧
      KeptPorts p s t ∧ KeptOutside s t ∧ t.cab.dir = s.cab.dir ∧ t.cab.mix = s.cab.mix ∧
      t.cab.builder = s.cab.builder ∧ t.cab.alloc = s.cab.alloc ∧ t.cab.queue = s.cab.queue ∧ t.cab.calls = s.cab.calls

/-- 04 R64, R63: the outcome of a scanned channel that is not the last of a pass, row by row of the table; a find on MW
takes a free slot, or in a full table displaces the weakest record that may go, or is dropped (04 R69). A new record's
other fields are those of R58. That this holds within the 20 ms of a lite reset too is the model's choice (log 51, DESIGN
CHOICE). -/
def Obligations.ScanMeasurementOutcome : Prop :=
  (∀ (u : TunerId) (f : Figures) (raw : Nat) (s : State), scanTuner s.cab = some u → s.cab.table.dwell = none →
    raw = rawQuality s.cab.table.position.band (s.supply.image.antenna.get u) f →
    s.cab.table.position ≠ ⟨.mw, 119⟩ → (nextFreq s.cab.table.position).isSome = true →
    ∃ t, exec (.scanMeasurement f) s = .next t ∧ Scans s.cab raw t.cab.stationSlot t.cab.table.tableFull ∧
      (∀ i, stationAtFreq s.cab s.cab.table.position = some i → ∀ r, (s.cab.stationSlot i).record = some r →
        t.cab.table.dwell = (if 30 ≤ raw ∧ carried s.cab (s.cab.stationId i) = false ∧ r.freq.band = .fm ∧
          r.identity = none then some raw else none)) ∧
      (stationAtFreq s.cab s.cab.table.position = none →
        t.cab.table.dwell = if 30 ≤ raw ∧ s.cab.table.position.band = .fm then some raw else none) ∧
      (stationAtFreq s.cab s.cab.table.position = none → 30 ≤ raw → s.cab.table.position.band = .mw →
        s.cab.ports.part.posts = true → (∃ i, t.cab.stationSlot i ≠ s.cab.stationSlot i) →
        t.shows .front .stations ∧ t.shows .rear .stations) ∧
      (t.cab.table.dwell ≠ none → t.cab.table.position = s.cab.table.position) ∧
      (t.cab.table.dwell = none → some t.cab.table.position = nextFreq s.cab.table.position) ∧
      t.cab.dir = s.cab.dir ∧ t.cab.mix = s.cab.mix ∧ t.cab.builder = s.cab.builder ∧
      (∀ x, t.cab.chan x = s.cab.chan x) ∧ t.cab.queue.slots = s.cab.queue.slots ∧ t.cab.calls = s.cab.calls ∧
      KeptEvents s t ∧ KeptOutside s t) ∧
  (∀ (c : Cabin) (f : Freq), stationAtFreq c f = none ↔
    ∀ i r, (c.stationSlot i).record = some r → r.freq ≠ f) ∧
  (∀ (f : Freq) (quality : Nat) (st : StationState) (o : Origin) (code : Option Nat),
    newStation f quality st o code = {
      state := st, freq := f, quality := quality, identity := code, deferred := none,
      name := Tab.fill 4 none, tp := none, ta := none, alternates := [], miss := 0, received := false, isNew := true,
      refs := 0, kept := ⟨false, false⟩, watched := false, origin := o })

/-- 04 R68, R63: the end of a completed pass, row by row of the table, after the outcome of its last channel, whatever
that is (R64, R69). 04 R65, R64, R69: a dwell that ends after 200 ms with no identity accepted; and one that an accepted
identity ends where no live record has the scanned frequency: it joins the alternates of the record of that identity,
which is marked received, or a new CANDIDATE has it. That a dwell time-out with no dwell changes nothing is the model's
reading (log 4, DEDUCED); that the scan goes on within the 20 ms of a lite reset is its choice (log 51, DESIGN
CHOICE). -/
def Obligations.PassEndAndDwellEnd : Prop :=
  (∀ (u : TunerId) (f : Figures) (raw : Nat) (s : State), scanTuner s.cab = some u → s.cab.table.dwell = none →
    s.cab.table.position = ⟨.mw, 119⟩ → raw = rawQuality .mw (s.supply.image.antenna.get u) f →
    ∃ t mid full, exec (.scanMeasurement f) s = .next t ∧ Scans s.cab raw mid full ∧
      Ages s.cab mid t.cab.stationSlot ∧ t.cab.table.position = ⟨.fm, 0⟩ ∧ t.cab.table.tableFull = false ∧
      t.cab.table.dwell = none ∧
      (s.cab.ports.part.posts = true →
        (∃ i, (t.cab.stationSlot i).gen ≠ (s.cab.stationSlot i).gen ∨
          (t.cab.stationSlot i).record.isSome ≠ (s.cab.stationSlot i).record.isSome) →
        t.shows .front .stations ∧ t.shows .rear .stations) ∧
      t.cab.dir = s.cab.dir ∧ t.cab.mix = s.cab.mix ∧ t.cab.builder = s.cab.builder ∧
      (∀ x, t.cab.chan x = s.cab.chan x) ∧ t.cab.queue.slots = s.cab.queue.slots ∧ t.cab.calls = s.cab.calls ∧
      KeptEvents s t ∧ KeptOutside s t) ∧
  (∀ (raw : Nat) (s : State), s.cab.table.dwell = some raw → NoDeferrals s.cab → s.cab.table.position.band = .fm →
    ∃ t, exec .dwellTimeout s = .next t ∧ t.cab.table.dwell = none ∧
      some t.cab.table.position = nextFreq s.cab.table.position ∧
      (∀ i, stationAtFreq s.cab s.cab.table.position = some i → t.cab.table.slots = s.cab.table.slots) ∧
      (stationAtFreq s.cab s.cab.table.position = none →
        Creates s.cab (newStation s.cab.table.position raw .candidate .scan none)
          t.cab.stationSlot t.cab.table.tableFull) ∧
      (s.cab.ports.part.posts = true → (∃ i, t.cab.stationSlot i ≠ s.cab.stationSlot i) →
        t.shows .front .stations ∧ t.shows .rear .stations) ∧
      t.cab.dir.zones = s.cab.dir.zones ∧ (∀ l k, SameRoute (t.cab.route l k) (s.cab.route l k)) ∧
      KeptOutside s t ∧ KeptCalls s t ∧ KeptEvents s t ∧ KeptPlans s t) ∧
  (∀ (u : TunerId) (g : DataGroup) (raw : Nat) (s : State), g.ok = true → g.code ≠ 0 →
    decoding s.cab u = .dwelling → ((s.cab.tuner u).acc.run.map (·.1)) = some g.code →
    (s.cab.tuner u).acc.accepted ≠ some g.code → s.cab.table.dwell = some raw → s.cab.table.position.band = .fm →
    NoDeferrals s.cab → stationAtFreq s.cab s.cab.table.position = none →
    ∃ t, exec (.dataGroup u g) s = .next t ∧ t.cab.table.dwell = none ∧
      some t.cab.table.position = nextFreq s.cab.table.position ∧
      (∀ j r, (s.cab.stationSlot j).record = some r → r.identity = some g.code →
        (∀ i q, (s.cab.stationSlot i).record = some q → q.identity = some g.code → i = j) →
        t.cab.stationSlot j = ⟨(s.cab.stationSlot j).gen, some { r with
          alternates := joinAlt r.freq.chan s.cab.table.position.chan (some raw) r.alternates,
          received := true }⟩ ∧
        (∀ i, i ≠ j → t.cab.stationSlot i = s.cab.stationSlot i) ∧
        t.cab.table.tableFull = s.cab.table.tableFull) ∧
      ((∀ i q, (s.cab.stationSlot i).record = some q → q.identity ≠ some g.code) →
        Creates s.cab (newStation s.cab.table.position raw .candidate .scan (some g.code))
          t.cab.stationSlot t.cab.table.tableFull ∧
        (s.cab.ports.part.posts = true → (∃ i, t.cab.stationSlot i ≠ s.cab.stationSlot i) →
          t.shows .front .stations ∧ t.shows .rear .stations)) ∧
      t.cab.dir.zones = s.cab.dir.zones ∧ (∀ l k, SameRoute (t.cab.route l k) (s.cab.route l k)) ∧
      KeptOutside s t ∧ KeptCalls s t ∧ KeptEvents s t ∧ KeptPlans s t) ∧
  (∀ s : State, s.cab.table.dwell = none → exec .dwellTimeout s = .next s)

/-- 04 R71 to R75: data groups on a tuner that serves or supports a channel: those discarded, and what a name, the
alternates, the traffic flags and a first or another identity do to the record once the spec's two receipts have been
made. 04 R62: how a frequency joins the alternates and where it is placed. 06 R116, R117: accepted flags by which the
traffic condition comes to hold raise a bulletin, and a clear announcement flag ends it. That a TRAFFIC entry stays
where an identity change makes the flags absent is log 31, and that an unmeasured newcomer is placed behind the other
unmeasured alternates, and a full list loses its last one, log 30 (both DEDUCED); that a group whose content is
discarded leaves the name and traffic runs as they are is the model's choice (log 52, DESIGN CHOICE). -/
def Obligations.DataGroupsReachTheRecord : Prop :=
  (∀ (u : TunerId) (g : DataGroup) (s : State), (g.ok = false ∨ g.code = 0 ∨ decoding s.cab u = .off) →
    exec (.dataGroup u g) s = .next s) ∧
  (∀ (u : TunerId) (x : Chan) (h : StationId) (r : Station) (g : DataGroup) (s : State),
    g.ok = true → g.code ≠ 0 → decoding s.cab u = .onChan x → (s.cab.chan x).station = some h →
    (s.cab.stationSlot h.slot).gen = h.gen → (s.cab.stationSlot h.slot).record = some r →
    NoDeferrals s.cab → Settled s.cab →
    ∃ t, exec (.dataGroup u g) s = .next t ∧
      (∀ seg a b, g.content = .name seg a b → (s.cab.tuner u).acc.accepted = some g.code → r.identity = some g.code →
        KeptButStations s t ∧ (t.cab.tuner u).acc.segments.get seg = some (a, b) ∧
        t.cab.stationSlot h.slot = ⟨h.gen, some (if (s.cab.tuner u).acc.segments.get seg = some (a, b) then
          { r with name := r.name.set seg (some (a, b)) } else r)⟩ ∧
        ∀ j, j ≠ h.slot → t.cab.stationSlot j = s.cab.stationSlot j) ∧
      (∀ f1 f2, g.content = .alts f1 f2 → (s.cab.tuner u).acc.accepted = some g.code → r.identity = some g.code →
        KeptButStations s t ∧ t.cab.stationSlot h.slot = ⟨h.gen, some (takeAlt f2 (takeAlt f1 r))⟩ ∧
        ∀ j, j ≠ h.slot → t.cab.stationSlot j = s.cab.stationSlot j) ∧
      (∀ tp ta, g.content = .ident tp ta → (s.cab.tuner u).acc.accepted = some g.code → r.identity = some g.code →
        t.cab.stationSlot h.slot = ⟨h.gen, some (if ((s.cab.tuner u).acc.traffic.map (·.1)) = some (tp, ta) then
          { r with tp := some tp, ta := some ta } else r)⟩ ∧
        ∀ j, j ≠ h.slot → t.cab.stationSlot j = s.cab.stationSlot j) ∧
      (∀ k : Fin 8, g.content = .ident true true → (s.cab.tuner u).acc.accepted = some g.code →
        r.identity = some g.code → ((s.cab.tuner u).acc.traffic.map (·.1)) = some (true, true) → r.freq.band = .fm →
        chanOf s.cab h = some x → h ∉ s.cab.queue.ignored → trafficEntry s.cab h = none →
        (∃ z, (trafficTargets s.cab h).get z = true) → (s.cab.entrySlot k).entry = none →
        (∀ j, j < k → (s.cab.entrySlot j).entry ≠ none) →
        t.cab.entrySlot k = ⟨(s.cab.entrySlot k).gen, some {
          kind := .traffic h x, priority := 3,
          targets := trafficTargets s.cab h, order := s.cab.queue.order, timeLeft := 300000 }⟩ ∧
        (∀ j, j ≠ k → t.cab.entrySlot j = s.cab.entrySlot j) ∧
        (s.cab.ports.part.posts = true → t.shows .front .traffic ∧ t.shows .rear .traffic)) ∧
      (∀ tp i e, g.content = .ident tp false → (s.cab.tuner u).acc.accepted = some g.code →
        r.identity = some g.code → ((s.cab.tuner u).acc.traffic.map (·.1)) = some (tp, false) →
        h ∉ t.cab.queue.ignored ∧
        (trafficEntry s.cab h = some i → (s.cab.entrySlot i).entry = some e → TrafficSettled s.cab →
          t.cab.entrySlot i = ⟨(s.cab.entrySlot i).gen + 1, none⟩ ∧
          (∀ j, j ≠ i → t.cab.entrySlot j = s.cab.entrySlot j) ∧
          t.cab.queue.ends.getLast? = some ⟨s.cab.entryId i, e.kind, .cleared, s.cab.queue.endNumber⟩ ∧
          (s.cab.ports.part.posts = true → t.shows .front .announce ∧ t.shows .front .traffic ∧
            t.shows .rear .traffic))) ∧
      ((s.cab.tuner u).acc.accepted ≠ some g.code → ((s.cab.tuner u).acc.run.map (·.1)) ≠ some g.code →
        KeptButStations s t ∧ t.cab.table.slots = s.cab.table.slots ∧
        (t.cab.tuner u).acc = { (s.cab.tuner u).acc with run := some (g.code, false) }) ∧
      (((s.cab.tuner u).acc.run.map (·.1)) = some g.code → (s.cab.tuner u).acc.accepted ≠ some g.code →
        r.identity = none → otherWithIdentity s.cab h.slot g.code = none → (∀ tp ta, g.content ≠ .ident tp ta) →
        KeptEvents s t ∧ (t.cab.tuner u).acc.accepted = some g.code ∧
        (t.cab.stationSlot h.slot).gen = h.gen ∧
        (∃ q, (t.cab.stationSlot h.slot).record = some q ∧ q.identity = some g.code ∧ q.tp = r.tp ∧ q.ta = r.ta) ∧
        (s.cab.ports.part.posts = true → t.shows .front .stations ∧ t.shows .rear .stations) ∧
        ∀ j, j ≠ h.slot → t.cab.stationSlot j = s.cab.stationSlot j) ∧
      (((s.cab.tuner u).acc.run.map (·.1)) = some g.code → (s.cab.tuner u).acc.accepted ≠ some g.code →
        r.identity ≠ some g.code → otherWithIdentity s.cab h.slot g.code = none →
        (t.cab.tuner u).acc.accepted = some g.code ∧
        (∃ new, new = (if r.identity = none then { r with identity := some g.code }
            else { r with identity := some g.code, name := Tab.fill 4 none, tp := none, ta := none, alternates := [] }) ∧
          t.cab.stationSlot h.slot = ⟨h.gen, some (match g.content with
            | .alts f1 f2 => takeAlt f2 (takeAlt f1 new)
            | _ => new)⟩) ∧
        (r.identity ≠ none → ∀ a, a ∈ t.cab.queue.ignored ↔ a ∈ s.cab.queue.ignored ∧ a ≠ h) ∧
        (r.identity = none → t.cab.queue.ignored = s.cab.queue.ignored) ∧
        t.cab.queue.slots = s.cab.queue.slots ∧ (∀ y, t.cab.chan y = s.cab.chan y) ∧
        (∀ l k, SameRoute (t.cab.route l k) (s.cab.route l k)) ∧ t.cab.calls = s.cab.calls ∧
        KeptEvents s t ∧ KeptPlans s t ∧ KeptLevels s t ∧ KeptOutside s t ∧
        (s.cab.ports.part.posts = true → t.shows .front .stations ∧ t.shows .rear .stations) ∧
        ∀ j, j ≠ h.slot → t.cab.stationSlot j = s.cab.stationSlot j)) ∧
  (∀ (r : Station) (n : Nat), takeAlt none r = r ∧ (410 < n → takeAlt (some n) r = r) ∧
    (n ≤ 410 → takeAlt (some n) r = { r with alternates := joinAlt r.freq.chan n none r.alternates })) ∧
  (∀ (own ch : Nat) (q : Option Nat) (l : List Alternate),
    (ch = own ∨ (q = none ∧ ch ∈ l.map (·.chan)) → joinAlt own ch q l = l) ∧
    (ch ≠ own → (q = none → ch ∉ l.map (·.chan)) →
      ∃ front back, front ++ back = (if ch ∈ l.map (·.chan) then l.filter (·.chan ≠ ch)
          else if 6 ≤ l.length then l.dropLast else l) ∧
        joinAlt own ch q l = front ++ ⟨ch, q⟩ :: back ∧
        (∀ x ∈ front, ∀ v, q = some v → ∃ w, x.quality = some w ∧ v ≤ w) ∧
        ∀ x ∈ back.head?, ∃ v, q = some v ∧ ∀ w, x.quality = some w → w < v))

/-- 04 R76, R77, R78, R65, 06 R116, R117: the merge of the record of slot `b` into the record of slot `a`, and when an
accepted identity brings it about; and the three commands that do: a data group on a carried station, one that ends a
dwell, and one that ends a deferral (here Release Hold, whose arbitration leaves one of the two records uncarried).
That, with B carried, B's frequency leaves A's alternates before A's old frequency is placed among them is the model's
reading (log 14, DEDUCED); that a dwell goes on within the 20 ms of a lite reset is its choice (log 51, DESIGN CHOICE).
The events that a merge adds are stated where the priorities of the entries are those of R105. -/
def Obligations.IdentityMergeJoinsTwoRecords : Prop :=
  (∀ (b a : Fin 40) (code : Nat) (rb : Station) (c : Cabin), (c.stationSlot b).record = some rb →
    rb.identity ≠ some code → otherWithIdentity c b code = some a →
    (carried c (c.stationId b) = true → carried c (c.stationId a) = true →
      applyIdentity b code c = setStationSlot b ⟨(c.stationSlot b).gen, some { rb with deferred := some code }⟩ c) ∧
    ((carried c (c.stationId b) && carried c (c.stationId a)) = false → applyIdentity b code c = mergeInto b a c)) ∧
  (∀ (b a : Fin 40) (rb ra : Station) (c : Cabin), a ≠ b → (c.stationSlot b).record = some rb →
    (c.stationSlot a).record = some ra → rb.freq.band = .fm → ra.freq.band = .fm → ra.freq ≠ rb.freq →
    RoutesDiffer c → AlternatesFit c → RolesFit c →
    (mergeInto b a c).stationSlot b = ⟨(c.stationSlot b).gen + 1, none⟩ ∧
    (∀ i, i ≠ a → i ≠ b → (mergeInto b a c).stationSlot i = c.stationSlot i) ∧
    (∃ v, (mergeInto b a c).stationSlot a = ⟨(c.stationSlot a).gen, some v⟩ ∧ v.refs = ra.refs + rb.refs ∧
      (∀ p, v.kept.get p = (ra.kept.get p || rb.kept.get p)) ∧ v.watched = (ra.watched || rb.watched) ∧
      v.miss = min ra.miss rb.miss ∧ v.received = (ra.received || rb.received) ∧
      v.state = (if rb.state = .listed then .listed else ra.state) ∧
      v.identity = ra.identity ∧ v.name = ra.name ∧ v.tp = ra.tp ∧ v.ta = ra.ta ∧ v.origin = ra.origin ∧
      (carried c (c.stationId b) = false → v.freq = ra.freq ∧ v.quality = ra.quality ∧
        ⟨rb.freq.chan, some rb.quality⟩ ∈ v.alternates ∧
        (∀ e ∈ v.alternates, e.chan = rb.freq.chan ∨ e ∈ ra.alternates) ∧
        (∀ e ∈ ra.alternates, e.chan = rb.freq.chan ∨ e ∈ v.alternates ∨
          (ra.alternates.length = 6 ∧ rb.freq.chan ∉ ra.alternates.map (·.chan) ∧ ra.alternates.getLast? = some e))) ∧
      (carried c (c.stationId b) = true → v.freq = rb.freq ∧ v.quality = rb.quality ∧
        ⟨ra.freq.chan, some ra.quality⟩ ∈ v.alternates ∧ rb.freq.chan ∉ v.alternates.map (·.chan) ∧
        (∀ e ∈ v.alternates, e.chan = ra.freq.chan ∨ e ∈ ra.alternates) ∧
        (∀ e ∈ ra.alternates, e.chan = rb.freq.chan ∨ e ∈ v.alternates ∨
          (ra.alternates.length = 6 ∧ rb.freq.chan ∉ ra.alternates.map (·.chan) ∧ ra.alternates.getLast? = some e)))) ∧
    (∀ (x : Chan), ((mergeInto b a c).chan x).station =
      (if (c.chan x).station = some (c.stationId b) then some (c.stationId a) else (c.chan x).station) ∧
      ((mergeInto b a c).chan x).serving = (c.chan x).serving ∧
      ((mergeInto b a c).chan x).retuning = (c.chan x).retuning ∧
      ((mergeInto b a c).chan x).quality = (c.chan x).quality) ∧
    ((∀ x, (c.chan x).follow = none) → ∀ u, (mergeInto b a c).tuner u = c.tuner u) ∧
    (∀ (l : Fin 8) (k : Fin 6) (r : RouteRecord), (c.route l k).record = some r → r.source = .station (c.stationId b) →
      (mergeInto b a c).route l k = ⟨(c.route l k).gen, some { r with
        source := .station (c.stationId a),
        altered := true,
        present := r.present && !listNames c l (.station (c.stationId a)) }⟩ ∧
      (c.ports.part.posts = true → EventSet.has ((mergeInto b a c).ports.events.get r.owner) .route = true) ∧
      ∀ z, (c.zone z).list = some l → (mergeInto b a c).builder.stale.get z = true) ∧
    (∀ (l : Fin 8) (k : Fin 6), (c.route l k).record.map (·.source) ≠ some (.station (c.stationId b)) →
      (mergeInto b a c).route l k = c.route l k) ∧
    (∀ (z : Zone) (l : Fin 8), (c.zone z).list = some l → carried c (c.stationId b) = true →
      listNames (mergeInto b a c) l (.station (c.stationId a)) = true → (mergeInto b a c).builder.stale.get z = true) ∧
    (mergeInto b a c).table.watch = c.table.watch.map (fun w =>
      if w.station = c.stationId b then { w with station := c.stationId a } else w) ∧
    (∀ h, h ∈ (mergeInto b a c).queue.ignored ↔ (h ≠ c.stationId b ∧ h ∈ c.queue.ignored) ∨
      (h = c.stationId a ∧ c.stationId b ∈ c.queue.ignored)) ∧
    (∀ (j : Fin 8) (e : Entry), (c.entrySlot j).entry = some e →
      (∀ n, e.kind = .traffic (c.stationId b) n → carried c (c.stationId b) = true →
        (∀ i f, (c.entrySlot i).entry = some f → i ≠ j →
          ∀ h m, f.kind = .traffic h m → h ≠ c.stationId a ∧ h ≠ c.stationId b) →
        (mergeInto b a c).entrySlot j = ⟨(c.entrySlot j).gen, some { e with
          kind := .traffic (c.stationId a) n, targets := trafficTargets (mergeInto b a c) (c.stationId a) }⟩) ∧
      ((∀ h m, e.kind = .traffic h m → h ≠ c.stationId a ∧ h ≠ c.stationId b) →
        ((trafficEntry c (c.stationId a)).isSome = true ∨ (trafficEntry c (c.stationId b)).isSome = true ∨
          trafficCondition (mergeInto b a c) (c.stationId a) = false) →
        (mergeInto b a c).entrySlot j = c.entrySlot j)) ∧
    (PrioritiesFit c → (carried c (c.stationId b) = true ∨ c.table.watch.map (·.station) = some (c.stationId b) ∨
        ∃ l k r, (c.route l k).record = some r ∧ r.source = .station (c.stationId b)) →
      carried (mergeInto b a c) (c.stationId a) = true →
      trafficCondition (mergeInto b a c) (c.stationId a) = true →
      (trafficEntry (mergeInto b a c) (c.stationId a)).isSome = true ∨
        ∀ i, ∃ e, ((mergeInto b a c).entrySlot i).entry = some e ∧ 3 ≤ e.priority) ∧
    (PrioritiesFit c → ∀ (p : Port) (k : EventKind), EventSet.has ((mergeInto b a c).ports.events.get p) k = true →
      EventSet.has (c.ports.events.get p) k = true ∨ k = .stations ∨ k = .route ∨ k = .traffic ∨ k = .announce) ∧
    (c.ports.part.posts = true → ∀ p, EventSet.has ((mergeInto b a c).ports.events.get p) .stations = true) ∧
    (mergeInto b a c).dir.zones = c.dir.zones ∧ (mergeInto b a c).mix.channels = c.mix.channels ∧
    (∀ z, ((mergeInto b a c).mixZone z).recorded = (c.mixZone z).recorded ∧
      ((mergeInto b a c).mixZone z).routes = (c.mixZone z).routes ∧
      ((mergeInto b a c).mixZone z).leaving = (c.mixZone z).leaving) ∧
    (mergeInto b a c).calls.canceller = c.calls.canceller ∧
    (∀ i, ((mergeInto b a c).callSlot i).gen = (c.callSlot i).gen ∧
      ((mergeInto b a c).callSlot i).record.map (fun r => { r with tone := none, ringUnplayed := false }) =
      (c.callSlot i).record.map (fun r => { r with tone := none, ringUnplayed := false })) ∧
    (mergeInto b a c).builder.hold = c.builder.hold) ∧
  (∀ (u : TunerId) (x : Chan) (h : StationId) (a : Fin 40) (rb : Station) (g : DataGroup) (s : State),
    g.ok = true → g.code ≠ 0 → decoding s.cab u = .onChan x → (s.cab.chan x).station = some h →
    (s.cab.stationSlot h.slot).gen = h.gen → (s.cab.stationSlot h.slot).record = some rb → NoDeferrals s.cab →
    ((s.cab.tuner u).acc.run.map (·.1)) = some g.code → (s.cab.tuner u).acc.accepted ≠ some g.code →
    rb.identity ≠ some g.code → otherWithIdentity s.cab h.slot g.code = some a →
    (carried s.cab (s.cab.stationId a) = true → Settled s.cab → ∃ t, exec (.dataGroup u g) s = .next t ∧
      t.cab.stationSlot h.slot = ⟨h.gen, some { rb with deferred := some g.code }⟩ ∧
      (∀ j, j ≠ h.slot → t.cab.stationSlot j = s.cab.stationSlot j) ∧ (∀ y, t.cab.chan y = s.cab.chan y)) ∧
    (carried s.cab (s.cab.stationId a) = false → ∃ t m, exec (.dataGroup u g) s = .next t ∧
      m = mergeInto h.slot a (setAcceptance u (countCode g.code (s.cab.tuner u).acc) s.cab) ∧
      (∀ j, j ≠ a → t.cab.stationSlot j = m.stationSlot j) ∧
      ((∀ f1 f2, g.content ≠ .alts f1 f2) → t.cab.stationSlot a = m.stationSlot a) ∧
      (∀ l k, SameRoute (t.cab.route l k) (m.route l k)) ∧ t.cab.table.watch = m.table.watch ∧
      (s.cab.ports.part.posts = true → t.shows .front .stations ∧ t.shows .rear .stations))) ∧
  (∀ (u : TunerId) (i a : Fin 40) (rb : Station) (g : DataGroup) (s : State),
    g.ok = true → g.code ≠ 0 → decoding s.cab u = .dwelling → NoDeferrals s.cab →
    ((s.cab.tuner u).acc.run.map (·.1)) = some g.code → (s.cab.tuner u).acc.accepted ≠ some g.code →
    s.cab.table.position.band = .fm → stationAtFreq s.cab s.cab.table.position = some i →
    (s.cab.stationSlot i).record = some rb → rb.identity ≠ some g.code → otherWithIdentity s.cab i g.code = some a →
    (carried s.cab (s.cab.stationId i) && carried s.cab (s.cab.stationId a)) = false →
    ∃ t m, exec (.dataGroup u g) s = .next t ∧
      m = mergeInto i a { setAcceptance u (countCode g.code (s.cab.tuner u).acc) s.cab with
        table := { s.cab.table with dwell := none } } ∧
      (∀ j, t.cab.stationSlot j = m.stationSlot j) ∧ (∀ l k, SameRoute (t.cab.route l k) (m.route l k)) ∧
      t.cab.table.watch = m.table.watch ∧ t.cab.table.dwell = none ∧
      some t.cab.table.position = nextFreq s.cab.table.position) ∧
  (∀ (b a : Fin 40) (code : Nat) (rb : Station) (c : Cabin) (s : State), s.Running → s.cab.builder.hold ≠ .running →
    (s.cab.stationSlot b).record = some rb → rb.deferred = some code → rb.identity ≠ some code →
    (∀ i r, (s.cab.stationSlot i).record = some r → i ≠ b → r.deferred = none) →
    otherWithIdentity s.cab b code = some a → c = arbitrate (markAllStale (setHold .running s.cab)) →
    (carried c (c.stationId b) && carried c (c.stationId a)) = false →
    ∃ t m, exec (.releaseHold .front) s = .next t ∧ m = mergeInto b a c ∧
      (∀ j, t.cab.stationSlot j = m.stationSlot j) ∧ (∀ l k, SameRoute (t.cab.route l k) (m.route l k)) ∧
      t.cab.table.watch = m.table.watch ∧ t.shows .front .stations ∧ t.shows .rear .stations)

/-! ## Tuners and programme channels (05) -/

/-- 05 R86, R87, R94 to R96, 04 R67: a measurement of a tuner that serves or supports a channel. The smoothed quality is
taken; a measurement by the selected tuner is the channel's and counts for following and for diversity; a lead of more
than 5 moves the selection; and diversity is turned on where R94 gives. That the channel quality changes at once with
the selection is the model's reading (log 41, DEDUCED); that the measurement only counts, and leaves diversity on at 500
of 70 or above and the follow as it was at 200 below 25 for commands of their own, is its choice (log 3, DESIGN
CHOICE). -/
def Obligations.MeasurementOfAChannel : Prop :=
  ∀ (u : TunerId) (f : Figures) (x : Chan) (h : StationId) (r : Station) (a : TunerId) (q : Nat) (s : State),
    measuredChan s.cab u = some x → (s.cab.chan x).station = some h → s.cab.station h = some r →
    selectedTuner (s.cab.chan x) = some a →
    q = smooth (s.cab.tuner u).smoothed (rawQuality (tunedBand (s.cab.tuner u)) (s.supply.image.antenna.get u) f) →
    ∃ t lead on, exec (.measurement u f) s = .next t ∧
      lead = ((s.cab.chan x).diversity &&
        leads (if u = a.other then some q else (s.cab.tuner a.other).smoothed)
          (if u = a then some q else (s.cab.tuner a).smoothed)) ∧
      on = decide (u = a ∧ (s.cab.chan x).diversity = false ∧ (s.cab.chan x.other).station = none ∧ r.freq.band = .fm ∧
        (s.cab.chan x).follow = none ∧ (s.cab.chan x).retuning = false ∧ q < 60) ∧
      (on = false → (t.cab.tuner u) = { s.cab.tuner u with smoothed := some q } ∧
        t.cab.tuner u.other = s.cab.tuner u.other) ∧
      (t.cab.chan x).partner = (if lead then !(s.cab.chan x).partner else (s.cab.chan x).partner && !on) ∧
      (t.cab.chan x).diversity = ((s.cab.chan x).diversity || on) ∧
      (u = a → (t.cab.chan x).measured = true ∧
        (t.cab.chan x).followCount = (if q < 25 then (s.cab.chan x).followCount + 1 else 0) ∧
        (t.cab.chan x).highRun = (if 70 ≤ q then (s.cab.chan x).highRun + 1 else 0) ∧
        t.cab.stationSlot h.slot = ⟨h.gen, some { r with quality := q, received := r.received || decide (30 ≤ q) }⟩) ∧
      (u ≠ a → (t.cab.chan x).measured = (s.cab.chan x).measured ∧ t.cab.table.slots = s.cab.table.slots ∧
        (t.cab.chan x).followCount = (s.cab.chan x).followCount ∧ (t.cab.chan x).highRun = (s.cab.chan x).highRun) ∧
      (u = a → lead = false → (t.cab.chan x).quality = q) ∧
      (u ≠ a → lead = true → (t.cab.chan x).quality = q) ∧
      (u = a → lead = true → some (t.cab.chan x).quality = (s.cab.tuner u.other).smoothed) ∧
      (u ≠ a → lead = false → (t.cab.chan x).quality = (s.cab.chan x).quality) ∧
      (on = true → (s.cab.chan x.other).serving = none → s.cab.ports.part.posts = true →
        (s.cab.chan x).serving = some u → (s.cab.tuner u).role = .programme → (s.cab.tuner u.other).role ≠ .diversity →
        (t.cab.tuner u).smoothed = some q ∧ (t.cab.tuner u.other).role = .diversity ∧
        (t.cab.tuner u.other).tuned = some r.freq ∧ (t.cab.tuner u.other).tuning = true ∧
        (t.cab.tuner u.other).smoothed = none ∧ (t.cab.tuner u.other).acc = emptyAcceptance) ∧
      (t.cab.chan x).station = some h ∧ (t.cab.chan x).serving = (s.cab.chan x).serving ∧
      (t.cab.chan x).retuning = (s.cab.chan x).retuning ∧ (t.cab.chan x).follow = (s.cab.chan x).follow ∧
      t.cab.chan x.other = s.cab.chan x.other ∧ (∀ j, j ≠ h.slot → t.cab.stationSlot j = s.cab.stationSlot j) ∧
      t.cab.dir = s.cab.dir ∧ t.cab.mix = s.cab.mix ∧ t.cab.builder = s.cab.builder ∧ t.cab.queue = s.cab.queue ∧
      t.cab.calls = s.cab.calls ∧ t.cab.ports = s.cab.ports ∧ t.cab.alloc.stopped = s.cab.alloc.stopped ∧
      t.cab.table.position = s.cab.table.position ∧ t.cab.table.watch = s.cab.table.watch ∧ KeptOutside s t

/-- 05 R88 to R93: the demand of a station, and the arbitration: the winners are assigned, each keeps the channel it
has, a channel that loses its station is free, its last quality standing (R87), and a channel that gains one begins a
retune and has none until it is measured (which in LOW is log 48, DEDUCED). Which channel a single winner takes while
both are free is the model's choice (log 13). In HOLD-PENDING and HOLDING, and during the 20 ms of a lite reset (log
43), the arbitration changes nothing. 06 R116, R117: a TRAFFIC entry whose station stops being carried ends, and the
traffic conditions are tested. -/
def Obligations.ArbitrationAssignsTheWinners : Prop :=
  (∀ (c : Cabin) (h : StationId),
    (demand c h = none ↔ ∀ p, ¬ DemandsAt c h p) ∧
    ∀ p, demand c h = some p ↔ DemandsAt c h p ∧ ∀ q, DemandsAt c h q → q ≤ p) ∧
  (∀ c : Cabin, c.builder.hold ≠ .running ∨ c.ports.part = .liteReset → arbitrate c = c) ∧
  (∀ c : Cabin, c.builder.hold = .running → c.ports.part ≠ .liteReset → ChannelsDiffer c → RolesFit c →
    ChannelsDiffer (arbitrate c) ∧ RolesFit (arbitrate c) ∧
    (∀ h, carried (arbitrate c) h = true → (c.station h).isSome = true ∧ (demand c h).isSome = true) ∧
    (∀ (h g : StationId) (q : Nat), carried (arbitrate c) g = false → (c.station g).isSome = true →
      demand c g = some q → carried (arbitrate c) h = true →
      ∃ p, demand c h = some p ∧ (q < p ∨ (q = p ∧ ((carried c h = true ∧ carried c g = false) ∨
        (carried c h = carried c g ∧ h.slot < g.slot))))) ∧
    (∀ (g : StationId) (x : Chan), ((arbitrate c).chan x).station = none → (c.station g).isSome = true →
      (demand c g).isSome = true → carried (arbitrate c) g = true) ∧
    (∀ (x : Chan) (h : StationId), (c.chan x).station = some h → carried (arbitrate c) h = true →
      ((arbitrate c).chan x).station = some h) ∧
    (∀ (g h : StationId) (q p : Nat), carried c g = false → carried c h = false →
      ((arbitrate c).chan .pc0).station = some h → ((arbitrate c).chan .pc1).station = some g →
      demand c h = some p → demand c g = some q → q < p ∨ (q = p ∧ h.slot < g.slot)) ∧
    (∀ (x : Chan), ((arbitrate c).chan x).station = none → (c.chan x).station ≠ none →
      ((arbitrate c).chan x).serving = none ∧ ((arbitrate c).chan x).retuning = false ∧
      ((arbitrate c).chan x).follow = none ∧ ((arbitrate c).chan x).diversity = false ∧
      ((arbitrate c).chan x).quality = (c.chan x).quality ∧ ((arbitrate c).chan x).measured = (c.chan x).measured) ∧
    (∀ (x : Chan) (h : StationId), ((arbitrate c).chan x).station = some h → (c.chan x).station ≠ some h →
      ((arbitrate c).chan x).retuning = true ∧ ((arbitrate c).chan x).measured = false ∧
      ((arbitrate c).chan x).follow = none ∧ ((arbitrate c).chan x).followCount = 0 ∧ ((arbitrate c).chan x).diversity = false ∧
      ∃ u, ((arbitrate c).chan x).serving = some u ∧ ((arbitrate c).tuner u).role = .programme ∧
        ((arbitrate c).tuner u).smoothed = none ∧ ((arbitrate c).tuner u).acc = emptyAcceptance ∧
        ((arbitrate c).tuner u).tuned = if c.alloc.stopped then none else (c.station h).map (·.freq)) ∧
    (∀ (h : StationId) (z : Zone) (l : Fin 8) (k : Fin 6) (r : RouteRecord), chanOf (arbitrate c) h ≠ chanOf c h →
      (c.zone z).list = some l → (c.route l k).record = some r → r.present = true → r.source = .station h →
      (arbitrate c).builder.stale.get z = true) ∧
    (∀ (j : Fin 8) (e : Entry) (h : StationId) (n : Chan), (c.entrySlot j).entry = some e →
      e.kind = .traffic h n → carried c h = true → carried (arbitrate c) h = false →
      ((arbitrate c).entrySlot j).gen = (c.entrySlot j).gen + 1 ∧ (c.ports.part.posts = true →
        EventSet.has ((arbitrate c).ports.events.get .front) .announce = true ∧
        ∀ p, EventSet.has ((arbitrate c).ports.events.get p) .traffic = true)) ∧
    (newAssignment c ≠ ((c.chan .pc0).station, (c.chan .pc1).station) → PrioritiesFit c → TrafficTested (arbitrate c)) ∧
    (arbitrate c).dir = c.dir ∧ (arbitrate c).table.slots = c.table.slots ∧ (arbitrate c).table.watch = c.table.watch ∧
    (arbitrate c).mix.channels = c.mix.channels ∧
    (∀ z, ((arbitrate c).mixZone z).recorded = (c.mixZone z).recorded ∧
      ((arbitrate c).mixZone z).routes = (c.mixZone z).routes ∧
      ((arbitrate c).mixZone z).leaving = (c.mixZone z).leaving) ∧ (arbitrate c).builder.hold = c.builder.hold ∧
    (arbitrate c).alloc.stopped = c.alloc.stopped)

/-- 05 R93 to R95: the end of a retune, of the tuning of the DIVERSITY tuner, and of diversity by its 5 s condition,
where the selected tuner takes the channel and its output with it. That each changes nothing out of its place, and
DIVERSITY_OFF before its count, is the model's reading (log 4, DEDUCED; log 3, DESIGN CHOICE). -/
def Obligations.RetuneAndDiversityEnd : Prop :=
  (∀ (x : Chan) (s : State), (s.cab.chan x).retuning = true → s.cab.alloc.stopped = false →
    ∃ t, exec (.retuneComplete x) s = .next t ∧
      t.cab.chan x = { s.cab.chan x with retuning := false, followCount := 0 } ∧
      (∀ l k, SameRoute (t.cab.route l k) (s.cab.route l k)) ∧
      (∀ l k r, (t.cab.route l k).record = some r → r.state = routeState t.cab l r) ∧
      (s.cab.ports.part.posts = true → ∀ l k a, (s.cab.route l k).record = some a →
        ∀ b, (t.cab.route l k).record = some b → a.state ≠ b.state → t.shows b.owner .route) ∧
      t.cab.chan x.other = s.cab.chan x.other ∧ (∀ u, t.cab.tuner u = s.cab.tuner u) ∧ t.cab.table = s.cab.table ∧
      t.cab.dir.zones = s.cab.dir.zones ∧ t.cab.dir.media = s.cab.dir.media ∧
      t.cab.dir.rearControl = s.cab.dir.rearControl ∧ t.cab.queue = s.cab.queue ∧ t.cab.calls = s.cab.calls ∧
      t.cab.mix.channels = s.cab.mix.channels ∧ t.cab.ports.part = s.cab.ports.part ∧
      t.cab.ports.relay = s.cab.ports.relay ∧ t.cab.ports.response = s.cab.ports.response ∧
      KeptEvents s t ∧ KeptPlans s t ∧ KeptLevels s t ∧ KeptOutside s t) ∧
  (∀ (x : Chan) (s : State), ((s.cab.chan x).retuning = false ∨ s.cab.alloc.stopped = true) →
    exec (.retuneComplete x) s = .next s) ∧
  (∀ s : State, ∃ t, exec .diversityTuneComplete s = .next t ∧
    (∀ u, t.cab.tuner u = { s.cab.tuner u with tuning := false }) ∧
    t = s.onCab fun c => { c with alloc := { c.alloc with tuners := t.cab.alloc.tuners } }) ∧
  (∀ (x : Chan) (s : State), (s.cab.chan x).diversity = true → 500 ≤ (s.cab.chan x).highRun →
    ∃ t, exec (.diversityOff x) s = .next t ∧
      t.cab.chan x = { s.cab.chan x with diversity := false, partner := false,
                                         serving := selectedTuner (s.cab.chan x) } ∧
      t.cab.chan x.other = s.cab.chan x.other ∧
      (∀ a, selectedTuner (s.cab.chan x) = some a → (t.cab.tuner a).role = .programme ∧
        (t.cab.tuner a).tuned = (s.cab.tuner a).tuned ∧ (t.cab.tuner a).smoothed = (s.cab.tuner a).smoothed ∧
        ((s.cab.chan x.other).serving = none → (s.cab.chan x).follow = none → s.cab.ports.part.posts = true →
          s.cab.alloc.stopped = false → (t.cab.tuner a.other).role = .scan ∧
          ((s.cab.tuner a.other).role ≠ .scan → (t.cab.tuner a.other).tuned = some s.cab.table.position ∧
            (t.cab.tuner a.other).acc = emptyAcceptance))) ∧
      t.cab.alloc.stopped = s.cab.alloc.stopped ∧ t.cab.table.slots = s.cab.table.slots ∧
      t.cab.table.position = s.cab.table.position ∧ t.cab.table.watch = s.cab.table.watch ∧
      t.cab.dir = s.cab.dir ∧ t.cab.mix = s.cab.mix ∧ t.cab.builder = s.cab.builder ∧ t.cab.queue = s.cab.queue ∧
      t.cab.calls = s.cab.calls ∧ t.cab.ports = s.cab.ports ∧ KeptOutside s t) ∧
  (∀ (x : Chan) (s : State), ((s.cab.chan x).diversity = false ∨ (s.cab.chan x).highRun < 500) →
    exec (.diversityOff x) s = .next s)

/-- 05 R96, R97, R99: a follow starts where R96 gives, with a copy of the alternates as its probe list, on the first
frequency that is not skipped: borrowed where the other tuner serves no channel, else by an excursion. That a follow
whose frequencies are all skipped fails at its start is log 18 (DEDUCED); the number that stands for the position in
the probe list, counted from 0, is the model's choice (log 12, DESIGN CHOICE); that FOLLOW_START changes nothing out of
its place or before its count is the model's reading (log 4, DEDUCED; log 3, DESIGN CHOICE). -/
def Obligations.FollowStartsOnAnAlternate : Prop :=
  (∀ (x : Chan) (h : StationId) (r : Station) (u : TunerId) (s : State),
    (s.cab.chan x).station = some h → s.cab.station h = some r → (s.cab.chan x).serving = some u →
    200 ≤ (s.cab.chan x).followCount → r.freq.band = .fm → r.alternates ≠ [] → (s.cab.chan x).follow = none →
    (s.cab.chan x).retuning = false → s.cab.alloc.stopped = false → s.cab.ports.part.posts = true →
    (s.cab.chan x.other).serving ≠ some u →
    ∃ t probes, exec (.followStart x) s = .next t ∧ probes = r.alternates.map (·.chan) ∧
      (∀ (n : Fin 6), (∃ ch, probes[n.val]? = some ch ∧ otherAtFreq s.cab h.slot ⟨.fm, ch⟩ = false ∧
          ∀ m : Fin 6, m < n → ∀ c, probes[m.val]? = some c → otherAtFreq s.cab h.slot ⟨.fm, c⟩ = true) →
        (∃ f, (t.cab.chan x).follow = some f ∧ f.probes = probes ∧ f.pos = n.val ∧ f.measured = [] ∧
          (f.borrows = true ↔ (s.cab.chan x.other).serving = none) ∧
          f.phase = (if f.borrows then .probing else .away)) ∧
        (t.cab.chan x).followCount = (s.cab.chan x).followCount ∧
        ((s.cab.chan x.other).serving = none → (t.cab.chan x).diversity = false ∧
          (t.cab.tuner u.other).role = .followCheck ∧
          (∀ ch, probes[n.val]? = some ch → (t.cab.tuner u.other).tuned = some ⟨.fm, ch⟩) ∧
          ((s.cab.tuner u).role = .programme → t.cab.tuner u = s.cab.tuner u) ∧ t.cab.dir = s.cab.dir ∧
          t.cab.ports = s.cab.ports) ∧
        ((s.cab.chan x.other).serving = some u.other →
          (∀ ch, probes[n.val]? = some ch → t.cab.tuner u = { s.cab.tuner u with
            tuned := some ⟨.fm, ch⟩, acc := emptyAcceptance }) ∧ t.cab.tuner u.other = s.cab.tuner u.other ∧
          (∀ l k q, (t.cab.route l k).record = some q → q.state = routeState t.cab l q) ∧
          (∀ l k a, (s.cab.route l k).record = some a → ∀ b, (t.cab.route l k).record = some b →
            a.state ≠ b.state → t.shows b.owner .route))) ∧
      ((∀ ch ∈ probes, otherAtFreq s.cab h.slot ⟨.fm, ch⟩ = true) →
        (t.cab.chan x).follow = none ∧ (t.cab.chan x).followCount = 0) ∧
      (t.cab.chan x).station = some h ∧ (t.cab.chan x).serving = some u ∧ (t.cab.chan x).retuning = false ∧
      t.cab.chan x.other = s.cab.chan x.other ∧ t.cab.table.slots = s.cab.table.slots ∧
      (∀ l k, SameRoute (t.cab.route l k) (s.cab.route l k)) ∧ t.cab.dir.zones = s.cab.dir.zones ∧
      t.cab.queue = s.cab.queue ∧ t.cab.calls = s.cab.calls ∧ t.cab.mix.channels = s.cab.mix.channels ∧
      KeptEvents s t ∧ KeptPlans s t ∧ KeptLevels s t ∧ KeptOutside s t) ∧
  (∀ (x : Chan) (s : State), ((s.cab.chan x).followCount < 200 ∨ (s.cab.chan x).follow ≠ none ∨
      (s.cab.chan x).retuning = true ∨ (s.cab.chan x).station = none ∨ s.cab.alloc.stopped = true) →
    exec (.followStart x) s = .next s)

/-- 05 R97, R98: the end of a probe of a borrowing follow gives the alternate its quality; the follow goes on to the
next frequency that is not skipped, or decides, the highest probed quality winning and of equal ones the earlier in the
list; a borrowed tuner tuned to a winner still eligible takes the channel and the record moves to the winner, else the
follow fails. The channel's quality and measured mark after success, and how the winner is checked, are log 18
(DEDUCED); the number that stands for the position in the probe list, counted from 0, and one past the last frequency
probed while the tuner tunes to a winner, is the model's choice (log 12, DESIGN CHOICE); that the commands do nothing
with no borrowing follow is log 4 (DEDUCED). -/
def Obligations.BorrowingFollowProbesAndDecides : Prop :=
  (∀ (g : Figures) (x : Chan) (h : StationId) (u : TunerId) (f : Follow) (ch raw : Nat) (s : State),
    borrowingChan s.cab = some x → (s.cab.chan x).station = some h → (s.cab.chan x).serving = some u →
    (s.cab.chan x).follow = some f → f.phase = .probing → f.probes[f.pos]? = some ch →
    raw = rawQuality .fm (s.supply.image.antenna.get u.other) g →
    ∃ t, exec (.followProbeComplete g) s = .next t ∧
      (∀ n ∈ List.range f.probes.length, f.pos < n →
        (∃ c, f.probes[n]? = some c ∧ probeable (noteProbe h ch raw s.cab) h c = true ∧
          ∀ m ∈ List.range n, f.pos < m → ∀ d, f.probes[m]? = some d →
            probeable (noteProbe h ch raw s.cab) h d = false) →
        (t.cab.chan x).follow = some { f with pos := n, measured := f.measured ++ [(ch, raw)] } ∧
        (∀ c, f.probes[n]? = some c → (t.cab.tuner u.other).tuned = some ⟨.fm, c⟩) ∧
        ∀ r, s.cab.station h = some r → t.cab.station h =
          some { r with alternates := setAltQuality ch raw r.alternates }) ∧
      ((∀ n ∈ List.range f.probes.length, f.pos < n → ∀ d, f.probes[n]? = some d →
          probeable (noteProbe h ch raw s.cab) h d = false) →
        (∀ m ∈ f.measured ++ [(ch, raw)], ¬ (40 ≤ m.2 ∧ (s.cab.chan x).quality + 10 ≤ m.2 ∧
          probeable (noteProbe h ch raw s.cab) h m.1 = true)) →
        (t.cab.chan x) = { s.cab.chan x with follow := none, followCount := 0 } ∧
        ∀ r, s.cab.station h = some r → t.cab.station h =
          some { r with alternates := setAltQuality ch raw r.alternates }) ∧
      ((∀ n ∈ List.range f.probes.length, f.pos < n → ∀ d, f.probes[n]? = some d →
          probeable (noteProbe h ch raw s.cab) h d = false) → (s.cab.tuner u.other).tuned = some ⟨.fm, ch⟩ →
        ∀ w, Wins (noteProbe h ch raw s.cab) h (s.cab.chan x).quality (f.measured ++ [(ch, raw)]) w →
        (w.1 ≠ ch → t.cab.chan x = { s.cab.chan x with
            follow := some { f with pos := f.pos + 1, measured := f.measured ++ [(ch, raw)],
                                    phase := .tuningWinner w.1 } } ∧
          t.cab.tuner u.other = { s.cab.tuner u.other with tuned := some ⟨.fm, w.1⟩, acc := emptyAcceptance }) ∧
        (w.1 = ch → t.cab.chan x = { s.cab.chan x with serving := some u.other, follow := none, followCount := 0,
                                                       highRun := 0, quality := w.2, measured := true } ∧
          (t.cab.tuner u.other).smoothed = some w.2 ∧
          ∀ r, s.cab.station h = some r → t.cab.station h = some { r with
            freq := ⟨.fm, ch⟩, quality := w.2,
            alternates := joinAlt ch r.freq.chan (some r.quality)
              (removeAlt ch (setAltQuality ch raw r.alternates)) })) ∧
      t.cab.chan x.other = s.cab.chan x.other ∧ (t.cab.chan x).station = some h ∧
      (∀ j, j ≠ h.slot → t.cab.stationSlot j = s.cab.stationSlot j) ∧ t.cab.dir = s.cab.dir ∧
      t.cab.mix = s.cab.mix ∧ t.cab.builder = s.cab.builder ∧ t.cab.queue = s.cab.queue ∧
      t.cab.calls = s.cab.calls ∧ t.cab.ports = s.cab.ports ∧ KeptOutside s t) ∧
  (∀ (x : Chan) (h : StationId) (r : Station) (u : TunerId) (f : Follow) (ch : Nat) (s : State),
    borrowingChan s.cab = some x → (s.cab.chan x).station = some h → s.cab.station h = some r →
    (s.cab.chan x).serving = some u → (s.cab.chan x).follow = some f → f.phase = .tuningWinner ch →
    ∃ t, exec .followWinnerTuned s = .next t ∧
      (probeable s.cab h ch = false →
        t.cab.chan x = { s.cab.chan x with follow := none, followCount := 0 } ∧
        t.cab.table.slots = s.cab.table.slots) ∧
      (probeable s.cab h ch = true → (s.cab.chan x.other).serving = none →
        t.cab.chan x = { s.cab.chan x with serving := some u.other, follow := none, followCount := 0, highRun := 0,
                                           quality := probedQuality f ch, measured := true } ∧
        t.cab.station h = some { r with
          freq := ⟨.fm, ch⟩, quality := probedQuality f ch,
          alternates := joinAlt ch r.freq.chan (some r.quality) (removeAlt ch r.alternates) } ∧
        (t.cab.tuner u.other).role = .programme ∧ (t.cab.tuner u.other).tuned = some ⟨.fm, ch⟩ ∧
        (t.cab.tuner u.other).smoothed = some (probedQuality f ch) ∧
        ((s.cab.tuner u.other).role ≠ .programme → (t.cab.tuner u.other).acc = emptyAcceptance) ∧
        ((s.cab.chan x).diversity = false → s.cab.ports.part.posts = true → s.cab.alloc.stopped = false →
          (t.cab.tuner u).role = .scan)) ∧
      t.cab.chan x.other = s.cab.chan x.other ∧ (∀ j, j ≠ h.slot → t.cab.stationSlot j = s.cab.stationSlot j) ∧
      t.cab.dir = s.cab.dir ∧ t.cab.mix = s.cab.mix ∧ t.cab.builder = s.cab.builder ∧ t.cab.queue = s.cab.queue ∧
      t.cab.calls = s.cab.calls ∧ t.cab.ports = s.cab.ports ∧ KeptOutside s t) ∧
  (∀ (g : Figures) (s : State), borrowingChan s.cab = none →
    exec (.followProbeComplete g) s = .next s ∧ exec .followWinnerTuned s = .next s) ∧
  (∀ (c : Cabin) (h : StationId) (ch : Nat), probeable c h ch = true ↔
    (∃ r, c.station h = some r ∧ ch ∈ r.alternates.map (·.chan)) ∧
    ∀ i r, i ≠ h.slot → (c.stationSlot i).record = some r → r.freq ≠ ⟨.fm, ch⟩)

/-- 05 R99: an excursion of a self-probing follow. Its start takes the serving tuner off the carried frequency; its end
gives the alternate its quality and brings the tuner back, and after the last one the follow decides: it fails, or the
record moves to the winner, of equal qualities the earlier in the list (R98), and the channel retunes; and so does an
EXCURSION_START at which every remaining frequency is skipped. When a frequency is skipped and by which quality the
follow decides is log 18 (DEDUCED); the number that stands for the position, which after an excursion is that of the
next frequency, is the model's choice (log 12, DESIGN CHOICE); that the commands do nothing with no follow is log 4
(DEDUCED). -/
def Obligations.SelfProbingFollowMakesExcursions : Prop :=
  (∀ (x : Chan) (h : StationId) (u : TunerId) (f : Follow) (n : Nat) (s : State),
    (s.cab.chan x).station = some h → (s.cab.chan x).serving = some u → (s.cab.chan x).follow = some f →
    f.phase = .serving → s.cab.alloc.stopped = false →
    f.probes[n]?.isSome = true → f.pos ≤ n → (f.probes[n]?.any (probeable s.cab h) = true) →
    (∀ m, f.pos ≤ m → m < n → f.probes[m]?.any (probeable s.cab h) = false) →
    ∃ t, exec (.excursionStart x) s = .next t ∧
      t.cab.chan x = { s.cab.chan x with follow := some { f with pos := n, phase := .away } } ∧
      (∀ ch, f.probes[n]? = some ch →
        t.cab.tuner u = { s.cab.tuner u with tuned := some ⟨.fm, ch⟩, acc := emptyAcceptance }) ∧
      t.cab.tuner u.other = s.cab.tuner u.other ∧
      t.cab.table = s.cab.table ∧
      (∀ l k r, (t.cab.route l k).record = some r → r.state = routeState t.cab l r) ∧
      (∀ l k, SameRoute (t.cab.route l k) (s.cab.route l k)) ∧
      (s.cab.ports.part.posts = true → ∀ l k a, (s.cab.route l k).record = some a →
        ∀ b, (t.cab.route l k).record = some b → a.state ≠ b.state → t.shows b.owner .route) ∧
      t.cab.chan x.other = s.cab.chan x.other ∧ t.cab.dir.zones = s.cab.dir.zones ∧ t.cab.queue = s.cab.queue ∧
      t.cab.calls = s.cab.calls ∧ KeptEvents s t ∧ KeptPlans s t ∧ KeptLevels s t ∧ KeptOutside s t) ∧
  (∀ (x : Chan) (g : Figures) (h : StationId) (r : Station) (u : TunerId) (f : Follow) (ch raw : Nat) (s : State),
    (s.cab.chan x).station = some h → s.cab.station h = some r → (s.cab.chan x).serving = some u →
    (s.cab.chan x).follow = some f → f.phase = .away → f.probes[f.pos]? = some ch →
    raw = rawQuality .fm (s.supply.image.antenna.get u) g →
    ∃ t, exec (.excursionEnd x g) s = .next t ∧
      (f.pos + 1 < f.probes.length →
        t.cab.chan x = { s.cab.chan x with follow := some { f with
          phase := .serving, pos := f.pos + 1, measured := f.measured ++ [(ch, raw)],
          endQuality := (s.cab.chan x).quality } } ∧
        t.cab.tuner u = { s.cab.tuner u with tuned := some r.freq, acc := emptyAcceptance } ∧
        t.cab.station h = some { r with alternates := setAltQuality ch raw r.alternates }) ∧
      (f.probes.length ≤ f.pos + 1 →
        (∀ m ∈ f.measured ++ [(ch, raw)], ¬ (40 ≤ m.2 ∧ (s.cab.chan x).quality + 10 ≤ m.2 ∧
          probeable (noteProbe h ch raw s.cab) h m.1 = true)) →
        t.cab.chan x = { s.cab.chan x with follow := none, followCount := 0 } ∧
        t.cab.tuner u = { s.cab.tuner u with tuned := some r.freq, acc := emptyAcceptance } ∧
        t.cab.station h = some { r with alternates := setAltQuality ch raw r.alternates }) ∧
      (f.probes.length ≤ f.pos + 1 → s.cab.alloc.stopped = false →
        ∀ w, Wins (noteProbe h ch raw s.cab) h (s.cab.chan x).quality (f.measured ++ [(ch, raw)]) w →
        (t.cab.chan x).retuning = true ∧ (t.cab.chan x).follow = none ∧ (t.cab.chan x).followCount = 0 ∧
        (t.cab.tuner u).tuned = some ⟨.fm, w.1⟩ ∧ (t.cab.tuner u).smoothed = none ∧
        (t.cab.tuner u).acc = emptyAcceptance ∧
        t.cab.station h = some { r with
          freq := ⟨.fm, w.1⟩, quality := w.2,
          alternates := joinAlt w.1 r.freq.chan (some r.quality)
            (removeAlt w.1 (setAltQuality ch raw r.alternates)) }) ∧
      (t.cab.chan x).station = some h ∧ (t.cab.chan x).serving = some u ∧
      t.cab.tuner u.other = s.cab.tuner u.other ∧ t.cab.chan x.other = s.cab.chan x.other ∧
      (∀ j, j ≠ h.slot → t.cab.stationSlot j = s.cab.stationSlot j) ∧
      (∀ l k q, (t.cab.route l k).record = some q → q.state = routeState t.cab l q) ∧
      (∀ l k, SameRoute (t.cab.route l k) (s.cab.route l k)) ∧
      (s.cab.ports.part.posts = true → ∀ l k a, (s.cab.route l k).record = some a →
        ∀ b, (t.cab.route l k).record = some b → a.state ≠ b.state → t.shows b.owner .route) ∧
      t.cab.dir.zones = s.cab.dir.zones ∧ t.cab.queue = s.cab.queue ∧ t.cab.calls = s.cab.calls ∧
      KeptEvents s t ∧ KeptPlans s t ∧ KeptLevels s t ∧ KeptOutside s t) ∧
  (∀ (x : Chan) (h : StationId) (r : Station) (u : TunerId) (f : Follow) (s : State),
    (s.cab.chan x).station = some h → s.cab.station h = some r → (s.cab.chan x).serving = some u →
    (s.cab.chan x).follow = some f → f.phase = .serving → s.cab.alloc.stopped = false →
    (∀ n ch, f.pos ≤ n → f.probes[n]? = some ch → probeable s.cab h ch = false) →
    ∃ t, exec (.excursionStart x) s = .next t ∧
      ((∀ w, ¬ Wins s.cab h f.endQuality f.measured w) →
        t.cab.chan x = { s.cab.chan x with follow := none, followCount := 0 } ∧
        t.cab.tuner u = s.cab.tuner u ∧ t.cab.table = s.cab.table) ∧
      (∀ w, Wins s.cab h f.endQuality f.measured w →
        (t.cab.chan x).retuning = true ∧ (t.cab.chan x).follow = none ∧ (t.cab.chan x).followCount = 0 ∧
        (t.cab.tuner u).tuned = some ⟨.fm, w.1⟩ ∧ (t.cab.tuner u).smoothed = none ∧
        (t.cab.tuner u).acc = emptyAcceptance ∧
        t.cab.station h = some { r with
          freq := ⟨.fm, w.1⟩, quality := w.2,
          alternates := joinAlt w.1 r.freq.chan (some r.quality) (removeAlt w.1 r.alternates) }) ∧
      (t.cab.chan x).station = some h ∧ (t.cab.chan x).serving = some u ∧
      t.cab.tuner u.other = s.cab.tuner u.other ∧ t.cab.chan x.other = s.cab.chan x.other ∧
      (∀ j, j ≠ h.slot → t.cab.stationSlot j = s.cab.stationSlot j) ∧
      (∀ l k q, (t.cab.route l k).record = some q → q.state = routeState t.cab l q) ∧
      (∀ l k, SameRoute (t.cab.route l k) (s.cab.route l k)) ∧
      (s.cab.ports.part.posts = true → ∀ l k a, (s.cab.route l k).record = some a →
        ∀ b, (t.cab.route l k).record = some b → a.state ≠ b.state → t.shows b.owner .route) ∧
      t.cab.dir.zones = s.cab.dir.zones ∧ t.cab.queue = s.cab.queue ∧ t.cab.calls = s.cab.calls ∧
      KeptEvents s t ∧ KeptPlans s t ∧ KeptLevels s t ∧ KeptOutside s t) ∧
  (∀ (x : Chan) (g : Figures) (s : State), (s.cab.chan x).follow = none →
    exec (.excursionStart x) s = .next s ∧ exec (.excursionEnd x g) s = .next s)

/-! ## Announcements and chimes (06) -/

/-- 06 R113, R108, R104, R109: Start Chime. A new entry takes the lowest-numbered free slot; in a full queue it takes
the slot of the entry of lowest priority, the latest of those, where its own is higher, else it is refused; and a CHIME
entry of the pattern is restarted with the union of the targets. That the second word of the response is 0 for a new
entry, for which R113 names the handle alone, is the model's choice (log 12, DESIGN CHOICE). -/
def Obligations.StartChimeQueuesOrRestarts : Prop :=
  (∀ (pattern : Nat) (targets : Option Nat) (n : Fin 8) (zs : ZoneSet) (s : State), s.Running →
    finOf? 8 pattern = some n → chimeTargets s.cab n targets = some zs → chimeEntry s.cab n = none →
    let new : Entry := { kind := .chime n, priority := (s.cab.queue.patterns.get n).priority, targets := zs,
                         order := s.cab.queue.order, timeLeft := 0 }
    (∀ i : Fin 8, (s.cab.entrySlot i).entry = none → (∀ j, j < i → (s.cab.entrySlot j).entry ≠ none) →
      ∃ t, exec (.startChime .front pattern targets) s = .next t ∧
        t.answer .front = some ⟨.done, [entryWord ⟨i, (s.cab.entrySlot i).gen⟩, 0]⟩ ∧
        t.cab.entrySlot i = ⟨(s.cab.entrySlot i).gen, some new⟩ ∧
        (∀ j, j ≠ i → t.cab.entrySlot j = s.cab.entrySlot j) ∧ t.cab.queue.order = s.cab.queue.order + 1 ∧
        t.cab.queue.ends = s.cab.queue.ends ∧ t.cab.queue.endNumber = s.cab.queue.endNumber ∧
        t.cab.queue.ignored = s.cab.queue.ignored ∧ t.cab.queue.patterns = s.cab.queue.patterns ∧
        KeptAroundQueue .front s t) ∧
    (∀ (i : Fin 8) (e : Entry), (s.cab.entrySlot i).entry = some e → (∀ j, (s.cab.entrySlot j).entry ≠ none) →
      (∀ j f, (s.cab.entrySlot j).entry = some f → j ≠ i →
        e.priority < f.priority ∨ (e.priority = f.priority ∧ f.order < e.order)) →
      (new.priority ≤ e.priority →
        exec (.startChime .front pattern targets) s = .next (s.onCab (respond .front .full []))) ∧
      (e.priority < new.priority → TrafficSettled s.cab → (e.kind.isTraffic = true → e.priority = 3) →
        ∃ t, exec (.startChime .front pattern targets) s = .next t ∧
        t.answer .front = some ⟨.done, [entryWord ⟨i, (s.cab.entrySlot i).gen + 1⟩, 0]⟩ ∧
        t.cab.entrySlot i = ⟨(s.cab.entrySlot i).gen + 1, some new⟩ ∧
        (∀ j, j ≠ i → t.cab.entrySlot j = s.cab.entrySlot j) ∧ t.cab.queue.order = s.cab.queue.order + 1 ∧
        t.cab.queue.ends.getLast? = some ⟨s.cab.entryId i, e.kind, .displaced, s.cab.queue.endNumber⟩ ∧
        t.cab.queue.endNumber = s.cab.queue.endNumber + 1 ∧ t.shows .front .announce ∧
        (∀ j r, (s.cab.callSlot j).record = some r → r.tone = some (s.cab.entryId i) →
          ∃ q, (t.cab.callSlot j).record = some q ∧ q.tone = none ∧ q.ringUnplayed = true) ∧
        KeptAroundQueue .front s t))) ∧
  (∀ (pattern : Nat) (targets : Option Nat) (n i : Fin 8) (e : Entry) (zs : ZoneSet) (s : State), s.Running →
    finOf? 8 pattern = some n → chimeTargets s.cab n targets = some zs → chimeEntry s.cab n = some i →
    (s.cab.entrySlot i).entry = some e →
    ∃ t, exec (.startChime .front pattern targets) s = .next t ∧
      t.answer .front = some ⟨.done, [entryWord (s.cab.entryId i), 1]⟩ ∧
      t.cab.entrySlot i = ⟨(s.cab.entrySlot i).gen, some { e with targets := e.targets.union zs }⟩ ∧
      (∀ j, j ≠ i → t.cab.entrySlot j = s.cab.entrySlot j) ∧
      (∀ v x, t.cab.queue.voices.get v = some x → x.slot = i → x = newVoice i) ∧
      t.cab.queue.ends = s.cab.queue.ends ∧ t.cab.queue.order = s.cab.queue.order ∧
      t.cab.queue.patterns = s.cab.queue.patterns ∧ t.cab.calls = s.cab.calls ∧ KeptAroundQueue .front s t)

/-- 06 R115, R108, R112, R105: Start Nav, which in a full queue displaces the entry of lowest priority, the latest of
those, or is refused FULL; Keep Nav; and Set Pattern, whose CHIME entry takes the new priority, and which is answered
CLAMPED exactly where a number was limited to its range. That a tone beyond its range counts among those, and that one
taken to the step below is answered DONE, is the model's reading (log 27, DEDUCED). -/
def Obligations.NavPromptsAndPatterns : Prop :=
  (∀ (mask : Nat) (zs : ZoneSet) (s : State), s.Running → zoneSet? mask = some zs →
    (∀ i, navEntry s.cab = none → freeEntrySlot s.cab = some i → ∃ t, exec (.startNav .front mask) s = .next t ∧
      t.answer .front = some ⟨.done, [entryWord ⟨i, (s.cab.entrySlot i).gen⟩]⟩ ∧
      t.cab.entrySlot i = ⟨(s.cab.entrySlot i).gen, some { kind := .nav, priority := 4, targets := zs,
                                                           order := s.cab.queue.order, timeLeft := 30000 }⟩ ∧
      (∀ j, j ≠ i → t.cab.entrySlot j = s.cab.entrySlot j) ∧ t.cab.queue.ends = s.cab.queue.ends ∧
      t.cab.queue.patterns = s.cab.queue.patterns ∧ KeptAroundQueue .front s t) ∧
    (∀ (i : Fin 8) (e : Entry), navEntry s.cab = none → (s.cab.entrySlot i).entry = some e →
      (∀ j, (s.cab.entrySlot j).entry ≠ none) →
      (∀ j f, (s.cab.entrySlot j).entry = some f → j ≠ i →
        e.priority < f.priority ∨ (e.priority = f.priority ∧ f.order < e.order)) →
      (4 ≤ e.priority → exec (.startNav .front mask) s = .next (s.onCab (respond .front .full []))) ∧
      (e.priority < 4 → TrafficSettled s.cab → (e.kind.isTraffic = true → e.priority = 3) →
        ∃ t, exec (.startNav .front mask) s = .next t ∧
          t.answer .front = some ⟨.done, [entryWord ⟨i, (s.cab.entrySlot i).gen + 1⟩]⟩ ∧
          t.cab.entrySlot i = ⟨(s.cab.entrySlot i).gen + 1, some { kind := .nav, priority := 4, targets := zs,
                                                                   order := s.cab.queue.order, timeLeft := 30000 }⟩ ∧
          (∀ j, j ≠ i → t.cab.entrySlot j = s.cab.entrySlot j) ∧
          t.cab.queue.ends.getLast? = some ⟨s.cab.entryId i, e.kind, .displaced, s.cab.queue.endNumber⟩ ∧
          t.cab.queue.endNumber = s.cab.queue.endNumber + 1 ∧ t.shows .front .announce ∧
          t.cab.queue.patterns = s.cab.queue.patterns ∧ KeptAroundQueue .front s t)) ∧
    (∀ i e, navEntry s.cab = some i → (s.cab.entrySlot i).entry = some e →
      ∃ t, exec (.startNav .front mask) s = .next t ∧
        t.answer .front = some ⟨.done, [entryWord (s.cab.entryId i)]⟩ ∧
        t.cab.entrySlot i = ⟨(s.cab.entrySlot i).gen, some { e with targets := zs, timeLeft := 30000 }⟩ ∧
        (∀ j, j ≠ i → t.cab.entrySlot j = s.cab.entrySlot j) ∧ t.cab.queue.ends = s.cab.queue.ends ∧
        t.cab.queue.patterns = s.cab.queue.patterns ∧ KeptAroundQueue .front s t)) ∧
  (∀ s : State, s.Running →
    (navEntry s.cab = none → exec (.keepNav .front) s = .next (s.onCab (respond .front .wrongState [])) ∧
      exec (.endNav .front) s = .next (s.onCab (respond .front .wrongState []))) ∧
    (∀ i e, navEntry s.cab = some i → (s.cab.entrySlot i).entry = some e →
      exec (.keepNav .front) s = .next (s.onCab fun c => respond .front .done []
        (setEntrySlot i ⟨(c.entrySlot i).gen, some { e with timeLeft := 30000 }⟩ c)))) ∧
  (∀ (pattern : Nat) (a : PatternArgs) (n : Fin 8) (s : State), s.Running → finOf? 8 pattern = some n →
    optOk zoneSet? a.targets = true → ∃ t, exec (.setPattern .front pattern a) s = .next t ∧
      (let old := s.cab.queue.patterns.get n
       let new := t.cab.queue.patterns.get n
       (∀ v, a.tone = some v → new.tone % 10 = 0 ∧ 200 ≤ new.tone ∧ new.tone ≤ 4000 ∧
         (200 ≤ v → v ≤ 4000 → (new.tone : Int) ≤ v ∧ v < new.tone + 10) ∧ (v < 200 → new.tone = 200) ∧
         (4000 < v → new.tone = 4000)) ∧
       (a.tone = none → new.tone = old.tone) ∧
       (new.on : Int) = a.on.elim (old.on : Int) (fun v => max 1 (min 100 v)) ∧
       (new.off : Int) = a.off.elim (old.off : Int) (fun v => max 0 (min 100 v)) ∧
       (new.repeats : Int) = a.repeats.elim (old.repeats : Int) (fun v => max 0 (min 255 v)) ∧
       (new.priority : Int) = a.priority.elim (old.priority : Int) (fun v => max 0 (min 7 v)) ∧
       (∀ m, a.targets = some m → zoneSet? m = some new.targets) ∧ (a.targets = none → new.targets = old.targets) ∧
       (∀ i, chimeEntry s.cab n = some i → ∀ e, (s.cab.entrySlot i).entry = some e →
         t.cab.entrySlot i = ⟨(s.cab.entrySlot i).gen, some { e with priority := new.priority }⟩)) ∧
      (∀ m, m ≠ n → t.cab.queue.patterns.get m = s.cab.queue.patterns.get m) ∧
      (∀ j, chimeEntry s.cab n ≠ some j → t.cab.entrySlot j = s.cab.entrySlot j) ∧
      (let within (lo hi : Int) (v : Option Int) := ∀ n, v = some n → lo ≤ n ∧ n ≤ hi
       let kept := within 200 4000 a.tone ∧ within 1 100 a.on ∧ within 0 100 a.off ∧ within 0 255 a.repeats ∧
         within 0 7 a.priority
       (kept → t.answer .front = some ⟨.done, []⟩) ∧ (¬ kept → t.answer .front = some ⟨.clamped, []⟩)) ∧
      t.cab.queue.ends = s.cab.queue.ends ∧ t.cab.calls = s.cab.calls ∧ KeptAroundQueue .front s t)

/-- 06 R109, R111, R114, R115, R117: the ways an entry ends. Its slot is freed and its generation advances, its voice
is freed, an end record with the next end number joins the end list, the events are posted, and a bulletin ended by
request or by time puts its station in the traffic-ignored set. 06 R116: the ending has the traffic conditions tested
again, PC0's station first. That the commands of time do nothing out of their place is the model's reading (log 4,
DEDUCED), CHIME_COMPLETED before its count too (log 3, DESIGN CHOICE). Cancel Announcement of a RING or WAITING entry
is refused WRONG-STATE (R114). -/
def Obligations.EndingAnEntry : Prop :=
  (∀ (cmd : Instr) (i : Fin 8) (e : Entry) (reason : EndReason) (s : State),
    (s.cab.entrySlot i).entry = some e → TrafficSettled s.cab →
    EndsEntry s cmd i e reason →
    ∃ t, exec cmd s = .next t ∧ t.cab.entrySlot i = ⟨(s.cab.entrySlot i).gen + 1, none⟩ ∧
      (∀ j, j ≠ i → t.cab.entrySlot j = s.cab.entrySlot j) ∧
      t.cab.queue.ends.getLast? = some ⟨s.cab.entryId i, e.kind, reason, s.cab.queue.endNumber⟩ ∧
      (s.cab.queue.ends.length < 8 → t.cab.queue.ends.dropLast = s.cab.queue.ends) ∧
      (s.cab.queue.ends.length = 8 → t.cab.queue.ends.dropLast = s.cab.queue.ends.tail) ∧
      t.cab.queue.endNumber = s.cab.queue.endNumber + 1 ∧ t.cab.queue.order = s.cab.queue.order ∧
      voiceOf t.cab i = none ∧ t.cab.queue.patterns = s.cab.queue.patterns ∧
      (s.cab.ports.part.posts = true → t.shows .front .announce ∧
        (e.kind.isTraffic = true → t.shows .front .traffic ∧ t.shows .rear .traffic)) ∧
      (∀ g, g ∈ t.cab.queue.ignored ↔ g ∈ s.cab.queue.ignored ∨ ∃ x, e.kind = .traffic g x) ∧
      (requestPort cmd = some .front → t.answer .front = some ⟨.done, []⟩) ∧
      (requestPort cmd = none → t.answer .front = s.answer .front) ∧
      t.cab.calls = s.cab.calls ∧ KeptAroundQueue .front s t) ∧
  (∀ (cmd : Instr) (i : Fin 8) (e : Entry) (reason : EndReason) (s : State),
    (s.cab.entrySlot i).entry = some e → EndsEntry s cmd i e reason → PrioritiesFit s.cab →
    ∃ t, exec cmd s = .next t ∧ RaisesBulletins s t ∧
      (∀ h, (s.cab.chan .pc0).station = some h → trafficCondition s.cab h = true → trafficEntry s.cab h = none →
        (∀ j, (s.cab.entrySlot j).entry ≠ none) →
        t.cab.entrySlot i = ⟨(s.cab.entrySlot i).gen + 1, some {
          kind := .traffic h .pc0, priority := 3,
          targets := trafficTargets s.cab h, order := s.cab.queue.order, timeLeft := 300000 }⟩)) ∧
  (∀ (c : Cabin) (h : StationId) (r : Station), c.station h = some r →
    (trafficCondition c h = true ↔ r.freq.band = .fm ∧ r.tp = some true ∧ r.ta = some true ∧ h ∉ c.queue.ignored ∧
      ∃ z, (trafficTargets c h).get z = true) ∧
    ∀ z, (trafficTargets c h).get z = true ↔ (c.zone z).accept.traffic = true ∧
      ((∃ w, c.table.watch = some w ∧ w.station = h) ∨ ∃ l k q, (c.zone z).list = some l ∧
        (c.route l k).record = some q ∧ q.present = true ∧ q.source = .station h)) ∧
  (∀ s : State, navEntry s.cab = none → exec .navTimeout s = .next s) ∧
  (∀ (i : Fin 8) (s : State), (∀ e, (s.cab.entrySlot i).entry = some e → e.kind.isTraffic = false) →
    exec (.trafficTimeout i) s = .next s) ∧
  (∀ (v : Fin 2) (s : State), (∀ x, s.cab.queue.voices.get v = some x → x.cadence ≠ .finished) →
    exec (.chimeCompleted v) s = .next s) ∧
  (∀ (i : Fin 8) (e : Entry) (h : CallId) (list : Nat) (s : State), s.Running → (s.cab.entrySlot i).entry = some e →
    e.kind = .ring h ∨ e.kind = .waiting h →
    exec (.cancelAnnouncement .front { list := list, slot := i.val, gen := (s.cab.entrySlot i).gen.val }) s =
      .next (s.onCab (respond .front .wrongState [])))

/-- 06 R111: the cadence. A CHIME entry of on a ticks, off b ticks and N repeats is finished N (a + b) ticks after the
tick at which its first on-period began, and any other tone sounds on, RING by pattern 7 and WAITING by pattern 6
(R104); the tone and the lengths of a changed pattern are taken, and the samples counted from 0 again, at the next
on-period. That a tick moves the voices and nothing else, and so leaves a finished entry to CHIME_COMPLETED, is the
model's choice (log 3, DESIGN CHOICE). -/
def Obligations.CadencePlaysCycles : Prop :=
  (∀ s : State, ∃ t, exec .cadenceTick s = .next t ∧
    (∀ v, s.cab.queue.voices.get v = none → t.cab.queue.voices.get v = none) ∧
    (∀ v x e, s.cab.queue.voices.get v = some x → (s.cab.entrySlot x.slot).entry = some e →
      (∀ n, e.kind = .chime n →
        t.cab.queue.voices.get v = some (tickVoice true (s.cab.queue.patterns.get n) x)) ∧
      (∀ h, e.kind = .ring h →
        t.cab.queue.voices.get v = some (tickVoice false (s.cab.queue.patterns.get 7) x)) ∧
      (∀ h, e.kind = .waiting h →
        t.cab.queue.voices.get v = some (tickVoice false (s.cab.queue.patterns.get 6) x))) ∧
    t = s.onCab fun c => { c with queue := { c.queue with voices := t.cab.queue.voices } }) ∧
  (∀ (t : Pattern) (i : Fin 8) (n : Nat), 1 ≤ t.on → 1 ≤ t.repeats →
    (((tickVoice true t)^[n] (newVoice i)).cadence = .finished ↔ t.repeats * (t.on + t.off) + 1 ≤ n)) ∧
  (∀ (chime : Bool) (t : Pattern) (i : Fin 8) (n : Nat), 1 ≤ t.on → (chime = false ∨ t.repeats = 0) →
    ((∃ k, ((tickVoice chime t)^[n + 1] (newVoice i)).cadence = .on k) ↔ n % (t.on + t.off) < t.on) ∧
    ((tickVoice chime t)^[n + 1] (newVoice i)).cycles = n / (t.on + t.off)) ∧
  (∀ (chime : Bool) (t : Pattern) (x : Voice), (tickVoice chime t x).slot = x.slot) ∧
  (∀ (t : Pattern) (x : Voice) (k : Nat), x.cadence = .on k → 1 < k →
    tickVoice true t x = { x with cadence := .on (k - 1) } ∧ tickVoice false t x = tickVoice true t x) ∧
  (∀ (chime : Bool) (t : Pattern) (x : Voice) (k : Nat),
    (x.cadence = .off k → 1 < k → tickVoice chime t x = { x with cadence := .off (k - 1) }) ∧
    (x.cadence = .on k → k ≤ 1 → x.offLength ≠ 0 → tickVoice chime t x = { x with cadence := .off x.offLength })) ∧
  (∀ (chime : Bool) (t : Pattern) (x : Voice), (∀ k, x.cadence = .on k → k ≤ 1) → ∀ m,
    (tickVoice chime t x).cadence = .on m → m = t.on ∧ (tickVoice chime t x).tone = t.tone ∧
      (tickVoice chime t x).offLength = t.off ∧ (tickVoice chime t x).sample = 0)

/-! ## Calls (07) -/

/-- 07 R123, R121, R127, R130: Open Call creates a RINGING record in the lowest-numbered free slot and queues its tone:
RING for its listeners, or WAITING for Z2 beside an ACTIVE call; in a full queue the tone displaces the entry of lowest
priority, the latest of those, or is refused and leaves the call without (06 R108). With both slots occupied Open Call
is refused FULL. -/
def Obligations.OpenCallRings : Prop :=
  (∀ (a : OpenArgs) (s : State), s.Running → openForm a = true → (∀ i, (s.cab.callSlot i).record ≠ none) →
    exec (.openCall .front a) s = .next (s.onCab (respond .front .full []))) ∧
  (∀ (a : OpenArgs) (i : Fin 2) (s : State), s.Running → openForm a = true → freeCallSlot s.cab = some i →
    TrafficSettled s.cab → CallsFit s.cab →
    ∃ t r, exec (.openCall .front a) s = .next t ∧
      t.cab.callSlot i = ⟨(s.cab.callSlot i).gen, some r⟩ ∧ r.state = .ringing ∧ r.privacy = false ∧
      r.uplinkMute = false ∧ (∀ m, a.listeners = some m → zoneSet? m = some r.listeners) ∧
      (a.listeners = none → r.listeners = ⟨true, false, true, false, false⟩) ∧
      r.joinable = a.joinable.elim false (fun v => decide (v = 1)) ∧
      r.level = a.level.elim (-12) (fun v => max (-60) (min 0 v)) ∧
      (∀ v, a.talker = some v → talker? v = some r.talker) ∧ (a.talker = none → r.talker = .driver) ∧
      t.answer .front = some ⟨if a.level.all (fun v => decide (-60 ≤ v ∧ v ≤ 0)) then .done else .clamped,
        [callWord ⟨i, (s.cab.callSlot i).gen⟩]⟩ ∧
      (∀ k, freeEntrySlot s.cab = some k → r.tone = some ⟨k, (s.cab.entrySlot k).gen⟩ ∧ r.ringUnplayed = false ∧
        t.cab.callSlot (otherCall i) = s.cab.callSlot (otherCall i) ∧
        t.cab.entrySlot k = ⟨(s.cab.entrySlot k).gen, some {
          kind := if callState s.cab (otherCall i) = some .active then .waiting ⟨i, (s.cab.callSlot i).gen⟩
            else .ring ⟨i, (s.cab.callSlot i).gen⟩,
          priority := 6,
          targets := if callState s.cab (otherCall i) = some .active then ⟨false, false, true, false, false⟩
            else r.listeners,
          order := s.cab.queue.order, timeLeft := 0 }⟩ ∧
        ∀ j, j ≠ k → t.cab.entrySlot j = s.cab.entrySlot j) ∧
      ((∀ j, ∃ e, (s.cab.entrySlot j).entry = some e ∧ 6 ≤ e.priority) →
        r.tone = none ∧ r.ringUnplayed = true ∧ ∀ j, t.cab.entrySlot j = s.cab.entrySlot j) ∧
      (∀ (k : Fin 8) (e : Entry), (s.cab.entrySlot k).entry = some e → (∀ j, (s.cab.entrySlot j).entry ≠ none) →
        (∀ j f, (s.cab.entrySlot j).entry = some f → j ≠ k →
          e.priority < f.priority ∨ (e.priority = f.priority ∧ f.order < e.order)) →
        e.priority < 6 → (e.kind.isTraffic = true → e.priority = 3) →
        r.tone = some ⟨k, (s.cab.entrySlot k).gen + 1⟩ ∧ r.ringUnplayed = false ∧
        t.cab.entrySlot k = ⟨(s.cab.entrySlot k).gen + 1, some {
          kind := if callState s.cab (otherCall i) = some .active then .waiting ⟨i, (s.cab.callSlot i).gen⟩
            else .ring ⟨i, (s.cab.callSlot i).gen⟩,
          priority := 6,
          targets := if callState s.cab (otherCall i) = some .active then ⟨false, false, true, false, false⟩
            else r.listeners,
          order := s.cab.queue.order, timeLeft := 0 }⟩ ∧
        (∀ j, j ≠ k → t.cab.entrySlot j = s.cab.entrySlot j) ∧
        t.cab.queue.ends.getLast? = some ⟨s.cab.entryId k, e.kind, .displaced, s.cab.queue.endNumber⟩ ∧
        t.shows .front .announce) ∧
      t.shows .front .call ∧ ((r.joinable = true ∨ ∃ z, r.listeners.get z = true ∧ rearChangeable s.cab z = true) →
        t.shows .rear .call) ∧
      (∀ z, (t.cab.mixZone z).listened = listenedCall s.cab z) ∧
      (t.cab.callSlot (otherCall i)).gen = (s.cab.callSlot (otherCall i)).gen ∧
      callState t.cab (otherCall i) = callState s.cab (otherCall i) ∧
      (t.cab.callSlot (otherCall i)).record.map CallRecord.settings =
        (s.cab.callSlot (otherCall i)).record.map CallRecord.settings ∧
      t.cab.calls.canceller = s.cab.calls.canceller ∧ KeptAroundCalls .front s t)

/-- 07 R124 to R127, R130, R131, R133: Answer, Hold Call, Resume and End Call. At most one call is ACTIVE; the listened
calls are given again; the canceller converges from IDLE when a call becomes ACTIVE and is IDLE when none is. CALL is
posted to the rear port where a call that changes concerns the rear; and the tone of the other call, if it is RINGING,
is settled: WAITING for Z2 beside the call that has become ACTIVE, else RING for its listeners. -/
def Obligations.CallsMoveBetweenTheirStates : Prop :=
  (∀ (c : Cabin) (r : CallRecord), concernsRear c (some r) = true ↔ r.joinable = true ∨
    ∃ z, (if r.privacy then ⟨false, false, true, false, false⟩ else r.listeners).get z = true ∧
      rearChangeable c z = true) ∧
  (∀ (h : Handle) (i : Fin 2) (r : CallRecord) (cmd : Instr) (waiting : Bool) (s : State), s.Running →
    finOf? 2 h.slot = some i → callOf s.cab i h = some r →
    ((cmd = .answer .front h ∧ r.state = .ringing ∧ waiting = true) ∨
      (cmd = .resume .front h ∧ r.state = .held ∧ waiting = true) ∨
      (cmd = .holdCall .front h ∧ r.state = .active ∧ waiting = false) ∨
      (cmd = .endCall .front h ∧ waiting = false)) →
    ∃ t, exec cmd s = .next t ∧
      (concernsRear s.cab (some r) = true → t.shows .rear .call) ∧
      (∀ q, (s.cab.callSlot (otherCall i)).record = some q → concernsRear s.cab (some q) = true →
        callState t.cab (otherCall i) ≠ some q.state → t.shows .rear .call) ∧
      (concernsRear s.cab (some r) = false → concernsRear s.cab (s.cab.callSlot (otherCall i)).record = false →
        (t.shows .rear .call ↔ s.shows .rear .call)) ∧
      ∀ q, (s.cab.callSlot (otherCall i)).record = some q → q.state = .ringing → PrioritiesFit s.cab →
        ∃ p, (t.cab.callSlot (otherCall i)).record = some p ∧
          (∀ g e, q.tone = some g → s.cab.entrySlot g.slot = ⟨g.gen, some e⟩ → (∀ a, r.tone = some a → a.slot ≠ g.slot) →
            ((∃ a, e.kind = if waiting then .waiting a else .ring a) →
              p = q ∧ t.cab.entrySlot g.slot = s.cab.entrySlot g.slot) ∧
            ((∃ a, e.kind = if waiting then .ring a else .waiting a) →
              (t.cab.entrySlot g.slot).gen ≠ g.gen ∧ (TrafficSettled s.cab →
                (⟨g, e.kind, .call⟩ : EntryId × EntryKind × EndReason) ∈
                  t.cab.queue.ends.map fun x => ⟨x.entry, x.kind, x.reason⟩))) ∧
          ((q.tone = none ∧ ∃ j, ∀ e, (s.cab.entrySlot j).entry = some e → e.priority < 6) ∨
              (∃ g e a, q.tone = some g ∧ s.cab.entrySlot g.slot = ⟨g.gen, some e⟩ ∧
                (∀ b, r.tone = some b → b.slot ≠ g.slot) ∧ e.kind = if waiting then .ring a else .waiting a) →
            p.ringUnplayed = q.ringUnplayed ∧
            ∃ g, p.tone = some g ∧ ∃ n, t.cab.entrySlot g.slot = ⟨g.gen, some {
              kind := if waiting then .waiting (s.cab.callId (otherCall i)) else .ring (s.cab.callId (otherCall i)),
              priority := 6,
              targets := if waiting ∨ q.privacy = true then ⟨false, false, true, false, false⟩ else q.listeners,
              order := n, timeLeft := 0 }⟩) ∧
          (q.tone = none → r.tone = none → (∀ j, ∃ e, (s.cab.entrySlot j).entry = some e ∧ 6 ≤ e.priority) →
            p = { q with ringUnplayed := true } ∧ ∀ j, t.cab.entrySlot j = s.cab.entrySlot j)) ∧
  (∀ (h : Handle) (i : Fin 2) (r : CallRecord) (s : State), s.Running → finOf? 2 h.slot = some i →
    callOf s.cab i h = some r → CallsFit s.cab →
    (r.state ≠ .ringing → exec (.answer .front h) s = .next (s.onCab (respond .front .wrongState []))) ∧
    (r.state ≠ .active → exec (.holdCall .front h) s = .next (s.onCab (respond .front .wrongState []))) ∧
    (r.state ≠ .held → exec (.resume .front h) s = .next (s.onCab (respond .front .wrongState []))) ∧
    (∀ cmd, (cmd = .answer .front h ∧ r.state = .ringing) ∨ (cmd = .resume .front h ∧ r.state = .held) →
      ∃ t, exec cmd s = .next t ∧ t.answer .front = some ⟨.done, []⟩ ∧
        callState t.cab i = some .active ∧
        t.cab.callSlot i = ⟨(s.cab.callSlot i).gen, (t.cab.callSlot i).record⟩ ∧
        (t.cab.callSlot i).record.map CallRecord.settings = some r.settings ∧
        (cmd = .answer .front h → ∀ q, (t.cab.callSlot i).record = some q →
          q.tone = none ∧ q.ringUnplayed = r.ringUnplayed) ∧
        (callState s.cab (otherCall i) = some .active → callState t.cab (otherCall i) = some .held) ∧
        (callState s.cab (otherCall i) ≠ some .active →
          callState t.cab (otherCall i) = callState s.cab (otherCall i)) ∧
        (t.cab.callSlot (otherCall i)).gen = (s.cab.callSlot (otherCall i)).gen ∧
        (t.cab.callSlot (otherCall i)).record.map CallRecord.settings =
          (s.cab.callSlot (otherCall i)).record.map CallRecord.settings ∧
        (∀ z, (t.cab.mixZone z).listened =
          if (if r.privacy then ⟨false, false, true, false, false⟩ else r.listeners).get z
          then some ⟨i, (s.cab.callSlot i).gen⟩ else none) ∧
        (s.cab.calls.canceller.state = .idle → t.cab.calls.canceller = freshConverging ∧ t.shows .front .echo) ∧
        (s.cab.calls.canceller.state ≠ .idle → t.cab.calls.canceller = s.cab.calls.canceller) ∧
        (cmd = .answer .front h → ∀ g, r.tone = some g → (s.cab.entrySlot g.slot).gen = g.gen →
          (s.cab.entrySlot g.slot).entry.isSome = true → (t.cab.entrySlot g.slot).gen ≠ g.gen) ∧
        t.shows .front .call ∧ KeptAroundCalls .front s t) ∧
    (r.state = .active → ∃ t, exec (.holdCall .front h) s = .next t ∧ t.answer .front = some ⟨.done, []⟩ ∧
      callState t.cab i = some .held ∧ (t.cab.callSlot i).gen = (s.cab.callSlot i).gen ∧
      (t.cab.callSlot i).record.map CallRecord.settings = some r.settings ∧
      callState t.cab (otherCall i) = callState s.cab (otherCall i) ∧
      (t.cab.callSlot (otherCall i)).gen = (s.cab.callSlot (otherCall i)).gen ∧
      (t.cab.callSlot (otherCall i)).record.map CallRecord.settings =
        (s.cab.callSlot (otherCall i)).record.map CallRecord.settings ∧
      (∀ z, (t.cab.mixZone z).listened = none) ∧ t.cab.calls.canceller = idleCanceller ∧ t.shows .front .echo ∧
      t.shows .front .call ∧ KeptAroundCalls .front s t) ∧
    (∃ t, exec (.endCall .front h) s = .next t ∧ t.answer .front = some ⟨.done, []⟩ ∧
      t.cab.callSlot i = ⟨(s.cab.callSlot i).gen + 1, none⟩ ∧
      callState t.cab (otherCall i) = callState s.cab (otherCall i) ∧
      (t.cab.callSlot (otherCall i)).gen = (s.cab.callSlot (otherCall i)).gen ∧
      (t.cab.callSlot (otherCall i)).record.map CallRecord.settings =
        (s.cab.callSlot (otherCall i)).record.map CallRecord.settings ∧
      (r.state = .active → (∀ z, (t.cab.mixZone z).listened = none) ∧ t.cab.calls.canceller = idleCanceller) ∧
      (r.state ≠ .active → t.cab.calls.canceller = s.cab.calls.canceller ∧
        ∀ z, (t.cab.mixZone z).listened = listenedCall s.cab z) ∧
      (∀ g, r.tone = some g → (s.cab.entrySlot g.slot).gen = g.gen → (s.cab.entrySlot g.slot).entry.isSome = true →
        (t.cab.entrySlot g.slot).gen ≠ g.gen) ∧
      t.shows .front .call ∧ KeptAroundCalls .front s t))

/-- 07 R128, R129, R132: Set Listeners, Set Call, Join Call and Leave Call change the record's fields; a RING entry
follows the effective listeners; a change posts CALL; and Set Uplink Gain sets the gain alone. Set Call is answered
CLAMPED exactly where its level was limited. Join Call and Leave Call are refused DENIED from the front and for another
zone than Z3 and Z4, and Join Call DENIED where the call is not joinable, WRONG-STATE in privacy. -/
def Obligations.CallSettingsTakeTheirValues : Prop :=
  (∀ (cmd : Instr) (p : Port) (h : Handle) (i : Fin 2) (r new : CallRecord) (s : State), s.Running →
    finOf? 2 h.slot = some i → callOf s.cab i h = some r →
    ((∃ mask zs, cmd = .setListeners .front h mask ∧ zoneSet? mask = some zs ∧ p = .front ∧
        new = { r with listeners := zs }) ∨
     (∃ a, cmd = .setCall .front h a ∧ callForm a = true ∧ p = .front ∧ new = changedCall r a) ∨
     (∃ n z, cmd = .joinCall .rear h n ∧ Zone.ofNat? n = some z ∧ (z = .z3 ∨ z = .z4) ∧ r.joinable = true ∧
        r.privacy = false ∧ p = .rear ∧ new = { r with listeners := r.listeners.set z true }) ∨
     (∃ n z, cmd = .leaveCall .rear h n ∧ Zone.ofNat? n = some z ∧ (z = .z3 ∨ z = .z4) ∧ p = .rear ∧
        new = { r with listeners := r.listeners.set z false })) →
    ∃ t, exec cmd s = .next t ∧ t.cab.callSlot i = ⟨(s.cab.callSlot i).gen, some new⟩ ∧
      t.cab.callSlot (otherCall i) = s.cab.callSlot (otherCall i) ∧
      ((∃ a v, cmd = .setCall .front h a ∧ a.level = some v ∧ (v < -60 ∨ 0 < v)) →
        t.answer p = some ⟨.clamped, []⟩) ∧
      ((∀ a v, cmd = .setCall .front h a → a.level = some v → -60 ≤ v ∧ v ≤ 0) → t.answer p = some ⟨.done, []⟩) ∧
      (new ≠ r → t.shows .front .call) ∧
      (new ≠ r → concernsRear s.cab (some r) = true ∨ concernsRear s.cab (some new) = true → t.shows .rear .call) ∧
      (∀ g, new.tone = some g → (s.cab.entrySlot g.slot).gen = g.gen → ∀ e, (s.cab.entrySlot g.slot).entry = some e →
        t.cab.entrySlot g.slot = ⟨g.gen, some (match e.kind with
          | .ring _ => { e with targets := effectiveListeners new }
          | _ => e)⟩) ∧
      (∀ j, new.tone.map (·.slot) ≠ some j → t.cab.entrySlot j = s.cab.entrySlot j) ∧
      (∀ z, (t.cab.mixZone z).listened = listenedCall t.cab z) ∧
      t.cab.calls.canceller = s.cab.calls.canceller ∧ t.cab.queue.ends = s.cab.queue.ends ∧
      KeptAroundCalls p s t) ∧
  (∀ (r : CallRecord) (a : CallArgs), let new := changedCall r a
    callForm a = true →
    new.level = a.level.elim r.level (fun v => max (-60) (min 0 v)) ∧
    (∀ v, a.talker = some v → talker? v = some new.talker) ∧ (a.talker = none → new.talker = r.talker) ∧
    new.uplinkMute = a.uplinkMute.elim r.uplinkMute (fun v => decide (v = 1)) ∧
    new.privacy = a.privacy.elim r.privacy (fun v => decide (v = 1)) ∧
    new.joinable = a.joinable.elim r.joinable (fun v => decide (v = 1)) ∧
    (∀ z, new.listeners.get z = (r.listeners.get z &&
      !(decide (z = .z3 ∨ z = .z4) && r.joinable && !new.joinable))) ∧
    new.state = r.state ∧ new.tone = r.tone ∧ new.ringUnplayed = r.ringUnplayed) ∧
  (∀ (gain : Int) (s : State), s.Running → exec (.setUplinkGain .front gain) s = .next (s.onCab fun c =>
    respond .front (if 0 ≤ gain ∧ gain ≤ 24 then .done else .clamped) []
      { c with calls := { c.calls with uplinkGain := max 0 (min 24 gain) } })) ∧
  (∀ (h : Handle) (i : Fin 2) (r : CallRecord) (n : Nat) (z : Zone) (s : State), s.Running →
    finOf? 2 h.slot = some i → callOf s.cab i h = some r → Zone.ofNat? n = some z →
    exec (.joinCall .front h n) s = .next (s.onCab (respond .front .denied [])) ∧
    exec (.leaveCall .front h n) s = .next (s.onCab (respond .front .denied [])) ∧
    (z ≠ .z3 → z ≠ .z4 → exec (.joinCall .rear h n) s = .next (s.onCab (respond .rear .denied [])) ∧
      exec (.leaveCall .rear h n) s = .next (s.onCab (respond .rear .denied []))) ∧
    (z = .z3 ∨ z = .z4 →
      (r.joinable = false → exec (.joinCall .rear h n) s = .next (s.onCab (respond .rear .denied []))) ∧
      (r.joinable = true → r.privacy = true →
        exec (.joinCall .rear h n) s = .next (s.onCab (respond .rear .wrongState [])))))

/-- 07 R134 to R136: the ERLE of a block, what the end of a block does in each state, the end of the DOUBLE-TALK timer
and a reconvergence trigger; none of them changes the estimate of the path. The exact quiet threshold is log 19, the
discard at a trigger log 44 (both DEDUCED), that ECHO_BLOCK_END does nothing in IDLE and the end of the DOUBLE-TALK
timer nothing out of DOUBLE-TALK log 4 (DEDUCED), and that ECHO_BLOCK_END does nothing below 3072 samples log 3 (DESIGN
CHOICE). -/
def Obligations.CancellerFollowsItsBlocks : Prop :=
  (∀ v : Canceller, (v.residualSquares = 0 → erle v = 120) ∧ erle v ≤ 120 ∧
    (v.residualSquares ≠ 0 → (∀ h, 1 ≤ h → h ≤ 120 →
      (h ≤ erle v ↔ 10 ^ h * v.residualSquares ^ 20 ≤ v.micSquares ^ 20)))) ∧
  (∀ s : State, (s.cab.calls.canceller.state = .idle ∨ s.cab.calls.canceller.samples < 3072) →
    exec .echoBlockEnd s = .next s) ∧
  (∀ s : State, s.cab.calls.canceller.state ≠ .idle → 3072 ≤ s.cab.calls.canceller.samples →
    ∃ t v, exec .echoBlockEnd s = .next t ∧ v = s.cab.calls.canceller ∧
      (let w := t.cab.calls.canceller
       let quiet := v.micSquares * 10 ^ 7 < 3072 * 8388608 ^ 2
       w.path = v.path ∧ w.samples = 0 ∧ w.micSquares = 0 ∧ w.residualSquares = 0 ∧ w.discard = false ∧
       (v.discard = true ∨ quiet → w.state = v.state ∧ w.run = v.run) ∧
       (v.discard = false → ¬ quiet →
         (v.state = .converging → erle v < 36 → w.state = .converging ∧ w.run = 0) ∧
         (v.state = .converging → 36 ≤ erle v → v.run + 1 < 8 → w.state = .converging ∧ w.run = v.run + 1) ∧
         (v.state = .converging → 36 ≤ erle v → 8 ≤ v.run + 1 → w.state = .tracking) ∧
         (v.state = .tracking → erle v < 12 → w.state = .doubleTalk ∧ w.run = 0) ∧
         (v.state = .tracking → 12 ≤ erle v → w.state = .tracking) ∧
         (v.state = .doubleTalk → erle v < 24 → w.state = .doubleTalk ∧ w.run = 0) ∧
         (v.state = .doubleTalk → 24 ≤ erle v → v.run + 1 < 4 → w.state = .doubleTalk ∧ w.run = v.run + 1) ∧
         (v.state = .doubleTalk → 24 ≤ erle v → 4 ≤ v.run + 1 → w.state = .tracking)) ∧
       (w.state ≠ v.state → s.cab.ports.part.posts = true → t.shows .front .echo) ∧
       (w.state = v.state → t.cab.ports = s.cab.ports)) ∧
      t = s.onCab fun c => { c with ports := t.cab.ports, calls := { c.calls with canceller := t.cab.calls.canceller } }) ∧
  (∀ s : State, exec .doubleTalkTimeout s = .next (s.onCab fun c =>
    if c.calls.canceller.state = .doubleTalk then post .front .echo (setCanceller { c.calls.canceller with
      state := .converging, run := 0, discard := true } c) else c)) ∧
  (∀ c : Cabin, (c.calls.canceller.state = .idle → reconverge c = c) ∧
    (c.calls.canceller.state ≠ .idle → (reconverge c).calls.canceller = { c.calls.canceller with
        state := .converging, run := 0, discard := true } ∧
      (c.calls.canceller.state = .converging → (reconverge c).ports = c.ports) ∧
      (c.calls.canceller.state ≠ .converging → reconverge c = post .front .echo (setCanceller
        { c.calls.canceller with state := .converging, run := 0, discard := true } c))))

/-! ## The speaker ring (08) -/

/-- 08 R146, R147, 09 R153: System Mute, and a change of the line seen with what it brings about. That System Mute
itself leaves the line seen is log 36 (DESIGN CHOICE), and that a part held in reset takes no change of the line is log
4 (DEDUCED). -/
def Obligations.MuteLineAndItsCauses : Prop :=
  (∀ (v : Nat) (on : Bool) (s : State), s.Running → firstOfTwo? v = some on →
    (∃ t, exec (.systemMute .front v) s = .next t ∧ t.answer .front = some ⟨.done, []⟩ ∧
      t.ring = { s.ring with
        drive := { s.ring.drive with request := on },
        externalMute := s.ring.lineSeen && !(s.ring.drive.supply || on || s.ring.drive.liteReset) } ∧
      (∀ p k, t.shows p k ↔ s.shows p k ∨ (k = .mute ∧ t.ring.externalMute ≠ s.ring.externalMute)) ∧
      t.supply = s.supply ∧ t.pending = s.pending ∧ t.free = s.free ∧ KeptPorts .front s t ∧ KeptCabin s t) ∧
    exec (.systemMute .rear v) s = .next (s.onCab (respond .rear .denied []))) ∧
  (∀ (asserted : Bool) (s : State), s.cab.ports.part.posts = true → s.ring.lineSeen ≠ asserted →
    ∃ t, exec (.muteLineChange asserted) s = .next t ∧
      t.ring = { s.ring with
        lineSeen := asserted,
        externalMute := asserted && !(s.ring.drive.supply || s.ring.drive.request || s.ring.drive.liteReset) } ∧
      (∀ p, t.shows p .mute) ∧ KeptEvents s t ∧
      (asserted = false → s.supply.afterLow = true → t.supply = { s.supply with afterLow := false } ∧
        t.cab.calls = (reconverge s.cab).calls) ∧
      (asserted = true ∨ s.supply.afterLow = false → t.supply = s.supply ∧ t.cab.calls = s.cab.calls) ∧
      t.pending = s.pending ∧ t.free = s.free ∧ KeptPorts .front s t ∧ t.answer .front = s.answer .front ∧
      t.cab.dir = s.cab.dir ∧ t.cab.mix = s.cab.mix ∧ t.cab.builder = s.cab.builder ∧ t.cab.table = s.cab.table ∧
      t.cab.alloc = s.cab.alloc ∧ t.cab.queue = s.cab.queue) ∧
  (∀ (asserted : Bool) (s : State), (s.cab.ports.part = .held ∨ s.ring.lineSeen = asserted) →
    exec (.muteLineChange asserted) s = .next s)

/-- 08 R138, R140, R145: the frames' counts, the ring's way to UP and back to LOCKING, the discovery polls and their
answers. That RING_UP and RING_DOWN do nothing before their counts is log 3 (DESIGN CHOICE), that POLL_ANSWER does
nothing out of its place is logs 4 and 25, and that RING_DOWN passes through DOWN in one step is log 45 (DEDUCED). -/
def Obligations.RingLocksPollsAndFalls : Prop :=
  (∀ (f : RingFrame) (s : State), ∃ t, exec (.returnFrame f) s = .next t ∧
    (∀ i, t.node i = { s.node i with corrupt := (
      if (s.node i).state = .absent then (s.node i).corrupt
      else if f.words.get i = .good then 0 else min 8 ((s.node i).corrupt + 1)) }) ∧
    t.ring.goodFrames = (if s.ring.state = .locking then
      if f.synchronised then min 96 (s.ring.goodFrames + 1) else 0 else s.ring.goodFrames) ∧
    t.ring.badFrames = (if s.ring.state = .up then
      if f.synchronised then 0 else min 4 (s.ring.badFrames + 1) else s.ring.badFrames) ∧
    t = { s with ring := { s.ring with
      nodes := t.ring.nodes, goodFrames := t.ring.goodFrames, badFrames := t.ring.badFrames } }) ∧
  (∀ s : State, s.ring.state = .locking → 96 ≤ s.ring.goodFrames → s.cab.ports.part.posts = true →
    ∃ t, exec .ringUp s = .next t ∧ t.ring.state = .up ∧ t.ring.goodFrames = 0 ∧ t.ring.badFrames = 0 ∧
      (∀ i, t.node i = if (s.node i).state = .absent then { s.node i with sent := some .poll } else s.node i) ∧
      t.ring.placement = s.ring.placement ∧ t.ring.drive = s.ring.drive ∧ t.ring.lineSeen = s.ring.lineSeen ∧
      t.ring.externalMute = s.ring.externalMute ∧ t.shows .front .ring ∧ OnlyEvents s t ∧ KeptBeyondRing s t) ∧
  (∀ s : State, (s.ring.state ≠ .locking ∨ s.ring.goodFrames < 96) → exec .ringUp s = .next s) ∧
  (∀ s : State, s.ring.state = .up → 4 ≤ s.ring.badFrames → s.cab.ports.part.posts = true →
    ∃ t, exec .ringDown s = .next t ∧ t.ring.state = .locking ∧ t.ring.goodFrames = 0 ∧ t.ring.badFrames = 0 ∧
      (∀ i, t.node i = if (s.node i).state = .absent then s.node i else { s.node i with
        state := .absent, retry := 0, fault := none, corrupt := 0, sent := none, echoed := none, config := [],
        sticky := { (s.node i).sticky with linkLost := true } }) ∧
      (∀ z, (t.ring.placement.get z).entry = (s.ring.placement.get z).entry ∧
        ((t.ring.placement.get z).status = if (List.finRange 6).any fun i =>
            decide ((s.node i).state ≠ .absent) && placedOn (s.ring.placement.get z) i
          then .pending else (s.ring.placement.get z).status)) ∧
      ((∃ i, (s.node i).state = .running ∧ ∃ z : ZoneChan, z.val < 10 ∧ carriedOn s.ring i z = true) →
        t.cab.calls = (reconverge s.cab).calls) ∧
      ((∀ i, (s.node i).state = .running → ∀ z : ZoneChan, z.val < 10 → carriedOn s.ring i z = false) →
        t.cab.calls = s.cab.calls) ∧
      t.ring.drive = s.ring.drive ∧ t.ring.lineSeen = s.ring.lineSeen ∧ t.ring.externalMute = s.ring.externalMute ∧
      t.shows .front .ring ∧ EventsAndCanceller s t ∧ KeptBeyondRing s t) ∧
  (∀ s : State, (s.ring.state ≠ .up ∨ s.ring.badFrames < 4) → exec .ringDown s = .next s) ∧
  (∀ s : State, ∃ t, exec .discoveryPoll s = .next t ∧
    (∀ i, t.node i = if s.ring.state = .up ∧ (s.node i).state = .absent then { s.node i with sent := some .poll }
      else s.node i) ∧
    t = { s with ring := { s.ring with nodes := t.ring.nodes } }) ∧
  (∀ (i : Fin 6) (s : State), s.ring.state = .up → (s.node i).state = .absent → (s.node i).sent = some .poll →
    s.cab.ports.part.posts = true → ∃ t, exec (.pollAnswer i) s = .next t ∧
      t.node i = { s.node i with
        state := .discovered, pages := 0, toggle := false, corrupt := 0, sent := some .abilityRequest, echoed := none } ∧
      (∀ j, j ≠ i → t.node j = s.node j) ∧ t.ring = { s.ring with nodes := t.ring.nodes } ∧
      t.shows .front .ring ∧ OnlyEvents s t ∧ KeptBeyondRing s t) ∧
  (∀ (i : Fin 6) (s : State), (s.ring.state ≠ .up ∨ (s.node i).state ≠ .absent) → exec (.pollAnswer i) s = .next s)

/-- 08 R145, R139, R143, R148: a node lost by eight corrupt words, and Restart Node, which leaves link-lost as it was;
Read Node clears the sticky flags alone, and its record is spelled word by word (10 R167). That NODE_LOST does nothing
before eight corrupt words is logs 3 (DESIGN CHOICE) and 4 (DEDUCED); the word for a node kind or level class that is
none is log 12 (DESIGN CHOICE). -/
def Obligations.NodesAreLostAndRestarted : Prop :=
  (∀ (cmd : Instr) (linkLost : Bool) (i : Fin 6) (s : State), s.cab.ports.part.posts = true →
    (s.node i).state ≠ .absent →
    ((cmd = .nodeLost i ∧ 8 ≤ (s.node i).corrupt ∧ linkLost = true) ∨
     (cmd = .restartNode .front i.val ∧ s.Running ∧ linkLost = false)) →
    ∃ t, exec cmd s = .next t ∧ (linkLost = false → t.answer .front = some ⟨.done, []⟩) ∧
      t.node i = { s.node i with
        state := .absent, retry := 0, fault := none, corrupt := 0, sent := none, echoed := none, config := [],
        sticky := { (s.node i).sticky with linkLost := (s.node i).sticky.linkLost || linkLost } } ∧
      (∀ j, j ≠ i → t.node j = s.node j) ∧
      (∀ z, t.ring.placement.get z = if placedOn (s.ring.placement.get z) i
        then { s.ring.placement.get z with status := .pending } else s.ring.placement.get z) ∧
      ((s.node i).state = .running → (∃ z : ZoneChan, z.val < 10 ∧ carriedOn s.ring i z = true) →
        t.cab.calls = (reconverge s.cab).calls) ∧
      ((s.node i).state ≠ .running ∨ (∀ z : ZoneChan, z.val < 10 → carriedOn s.ring i z = false) →
        t.cab.calls = s.cab.calls) ∧
      t.ring = { s.ring with nodes := t.ring.nodes, placement := t.ring.placement } ∧ t.shows .front .ring ∧
      (linkLost = true → t.answer .front = s.answer .front) ∧ KeptPorts .front s t ∧ KeptEvents s t ∧
      t.cab.dir = s.cab.dir ∧ t.cab.mix = s.cab.mix ∧ t.cab.builder = s.cab.builder ∧ t.cab.table = s.cab.table ∧
      t.cab.alloc = s.cab.alloc ∧ t.cab.queue = s.cab.queue ∧ KeptBeyondRing s t) ∧
  (∀ (i : Fin 6) (s : State), (s.node i).state = .absent ∨ (s.node i).corrupt < 8 →
    exec (.nodeLost i) s = .next s) ∧
  (∀ (i : Fin 6) (s : State), s.Running →
    ((s.node i).state = .absent → exec (.restartNode .front i.val) s = .next (s.onCab (respond .front .wrongState []))) ∧
    (∃ t, exec (.readNode .front i.val) s = .next t ∧ t.answer .front = some ⟨.done, nodeWords i (s.node i)⟩ ∧
      t.node i = { s.node i with sticky := ⟨false, false, false, false⟩ } ∧ (∀ j, j ≠ i → t.node j = s.node j) ∧
      t.ring = { s.ring with nodes := t.ring.nodes } ∧ t.cab.ports.events = s.cab.ports.events ∧
      KeptPorts .front s t ∧ KeptCabin s t ∧ KeptBeyondRing s t)) ∧
  (∀ (i : Fin 6) (n : Node), nodeWords i n = [
    BitVec.ofNat 16 i.val,
    (match n.state with
      | .absent => 0 | .discovered => 1 | .exchanging => 2 | .configuring => 3 | .running => 4 | .fault => 5),
    (match n.kind with | none => 65535 | some .speakerAmp => 0 | some .headphoneAmp => 1 | some .subAmp => 2),
    (n.channels.map (BitVec.ofNat 16)).getD 65535, (n.levelClass.map fun l => BitVec.ofNat 16 l.val).getD 65535,
    BitVec.ofNat 16 n.pages, BitVec.ofNat 16 n.toggle.toNat, BitVec.ofNat 16 n.retry,
    (match n.fault with | none => 0 | some .exchange => 1 | some .refused => 2 | some .reported => 3),
    BitVec.ofNat 16 n.corrupt,
    BitVec.ofNat 16 (n.sticky.linkLost.toNat + 2 * n.sticky.overTemperature.toNat + 4 * n.sticky.outputShort.toNat +
      8 * n.sticky.nodeSupply.toNat)])

/-- 08 R141, R142: an ability page and the page timer, row by row: a repeat is acknowledged and discarded; a page in its
place is accepted; the last one begins the configuration; and a page error or the timer fails the exchange. That a page
error leaves kind, channel count and level class as they were is log 22, and that a retry begins with no acknowledgement
sent log 25 (both DEDUCED). -/
def Obligations.AbilityExchangeTakesItsPages : Prop :=
  ∀ (i : Fin 6) (page : AbilityPage) (n : Node) (s : State), n = s.node i →
    (n.state = .discovered ∨ n.state = .exchanging) →
    let failed : Node := if n.retry < 3 then
        { n with retry := n.retry + 1, pages := 0, toggle := false, sent := some .abilityRequest,
                 echoed := none }
      else { n with state := .fault, fault := some .exchange, sent := none }
    let inPlace := (∃ m, page.kind = .channel m ∧ 1 ≤ n.pages ∧ m + 1 = n.pages ∧
        (page.more = true ↔ n.channels ≠ some n.pages)) ∨
      (∃ k c l, page.kind = .base (some k) c l ∧ n.pages = 0 ∧ 1 ≤ c ∧ c ≤ 8 ∧ page.more = true)
    (∃ t, exec (.pageTimerExpiry i) s = .next t ∧ t.node i = failed ∧ ChangesNode i s t ∧
      (n.retry = 3 → s.cab.ports.part.posts = true → t.shows .front .ring)) ∧
    (page.toggle ≠ n.toggle → ∃ t, exec (.abilityPage i page) s = .next t ∧
      t.node i = { n with echoed := some page.toggle } ∧ t.cab = s.cab ∧ ChangesNode i s t) ∧
    (page.toggle = n.toggle → ¬ inPlace → ∃ t, exec (.abilityPage i page) s = .next t ∧ t.node i = failed ∧
      ChangesNode i s t) ∧
    (∀ k c l, page.toggle = n.toggle → page.kind = .base (some k) c l → inPlace →
      ∃ t, exec (.abilityPage i page) s = .next t ∧
        t.node i = { n with
          state := .exchanging, kind := some k, channels := some c, levelClass := some l, pages := 1,
          toggle := !n.toggle, sent := none, echoed := some page.toggle } ∧ ChangesNode i s t) ∧
    (∀ m, page.toggle = n.toggle → page.kind = .channel m → inPlace →
      ∃ t, exec (.abilityPage i page) s = .next t ∧
        (page.more = true → t.node i = { n with
          state := .exchanging, pages := n.pages + 1, toggle := !n.toggle,
          sent := none, echoed := some page.toggle } ∧ ChangesNode i s t) ∧
        (page.more = false → BeginsConfiguring i s t ∧
          t.node i = { n with
            state := .configuring, fault := none, pages := n.pages + 1, toggle := !n.toggle,
            config := (t.node i).config, sent := some (.configPage 0), echoed := some page.toggle }))

/-- 08 R143, R144: the configuration of a node, page by page, its time-outs and refusals, and the status reports; a
repeat of the last ability page is acknowledged again (08 R141; log 25). That answers, time-outs, reports and pages out
of their place change nothing is log 4 (DEDUCED). -/
def Obligations.ConfigurationAndStatusReports : Prop :=
  (∀ (i : Fin 6) (n : Node) (s : State), n = s.node i → n.state = .configuring →
    (∃ t, exec (.configTimeout i) s = .next t ∧ ChangesNode i s t ∧
      t.node i = if n.retry < 3 then { n with retry := n.retry + 1, sent := some (.configPage 0) }
        else { n with state := .fault, fault := some .exchange, sent := none }) ∧
    (∃ t, exec (.configPageAnswer i false) s = .next t ∧ ChangesNode i s t ∧
      t.node i = { n with state := .fault, fault := some .refused, sent := none }) ∧
    (∀ k, n.sent = some (.configPage k) → ∃ t, exec (.configPageAnswer i true) s = .next t ∧ t.cab = s.cab ∧
      ChangesNode i s t ∧
      t.node i = { n with
        sent := some (if k + 1 < n.config.length then .configPage (k + 1) else .finalPage) }) ∧
    (n.sent = some .finalPage → ∃ t, exec (.configPageAnswer i true) s = .next t ∧
      t.node i = { n with state := .running, retry := 0, sent := none } ∧
      (∀ j, j ≠ i → t.node j = s.node j) ∧
      (∀ z, t.ring.placement.get z =
        if placedOn (s.ring.placement.get z) i = true ∧ n.config.contains (some z) = true
        then { s.ring.placement.get z with status := .carried } else s.ring.placement.get z) ∧
      t.ring = { s.ring with nodes := t.ring.nodes, placement := t.ring.placement } ∧
      (s.cab.ports.part.posts = true → t.shows .front .ring) ∧ OnlyEvents s t ∧ KeptBeyondRing s t)) ∧
  (∀ (i : Fin 6) (b : Bool) (s : State), (s.node i).state ≠ .configuring →
    exec (.configTimeout i) s = .next s ∧ exec (.configPageAnswer i b) s = .next s) ∧
  (∀ (i : Fin 6) (f : FaultFlags) (n : Node) (s : State), n = s.node i → s.cab.ports.part.posts = true →
    let shown := f.overTemperature || f.outputShort || f.nodeSupply
    let sticky : Sticky := { n.sticky with
      overTemperature := n.sticky.overTemperature || f.overTemperature,
      outputShort := n.sticky.outputShort || f.outputShort, nodeSupply := n.sticky.nodeSupply || f.nodeSupply }
    (n.state = .running → shown = false → exec (.statusReport i f) s = .next s) ∧
    (n.state = .running → shown = true → ∃ t, exec (.statusReport i f) s = .next t ∧
      t.node i = { n with state := .fault, fault := some .reported, sticky := sticky } ∧
      (∀ j, j ≠ i → t.node j = s.node j) ∧
      (∀ z, t.ring.placement.get z = if carriedOn s.ring i z = true
        then { s.ring.placement.get z with status := .pending } else s.ring.placement.get z) ∧
      ((∃ z : ZoneChan, z.val < 10 ∧ carriedOn s.ring i z = true) → t.cab.calls = (reconverge s.cab).calls) ∧
      ((∀ z : ZoneChan, z.val < 10 → carriedOn s.ring i z = false) → t.cab.calls = s.cab.calls) ∧
      t.ring = { s.ring with nodes := t.ring.nodes, placement := t.ring.placement } ∧ t.shows .front .ring ∧
      EventsAndCanceller s t ∧ KeptBeyondRing s t) ∧
    (n.state = .fault → n.fault = some .reported → shown = true → ∃ t, exec (.statusReport i f) s = .next t ∧
      t.node i = { n with sticky := sticky } ∧ ChangesNode i s t ∧ (t.shows .front .ring ↔
        s.shows .front .ring ∨ sticky ≠ n.sticky)) ∧
    (n.state = .fault → n.fault = some .reported → shown = false → ∃ t, exec (.statusReport i f) s = .next t ∧
      BeginsConfiguring i s t ∧ t.node i = { n with
        state := .configuring, fault := none, config := (t.node i).config, sent := some (.configPage 0) }) ∧
    (n.state ≠ .running → (n.state ≠ .fault ∨ n.fault ≠ some .reported) →
      exec (.statusReport i f) s = .next s)) ∧
  (∀ (i : Fin 6) (n : Node) (s : State), n = s.node i → (n.state ≠ .discovered ∧ n.state ≠ .exchanging) →
    exec (.pageTimerExpiry i) s = .next s ∧ ∀ page : AbilityPage,
      (n.state = .configuring → page.toggle ≠ n.toggle → ∃ t, exec (.abilityPage i page) s = .next t ∧
        t.node i = { n with echoed := some page.toggle } ∧ t.cab = s.cab ∧ ChangesNode i s t) ∧
      (n.state ≠ .configuring ∨ page.toggle = n.toggle → exec (.abilityPage i page) s = .next s))

/-! ## Supply dips and start-up (09) -/

/-- 09 R150 to R154, 05 R101, 04 R66: a sample of the rail, by the table of R150; the first sample after power-on
reset, in NORMAL or after an Expect Dip in DIP; and what entering and leaving LOW does to the mute line, the tuners and
the scan; the last channel quality stands, measured as it was (05 R87). The voltage in whole millivolts is log 10, and
that the first sample ends an expect window log 38 (both DESIGN CHOICE). -/
def Obligations.SupplySamplesMoveTheState : Prop :=
  (∀ (mv v : Nat) (s : State), s.cab.ports.part ≠ .held → s.supply.previous = some v → 5000 ≤ mv →
    ∃ t new, exec (.supplySample mv) s = .next t ∧
      new = (if mv < 6000 then SupplyState.low
        else if mv < 7000 then (if s.supply.state = .low then .low else .dip)
        else if 9000 < mv ∧ v ≤ 9000 ∧ (s.supply.state = .dip ∨ s.supply.state = .low) then .settle
        else s.supply.state) ∧
      t.supply = { s.supply with
        state := new, previous := some mv, crank := if new = s.supply.state then s.supply.crank else -36,
        window := s.supply.window && !(decide (mv < 7000) || decide (9000 < mv ∧ v ≤ 9000)) } ∧
      (new ≠ s.supply.state → s.cab.ports.part.posts = true → t.shows .front .supply ∧ t.shows .rear .supply) ∧
      (new = s.supply.state → t.cab = s.cab ∧ t.ring = s.ring) ∧
      (new ≠ s.supply.state → new ≠ .low → s.supply.state ≠ .low → OnlyEvents s t ∧ t.ring = s.ring) ∧
      (new = .low → s.supply.state ≠ .low →
        t.ring = { s.ring with drive := { s.ring.drive with supply := true }, externalMute := false } ∧
        t.cab.alloc.stopped = true ∧
        (∀ u, (t.cab.tuner u).tuned = none ∧ (t.cab.tuner u).smoothed = none ∧
          (t.cab.tuner u).acc = emptyAcceptance ∧
          (t.cab.tuner u).role = if (servedBy s.cab u).isSome then .programme else .idle) ∧
        (∀ x, t.cab.chan x = { s.cab.chan x with
          retuning := (s.cab.chan x).station.isSome, diversity := false, partner := false, highRun := 0,
          followCount := 0, follow := none }) ∧
        t.cab.table.position = ⟨.fm, 0⟩ ∧ t.cab.table.dwell = none ∧ t.cab.table.tableFull = false ∧
        ∀ i, t.cab.stationSlot i = { s.cab.stationSlot i with
          record := (s.cab.stationSlot i).record.map fun r => { r with received := false } }) ∧
      (s.supply.state = .low → new = .settle → t.ring = s.ring ∧ t.cab.alloc.stopped = false ∧
        (∀ x, (t.cab.chan x).station = (s.cab.chan x).station ∧ (t.cab.chan x).serving = (s.cab.chan x).serving) ∧
        (∀ x h, (s.cab.chan x).station = some h → ∀ r, s.cab.station h = some r → ∀ u, (s.cab.chan x).serving = some u →
          (s.cab.chan x.other).serving ≠ some u → (t.cab.chan x).retuning = true ∧
          (t.cab.tuner u).tuned = some r.freq ∧ (t.cab.tuner u).smoothed = none ∧ (t.cab.tuner u).role = .programme) ∧
        t.cab.table.slots = s.cab.table.slots ∧ t.cab.table.position = s.cab.table.position) ∧
      (new ≠ s.supply.state → (new = .low ∨ s.supply.state = .low) →
        (∀ l k r, (t.cab.route l k).record = some r → r.state = routeState t.cab l r) ∧
        (∀ l k, SameRoute (t.cab.route l k) (s.cab.route l k))) ∧
      t.cab.dir.zones = s.cab.dir.zones ∧ t.cab.queue = s.cab.queue ∧ t.cab.calls = s.cab.calls ∧
      t.cab.table.watch = s.cab.table.watch ∧ t.cab.mix.channels = s.cab.mix.channels ∧ t.free = s.free ∧
      t.pending = s.pending ∧ KeptPorts .front s t ∧ t.answer .front = s.answer .front ∧ KeptEvents s t ∧
      KeptPlans s t ∧ KeptLevels s t) ∧
  (∀ (mv : Nat) (s : State), s.cab.ports.part ≠ .held → s.supply.previous = none → 5000 ≤ mv →
    s.supply.state = .normal ∨ s.supply.state = .dip → ∃ t, exec (.supplySample mv) s = .next t ∧
      t.supply = { s.supply with
        state := if 9000 ≤ mv then .normal else if 6000 ≤ mv then .dip else .low,
        previous := some mv, crank := if 9000 ≤ mv then 0 else -36, window := false } ∧
      (t.supply.state ≠ s.supply.state → s.cab.ports.part.posts = true → t.shows .front .supply ∧
        t.shows .rear .supply) ∧
      t.ring.drive.supply = (s.ring.drive.supply || decide (mv < 6000)) ∧
      (mv < 6000 → t.cab.alloc.stopped = true) ∧ (6000 ≤ mv → OnlyEvents s t ∧ t.ring = s.ring))

/-- 09 R151 to R153: the settle timer, the rise of RECOVER, the expect window and Expect Dip. That the timers do nothing
out of their state is log 4 (DEDUCED). -/
def Obligations.SupplyTimersAndExpectDip : Prop :=
  (∀ s : State, s.supply.state = .settle → ∃ t, exec .settleTimerExpiry s = .next t ∧
    t.supply = { s.supply with
      state := .recover, crank := -36, afterLow := s.supply.afterLow || s.ring.drive.supply } ∧
    t.ring.drive = { s.ring.drive with supply := false } ∧
    (s.ring.drive.supply = true → t.ring.externalMute =
      (s.ring.lineSeen && !(s.ring.drive.request || s.ring.drive.liteReset))) ∧
    (s.ring.drive.supply = false → t.ring = s.ring) ∧
    t.ring = { s.ring with drive := t.ring.drive, externalMute := t.ring.externalMute } ∧
    (s.cab.ports.part.posts = true → ∀ p, t.shows p .supply ∧
      (t.ring.externalMute ≠ s.ring.externalMute → t.shows p .mute)) ∧
    OnlyEvents s t ∧ t.free = s.free ∧ t.pending = s.pending) ∧
  (∀ s : State, s.supply.state ≠ .settle → exec .settleTimerExpiry s = .next s) ∧
  (∀ s : State, s.supply.state = .recover → ∃ t, exec .recoverStep s = .next t ∧
    (s.supply.crank < -1 → t = s.setSupply { s.supply with crank := s.supply.crank + 1 }) ∧
    (-1 ≤ s.supply.crank → t.supply = { s.supply with state := .normal, crank := 0 } ∧ t.ring = s.ring ∧
      (s.cab.ports.part.posts = true → ∀ p, t.shows p .supply) ∧ OnlyEvents s t ∧ t.free = s.free ∧
      t.pending = s.pending)) ∧
  (∀ s : State, s.supply.state ≠ .recover → exec .recoverStep s = .next s) ∧
  (∀ (n : Nat) (s : State), s.supply.state = .recover → s.supply.crank = -36 → n ≤ 36 →
    (recoverStep^[n] s).supply.crank = -36 + n ∧ ((recoverStep^[n] s).supply.state = .normal ↔ n = 36)) ∧
  (∀ (v : Nat) (s : State), s.supply.window = true → s.supply.previous = some v →
    ∃ t, exec .expectWindowExpiry s = .next t ∧
      (v < 9000 → t = s.setSupply { s.supply with window := false }) ∧
      (9000 ≤ v → t.supply = { s.supply with window := false, state := .settle, crank := -36 } ∧ t.ring = s.ring ∧
        (s.supply.state ≠ .settle → s.cab.ports.part.posts = true → ∀ p, t.shows p .supply) ∧ OnlyEvents s t ∧
        t.free = s.free ∧ t.pending = s.pending)) ∧
  (∀ s : State, s.supply.window = false → exec .expectWindowExpiry s = .next s) ∧
  (∀ s : State, s.Running →
    (s.supply.state = .normal → ∃ t, exec (.expectDip .front) s = .next t ∧ t.answer .front = some ⟨.done, []⟩ ∧
      t.supply = { s.supply with state := .dip, crank := -36, window := true } ∧ t.ring = s.ring ∧
      (∀ p, t.shows p .supply) ∧ t.free = s.free ∧ t.pending = s.pending ∧ KeptPorts .front s t ∧ KeptEvents s t ∧
      KeptCabin s t) ∧
    (s.supply.state ≠ .normal → exec (.expectDip .front) s = .next (s.onCab (respond .front .wrongState []))) ∧
    exec (.expectDip .rear) s = .next (s.onCab (respond .rear .denied [])))

/-- 09 R154 to R156, 01 R1, 03 R44, 05 R103, 08 R138: power-on and brownout reset, the start, and the end of the
calibration load, valid or not. The model's own queue of commands and counter go on through a reset (log 1). The line
operand of START_UP is log 24, the operands of the image log 11 (both DESIGN CHOICE), and that the commands do nothing
out of their place log 4 (DEDUCED). -/
def Obligations.ResetsAndStartUp : Prop :=
  (∀ s : State, exec .powerOnReset s = .next { State.reset with free := s.free, pending := s.pending }) ∧
  (∀ (mv : Nat) (s : State), mv < 5000 → s.cab.ports.part ≠ .held →
    exec (.supplySample mv) s = .next { State.reset with free := s.free, pending := s.pending }) ∧
  (∀ (mv : Nat) (s : State), s.cab.ports.part = .held → exec (.supplySample mv) s = .next s) ∧
  (∀ (mv : Nat) (line : Bool) (s : State),
    (s.cab.ports.part = .held → 5000 ≤ mv → ∃ t, exec (.startUp mv line) s = .next t ∧
      t.ring = { s.ring with
        lineSeen := line,
        externalMute := line && !(s.ring.drive.supply || s.ring.drive.request || s.ring.drive.liteReset) } ∧
      t.supply = s.supply ∧ t.free = s.free ∧ t.pending = s.pending ∧
      t.cab = { s.cab with ports := { s.cab.ports with part := .starting } }) ∧
    (s.cab.ports.part ≠ .held ∨ mv < 5000 → exec (.startUp mv line) s = .next s)) ∧
  (∀ (e : EepromRead) (s : State), s.cab.ports.part = .starting →
    ∃ t, exec (.imageLoadEnd e) s = .next t ∧ t.Running ∧
      (∀ lengthOk others check values, e = .read lengthOk others check values →
        lengthOk = true ∧ others.foldl (· + ·) 0 = check →
        t.supply.imageAbsent = false ∧
        (∀ z, let a := t.supply.image.zones.get z
          let b := values.zones.get z
          a.absoluteCeiling = max (-192) (min 0 b.absoluteCeiling) ∧
          a.defaultCeiling = max (-192) (min 0 b.defaultCeiling) ∧
          a.duckDepth = max (-80) (min 0 b.duckDepth) ∧ a.callDuckDepth = max (-80) (min 0 b.callDuckDepth) ∧
          a.traffic = max (-120) (min 0 b.traffic) ∧ a.nav = max (-120) (min 0 b.nav) ∧
          a.chime = max (-120) (min 0 b.chime) ∧ a.ring = max (-120) (min 0 b.ring) ∧ a.accept = b.accept) ∧
        (∀ c, t.supply.image.map.get c = (values.map.get c).filter fun x => decide (x.1 ≤ 5 ∧ x.2 ≤ 7)) ∧
        (∀ u, t.supply.image.antenna.get u = max (-10) (min 10 (values.antenna.get u))) ∧
        t.supply.image.driverTrim = max (-24) (min 24 values.driverTrim) ∧
        t.supply.image.passengerTrim = max (-24) (min 24 values.passengerTrim)) ∧
      ((e = .noAnswer ∨ e = .failed ∨ (∃ lengthOk others check values, e = .read lengthOk others check values ∧
          (lengthOk = false ∨ others.foldl (· + ·) 0 ≠ check))) →
        t.supply.imageAbsent = true ∧ t.supply.image = builtInImage) ∧
      t.supply = { s.supply with image := t.supply.image, imageAbsent := t.supply.imageAbsent } ∧
      (∀ z, let a := t.supply.image.zones.get z
        t.cab.zone z = {
          present := true, list := if z = .z0 ∨ z = .z1 then some 0 else none, volume := -60,
          ceiling := min a.defaultCeiling a.absoluteCeiling, duckDepth := a.duckDepth,
          callDuckDepth := a.callDuckDepth, traffic := a.traffic, nav := a.nav, chime := a.chime, ring := a.ring,
          accept := a.accept, userMute := false, clip := ⟨false, false⟩ }) ∧
      (∀ z, Rebuilds t z) ∧ (s.cab.builder.hold = .running → t.cab.builder.job.isSome = true) ∧
      (s.ring.state = .down → t.ring.state = .locking ∧ t.shows .front .ring) ∧
      (∀ c, t.ring.placement.get c = ⟨t.supply.image.map.get c,
        if t.supply.image.map.get c = none then .unplaced else .pending⟩) ∧
      t.ring.nodes = s.ring.nodes ∧ t.ring.drive = s.ring.drive ∧ t.ring.lineSeen = s.ring.lineSeen ∧
      ((∀ x, (s.cab.chan x).serving = none) → (∀ u, (s.cab.tuner u).role = .idle) → s.cab.alloc.stopped = false →
        (t.cab.tuner .t0).role = .scan ∧ (t.cab.tuner .t0).tuned = some s.cab.table.position ∧
        (t.cab.tuner .t1).role = .idle) ∧
      t.cab.table.slots = s.cab.table.slots ∧ t.cab.table.position = s.cab.table.position ∧
      t.cab.table.watch = s.cab.table.watch ∧ t.free = s.free ∧ t.pending = s.pending) ∧
  (∀ (e : EepromRead) (s : State), s.cab.ports.part ≠ .starting → exec (.imageLoadEnd e) s = .next s)

/-! ## What every step keeps -/

/-- 09 R151, R152, 08 R147, 03 R45, 07 R121, 05 R89, R92: each of these statements about the modes of the blocks is kept
by every step from every state in which it holds. -/
def Obligations.EveryStepKeepsTheModes : Prop :=
  ∀ s t : State, step s = .next t →
    (SupplyFits s.supply → SupplyFits t.supply) ∧ (MuteFits s.ring → MuteFits t.ring) ∧
    (HoldFits s.cab → HoldFits t.cab) ∧ (CallsFit s.cab → CallsFit t.cab) ∧
    (ChannelsDiffer s.cab → ChannelsDiffer t.cab) ∧ (RolesFit s.cab → RolesFit t.cab)

/-- 04 R61, R62: every step keeps the station records distinct and their alternates in order. -/
def Obligations.EveryStepKeepsTheStationTable : Prop :=
  ∀ s t : State, step s = .next t →
    (StationsDiffer s.cab → StationsDiffer t.cab) ∧ (AlternatesFit s.cab → AlternatesFit t.cab)

/-- 01 R12, R13: every step keeps the present routes of a list distinct, and the reference counts true. -/
def Obligations.EveryStepKeepsTheDirectory : Prop :=
  ∀ s t : State, step s = .next t →
    (RoutesDiffer s.cab → RoutesDiffer t.cab) ∧ (RefsMatch s.cab → RefsMatch t.cab)

/-- 01 R7: after every step each route's state is the one its record and the blocks it depends on give; and the six rows
of R7's table that give it, in their order. -/
def Obligations.EveryStepKeepsRouteStatesDerived : Prop :=
  (∀ s t : State, step s = .next t → StatesDerived s.cab → StatesDerived t.cab) ∧
  (∀ (c : Cabin) (l : Fin 8) (r : RouteRecord),
    let linked := ∃ z, (c.zone z).present = true ∧ (c.zone z).list = some l
    (r.present = false → routeState c l r = .parked) ∧
    (r.present = true → ¬ linked → routeState c l r = .unlinked) ∧
    (r.present = true → linked → (∀ h, r.source = .station h →
      ((∀ x, (c.chan x).station ≠ some h) → routeState c l r = .waiting) ∧
      ∀ x, (c.chan x).station = some h → (c.chan x.other).station ≠ some h →
        routeState c l r = (if (c.chan x).retuning = true ∨ (∃ f, (c.chan x).follow = some f ∧ f.phase = .away)
          then .tuning else .playing)) ∧
      ∀ n, r.source = .media n → routeState c l r = if c.dir.media.get n = true then .playing else .silent))

/-- 02 R25, R32, 03 R48: every step keeps the contributions and overlays of a zone within their numbers, the overlays
that are not departing with distinct keys. -/
def Obligations.EveryStepKeepsTheMixWithinItsNumbers : Prop :=
  ∀ s t : State, step s = .next t → OverlaysDiffer s.cab → OverlaysDiffer t.cab ∧ (MixFits s.cab → MixFits t.cab)

/-- 06 R104 to R106, R110, 07 R131: every step keeps the queue without duplicates and its priorities as R105 gives, the
highest-ranked eligible entry audible in each zone, and the voices with the candidates that rank highest; and a step by
which the audible entry of Z3 or Z4 changes posts ANNOUNCE to the rear port, but where it resets the part. And what
these say, spelled: the bullets and the ranking of R106, the listened call, the overlays wanted and the candidates for
a voice. -/
def Obligations.EveryStepKeepsTheQueueAndItsSound : Prop :=
  (∀ s t : State, step s = .next t →
    (EntriesDiffer s.cab → EntriesDiffer t.cab) ∧
    (EntriesDiffer s.cab ∧ PrioritiesFit s.cab → PrioritiesFit t.cab) ∧
    (AudibleFits s.cab → AudibleFits t.cab) ∧ (AudibleFits s.cab ∧ VoicesFit s.cab → VoicesFit t.cab) ∧
    ((s.Running ∨ s.cab.ports.part = .liteReset) → t.Running →
      ((t.cab.mixZone .z3).audible ≠ (s.cab.mixZone .z3).audible ∨
        (t.cab.mixZone .z4).audible ≠ (s.cab.mixZone .z4).audible) → t.shows .rear .announce)) ∧
  (∀ (c : Cabin) (z : Zone) (e : Entry), eligible c z e = true ↔ e.targets.get z = true ∧
    (6 ≤ e.priority ∨ (c.zone z).accept.chime = true ∧ (∃ n, e.kind = .chime n) ∨
      (c.zone z).accept.nav = true ∧ e.kind = .nav ∨
      (c.zone z).accept.traffic = true ∧ ∃ h x, e.kind = .traffic h x) ∧
    (listenedCall c z = none ∨ 6 ≤ e.priority)) ∧
  (∀ (c : Cabin) (z : Zone) (h : CallId), CallsFit c → (listenedCall c z = some h ↔
    ∃ r, c.callSlot h.slot = ⟨h.gen, some r⟩ ∧ r.state = .active ∧
      (if r.privacy then ⟨false, false, true, false, false⟩ else r.listeners).get z = true)) ∧
  (∀ a b : Entry, outranks a b = true ↔
    b.priority < a.priority ∨ (b.priority = a.priority ∧ a.order < b.order)) ∧
  (∀ (n : Fin 8) (g : StationId) (x : Chan) (h : CallId), audibleKind (.chime n) = .chime ∧ audibleKind .nav = .nav ∧
    audibleKind (.traffic g x) = .traffic x ∧ audibleKind (.ring h) = .ring ∧ audibleKind (.waiting h) = .waiting) ∧
  (∀ (present : Bool) (m : MixZone) (k : OverlayKey), k ∈ wantedOverlays present m ↔ present = true ∧
    ((∃ a, k = .entry a ∧ m.audible = some a) ∨ ∃ h, k = .call h ∧ m.listened = some h)) ∧
  (∀ (c : Cabin) (i : Fin 8), (voiceCandidate c i = true ↔ ∃ e, (c.entrySlot i).entry = some e ∧ e.kind ≠ .nav ∧
      (∀ h x, e.kind ≠ .traffic h x) ∧ ∃ z a, (c.mixZone z).audible = some a ∧ a.entry = c.entryId i) ∧
    (voiceOf c i = none ↔ ∀ v x, c.queue.voices.get v = some x → x.slot ≠ i))

/-- 01 R4, R11 and the requests that the spec gives to the front alone: what no request from the rear port can change,
while no identity is deferred. The zones that are not rear-changeable, the front's own routes, and every route of a list
that such a zone names, but for its marks and its derived state; the grant, the streams, Hold, the watch station, the
patterns, the front's kept fields, the calls but for the headphone listeners, the ring and the supply monitor. -/
def Obligations.TheRearPortCannotChange : Prop :=
  ∀ (i : Instr) (s t : State), requestPort i = some .rear → NoDeferrals s.cab → exec i s = .next t →
    (∀ z, rearChangeable s.cab z = false →
      t.cab.zone z = { s.cab.zone z with clip := (t.cab.zone z).clip } ∧
      (t.cab.zone z).clip.front = (s.cab.zone z).clip.front) ∧
    (∀ l k r, (s.cab.route l k).record = some r → r.owner = .front → r.shared = false →
      SameRoute (t.cab.route l k) (s.cab.route l k)) ∧
    (∀ l k, rearMayChangeList s.cab l = false → (t.cab.route l k).gen = (s.cab.route l k).gen ∧
      (t.cab.route l k).record.map (fun r => { r with state := .parked, heard := false, altered := false }) =
        (s.cab.route l k).record.map (fun r => { r with state := .parked, heard := false, altered := false })) ∧
    t.cab.dir.rearControl = s.cab.dir.rearControl ∧ t.cab.dir.media = s.cab.dir.media ∧
    t.cab.builder.hold = s.cab.builder.hold ∧ t.cab.table.watch = s.cab.table.watch ∧
    t.cab.queue.patterns = s.cab.queue.patterns ∧ t.cab.queue.ignored = s.cab.queue.ignored ∧
    (∀ j r, (s.cab.stationSlot j).record = some r → (t.cab.stationSlot j).gen = (s.cab.stationSlot j).gen ∧
      (t.cab.stationSlot j).record.map (fun q => { q with refs := 0, kept := q.kept.set .rear false }) =
        some { r with refs := 0, kept := r.kept.set .rear false }) ∧
    (∀ j, (t.cab.callSlot j).gen = (s.cab.callSlot j).gen ∧
      (t.cab.callSlot j).record.map (fun r => { r.settings with listeners := withoutHeadphones r.listeners }) =
        (s.cab.callSlot j).record.map (fun r => { r.settings with listeners := withoutHeadphones r.listeners }) ∧
      callState t.cab j = callState s.cab j) ∧
    t.cab.calls.uplinkGain = s.cab.calls.uplinkGain ∧ t.cab.calls.canceller = s.cab.calls.canceller ∧
    t.cab.ports.part = s.cab.ports.part ∧ t.answer .front = s.answer .front ∧ KeptOutside s t

/-- 05 R102, 06 R112, R119, 07 R130, 08 R148: the requests that read return the fields of what they name and change
nothing. The call record is spelled word by word as 10 R167 lays it out. An entry and an end record are spelled word by
word too: that each kind carries every word, with 65535 for a pattern, time, station, channel, call or voice that it
lacks, is the model's choice, as is the layout of every body that R167 does not lay out and the codes of the fault
reason in Read Ring (log 12, DESIGN CHOICE), and how a time remaining is rounded is a free value (log 9). That a channel's quality is none where it
has not been measured since its last tuning is R102; which moments count as a tuning is log 48 (DEDUCED). -/
def Obligations.ReadsReturnTheFields : Prop :=
  (∀ (p : Port) (s : State), s.Running →
    exec (.readReception p) s = .next (s.onCab (respond p .done (
      let a := s.cab.chan .pc0
      let b := s.cab.chan .pc1
      let u := s.cab.tuner .t0
      let v := s.cab.tuner .t1
      [optHandle stationWord a.station, optHandle stationWord b.station,
       optWord (a.serving.map tunerNum), optWord (b.serving.map tunerNum), flagWord a.retuning, flagWord b.retuning,
       flagWord a.diversity, flagWord b.diversity, optWord ((selectedTuner a).map tunerNum),
       optWord ((selectedTuner b).map tunerNum), optWord (chanQuality a), optWord (chanQuality b)] ++
      [(followWords a.follow).headD 0, (followWords b.follow).headD 0, (followWords a.follow).getLastD 0,
       (followWords b.follow).getLastD 0] ++
      [natWord u.role.num, natWord v.role.num, optWord (u.tuned.map (·.band.num)), optWord (v.tuned.map (·.band.num)),
       optWord (u.tuned.map (·.chan)), optWord (v.tuned.map (·.chan)), optWord u.smoothed, optWord v.smoothed])))) ∧
  (∀ (p : Port) (m : Nat) (n : Fin 8) (s : State), s.Running → finOf? 8 m = some n →
    exec (.readPattern p m) s = .next (s.onCab (respond p .done (let t := s.cab.queue.patterns.get n
      [natWord t.tone, natWord t.on, natWord t.off, natWord t.repeats, natWord t.priority, zoneSetWord t.targets])))) ∧
  (∀ (p : Port) (s : State), s.Running → ∃ es, es = entriesInOrder s.cab ∧
    (∀ x, x ∈ es ↔ (s.cab.entrySlot x.1).entry = some x.2) ∧ es.Pairwise (fun a b => a.2.order ≤ b.2.order) ∧
    exec (.readAnnouncements p) s = .next (s.onCab (respond p .done (
      [natWord es.length] ++ es.flatMap (fun x => entryWords s.cab x.1 x.2) ++
      (Zone.all.map fun z => optHandle (fun (a : Audible) => entryWord a.entry) (s.cab.mixZone z).audible) ++
      [natWord s.cab.queue.ends.length] ++ s.cab.queue.ends.flatMap endWords ++ [s.cab.queue.endNumber])))) ∧
  (∀ (p : Port) (h : Handle) (i : Fin 2) (r : CallRecord) (s : State), s.Running → finOf? 2 h.slot = some i →
    callOf s.cab i h = some r →
    let concerns := r.joinable = true ∨ ∃ z, (if r.privacy then ⟨false, false, true, false, false⟩
      else r.listeners).get z = true ∧ rearChangeable s.cab z = true
    (p = .front ∨ concerns → exec (.readCall p h) s = .next (s.onCab (respond p .done (callWords s.cab i r)))) ∧
    (p = .rear → ¬ concerns → exec (.readCall p h) s = .next (s.onCab (respond p .denied [])))) ∧
  (∀ (p : Port) (s : State), s.Running → exec (.readRing p) s = .next (s.onCab (respond p .done (
    [natWord s.ring.state.num] ++ s.ring.nodes.cells.map (fun n => natWord n.state.num) ++
    s.ring.nodes.cells.map (fun n => optWord (n.kind.map nodeKindNum)) ++
    s.ring.nodes.cells.map (fun n => natWord (faultNum n.fault)) ++
    s.ring.placement.cells.map (fun e => mapEntryWord e.entry) ++
    s.ring.placement.cells.map (fun e => natWord e.status.num) ++
    [flagWord s.ring.lineSeen, flagWord s.ring.externalMute,
     bitsWord [s.ring.drive.supply, s.ring.drive.request, s.ring.drive.liteReset]])))) ∧
  (∀ (c : Cabin) (i : Fin 2) (r : CallRecord), callWords c i r = [
    BitVec.ofNat 16 ((c.callSlot i).gen.val * 4096 + i.val),
    (match r.state with | .ringing => 0 | .active => 1 | .held => 2), zoneSetWord r.listeners,
    (if r.privacy then 4 else zoneSetWord r.listeners), BitVec.ofInt 16 r.level,
    (match r.talker with | .driver => 0 | .passenger => 1 | .both => 2),
    BitVec.ofNat 16 (r.privacy.toNat + 2 * r.joinable.toNat + 4 * r.uplinkMute.toNat + 8 * r.ringUnplayed.toNat),
    (match r.tone with | none => 65535 | some a => BitVec.ofNat 16 (a.gen.val * 4096 + a.slot.val)),
    (match c.calls.canceller.state with | .idle => 0 | .converging => 1 | .tracking => 2 | .doubleTalk => 3)]) ∧
  (∀ (c : Cabin) (i : Fin 8) (e : Entry), ∃ heard time,
    (∀ z, heard.get z = true ↔ ∃ a, (c.mixZone z).audible = some a ∧ a.entry = c.entryId i) ∧
    (if e.kind = .nav ∨ e.kind.isTraffic = true
      then ∃ n, time = BitVec.ofNat 16 n ∧ 100 * n < e.timeLeft + 100 ∧ e.timeLeft < 100 * n + 100
      else time = 65535) ∧
    ((c.entrySlot i).entry = some e → entryWords c i e = [
      BitVec.ofNat 16 ((c.entrySlot i).gen.val * 4096 + i.val),
      (match e.kind with | .chime _ => 0 | .nav => 1 | .traffic _ _ => 2 | .ring _ => 3 | .waiting _ => 4),
      (match e.kind with | .chime n => BitVec.ofNat 16 n.val | .ring _ => 7 | .waiting _ => 6 | _ => 65535),
      BitVec.ofNat 16 e.priority, zoneSetWord e.targets,
      (if e.kind = .nav ∨ e.kind.isTraffic = true then if zoneSetWord heard = 0 then 0 else 1
       else if (c.queue.voices.get 0).map (·.slot) = some i ∨ (c.queue.voices.get 1).map (·.slot) = some i then 1
       else 0),
      zoneSetWord heard,
      (if (c.queue.voices.get 0).map (·.slot) = some i then 0
       else if (c.queue.voices.get 1).map (·.slot) = some i then 1 else 65535),
      time, (match e.kind with | .traffic h _ => BitVec.ofNat 16 (h.gen.val * 4096 + h.slot.val) | _ => 65535),
      (match e.kind with | .traffic _ .pc0 => 0 | .traffic _ .pc1 => 1 | _ => 65535),
      (match e.kind with
        | .ring h => BitVec.ofNat 16 (h.gen.val * 4096 + h.slot.val)
        | .waiting h => BitVec.ofNat 16 (h.gen.val * 4096 + h.slot.val)
        | _ => 65535)])) ∧
  (∀ r : EndRecord, endWords r = [
    BitVec.ofNat 16 (r.entry.gen.val * 4096 + r.entry.slot.val),
    (match r.kind with | .chime _ => 0 | .nav => 1 | .traffic _ _ => 2 | .ring _ => 3 | .waiting _ => 4),
    (match r.kind with | .chime n => BitVec.ofNat 16 n.val | .ring _ => 7 | .waiting _ => 6 | _ => 65535),
    (match r.reason with
      | .completed => 0 | .requested => 1 | .timedOut => 2 | .cleared => 3 | .uncarried => 4 | .displaced => 5
      | .call => 6), r.number]) ∧
  (∀ z : ZoneSet, zoneSetWord z =
    BitVec.ofNat 16 (z.z0.toNat + 2 * z.z1.toNat + 4 * z.z2.toNat + 8 * z.z3.toNat + 16 * z.z4.toNat)) ∧
  (∀ a b d : Bool, bitsWord [a, b, d] = BitVec.ofNat 16 (a.toNat + 2 * b.toNat + 4 * d.toNat)) ∧
  (∀ n : Nat, natWord n = BitVec.ofNat 16 n ∧ optWord (some n) = BitVec.ofNat 16 n ∧ optWord none = 65535 ∧
    flagWord true = 1 ∧ flagWord false = 0) ∧
  (∀ (h : StationId) (e : EntryId), optHandle stationWord none = 65535 ∧ optHandle stationWord (some h) =
      BitVec.ofNat 16 (h.gen.val * 4096 + h.slot.val) ∧ entryWord e = BitVec.ofNat 16 (e.gen.val * 4096 + e.slot.val)) ∧
  (∀ (f : Follow) (v : ProgChan) (p k : Nat), followWords none = [0, 65535] ∧
    followWords (some f) = [(match f.phase with | .tuningWinner _ => 3 | _ => if f.borrows then 1 else 2),
      BitVec.ofNat 16 f.pos] ∧
    chanQuality v = (if v.measured then some v.quality else none) ∧
    selectedTuner v = (if v.partner then v.serving.map TunerId.other else v.serving) ∧
    mapEntryWord none = 65535 ∧ mapEntryWord (some (p, k)) = BitVec.ofNat 16 (p * 256 + k)) ∧
  [tunerNum .t0, tunerNum .t1] = [0, 1] ∧ [Band.fm, .mw].map Band.num = [0, 1] ∧
  [Role.programme, .diversity, .scan, .followCheck, .idle].map Role.num = [0, 1, 2, 3, 4] ∧
  [RingState.down, .locking, .up].map RingState.num = [0, 1, 2] ∧
  [NodeState.absent, .discovered, .exchanging, .configuring, .running, .fault].map NodeState.num = [0, 1, 2, 3, 4, 5] ∧
  [NodeKind.speakerAmp, .headphoneAmp, .subAmp].map nodeKindNum = [0, 1, 2] ∧
  [none, some NodeFault.exchange, some .refused, some .reported].map faultNum = [0, 1, 2, 3] ∧
  [PlaceStatus.unplaced, .pending, .carried].map PlaceStatus.num = [0, 1, 2]
end

