-- ==== Sys2Proof/Laws/Tables.lean ====
section
/-! SUPPORT. Reading a table after writing it. -/

namespace Sys2Proof

namespace Tab
variable {α β : Type} {n : Nat}

@[simp] theorem get_set_same (t : Tab α n) (i : Fin n) (a : α) : (t.set i a).get i = a := by
  simp [get, set, Fin.cast]

theorem get_set_ne (t : Tab α n) (i j : Fin n) (a : α) (h : j ≠ i) : (t.set i a).get j = t.get j := by
  have hne : (i : Nat) ≠ j := fun e => h (Fin.ext e.symm)
  simp [get, set, Fin.cast, hne]

theorem get_set (t : Tab α n) (i j : Fin n) (a : α) : (t.set i a).get j = if j = i then a else t.get j := by
  by_cases h : j = i
  · subst h; simp
  · rw [get_set_ne t i j a h, if_neg h]

@[simp] theorem get_fill (i : Fin n) (a : α) : (fill n a).get i = a := by
  simp [get, fill]

@[simp] theorem get_map (f : α → β) (t : Tab α n) (i : Fin n) : (t.map f).get i = f (t.get i) := by
  simp [get, map, Fin.cast]

@[simp] theorem get_build (f : Fin n → α) (i : Fin n) : (build n f).get i = f i := by
  simp [get, build, Fin.cast]

theorem ext_get {s t : Tab α n} (h : ∀ i, s.get i = t.get i) : s = t := by
  cases s with
  | mk a ha =>
    cases t with
    | mk b hb =>
      have : a = b := by
        apply List.ext_getElem (ha.trans hb.symm)
        intro i h1 h2
        simpa [get, Fin.cast] using h ⟨i, ha ▸ h1⟩
      subst this
      rfl

@[simp] theorem set_get_same (t : Tab α n) (i : Fin n) : t.set i (t.get i) = t := by
  apply ext_get
  intro j
  by_cases h : j = i
  · subst h; simp
  · rw [get_set_ne _ _ _ _ h]

end Tab

namespace PerPort
variable {α : Type}

@[simp] theorem get_set_same (t : PerPort α) (p : Port) (a : α) : (t.set p a).get p = a := by cases p <;> rfl

@[simp] theorem get_set_other (t : PerPort α) (p : Port) (a : α) : (t.set p a).get p.other = t.get p.other := by
  cases p <;> rfl

theorem get_set_ne (t : PerPort α) (p q : Port) (a : α) (h : q ≠ p) : (t.set p a).get q = t.get q := by
  cases p <;> cases q <;> first | rfl | exact absurd rfl h

@[simp] theorem get_both (p : Port) (a : α) : (both a).get p = a := by cases p <;> rfl

end PerPort

namespace PerZone
variable {α β : Type}

@[simp] theorem get_set_same (t : PerZone α) (z : Zone) (a : α) : (t.set z a).get z = a := by cases z <;> rfl

theorem get_set_ne (t : PerZone α) (y z : Zone) (a : α) (h : y ≠ z) : (t.set z a).get y = t.get y := by
  cases z <;> cases y <;> first | rfl | exact absurd rfl h

@[simp] theorem get_build (f : Zone → α) (z : Zone) : (build f).get z = f z := by cases z <;> rfl

@[simp] theorem get_fill (a : α) (z : Zone) : (fill a).get z = a := by cases z <;> rfl

@[simp] theorem get_map (f : α → β) (t : PerZone α) (z : Zone) : (t.map f).get z = f (t.get z) := by cases z <;> rfl

theorem ext_get {s t : PerZone α} (h : ∀ z, s.get z = t.get z) : s = t := by
  cases s with
  | mk a b c d e =>
    cases t with
    | mk a' b' c' d' e' =>
      have h0 := h .z0; have h1 := h .z1; have h2 := h .z2; have h3 := h .z3; have h4 := h .z4
      simp only [get] at h0 h1 h2 h3 h4
      subst h0; subst h1; subst h2; subst h3; subst h4
      rfl

end PerZone

namespace PerChan
variable {α : Type}

@[simp] theorem get_set_same (t : PerChan α) (x : Chan) (a : α) : (t.set x a).get x = a := by cases x <;> rfl

@[simp] theorem get_set_other (t : PerChan α) (x : Chan) (a : α) : (t.set x a).get x.other = t.get x.other := by
  cases x <;> rfl

theorem get_set_ne (t : PerChan α) (x y : Chan) (a : α) (h : y ≠ x) : (t.set x a).get y = t.get y := by
  cases x <;> cases y <;> first | rfl | exact absurd rfl h

end PerChan

namespace PerTuner
variable {α : Type}

@[simp] theorem get_set_same (t : PerTuner α) (i : TunerId) (a : α) : (t.set i a).get i = a := by cases i <;> rfl

@[simp] theorem get_set_other (t : PerTuner α) (i : TunerId) (a : α) : (t.set i a).get i.other = t.get i.other := by
  cases i <;> rfl

theorem get_set_ne (t : PerTuner α) (i j : TunerId) (a : α) (h : j ≠ i) : (t.set i a).get j = t.get j := by
  cases i <;> cases j <;> first | rfl | exact absurd rfl h

end PerTuner

end Sys2Proof
end

