-- ==== Sys2Proof/Laws/State.lean ====
section
/-! SUPPORT. One lemma for each block and each basic update: which blocks an update leaves as they were. -/

namespace Sys2Proof.Machine

variable (c : Cabin) (s : State)

@[simp] theorem post_dir (p : Port) (k : EventKind) : (post p k c).dir = c.dir := by
  unfold post; split <;> rfl
@[simp] theorem post_mix (p : Port) (k : EventKind) : (post p k c).mix = c.mix := by
  unfold post; split <;> rfl
@[simp] theorem post_builder (p : Port) (k : EventKind) : (post p k c).builder = c.builder := by
  unfold post; split <;> rfl
@[simp] theorem post_table (p : Port) (k : EventKind) : (post p k c).table = c.table := by
  unfold post; split <;> rfl
@[simp] theorem post_alloc (p : Port) (k : EventKind) : (post p k c).alloc = c.alloc := by
  unfold post; split <;> rfl
@[simp] theorem post_queue (p : Port) (k : EventKind) : (post p k c).queue = c.queue := by
  unfold post; split <;> rfl
@[simp] theorem post_calls (p : Port) (k : EventKind) : (post p k c).calls = c.calls := by
  unfold post; split <;> rfl
@[simp] theorem post_part (p : Port) (k : EventKind) : (post p k c).ports.part = c.ports.part := by
  unfold post; split <;> rfl
@[simp] theorem post_relay (p : Port) (k : EventKind) : (post p k c).ports.relay = c.ports.relay := by
  unfold post; split <;> rfl
@[simp] theorem post_liteNumber (p : Port) (k : EventKind) : (post p k c).ports.liteNumber = c.ports.liteNumber := by
  unfold post; split <;> rfl
@[simp] theorem post_status (p : Port) (k : EventKind) : (post p k c).ports.status = c.ports.status := by
  unfold post; split <;> rfl
@[simp] theorem post_response (p : Port) (k : EventKind) : (post p k c).ports.response = c.ports.response := by
  unfold post; split <;> rfl

@[simp] theorem postBoth_dir (k : EventKind) : (postBoth k c).dir = c.dir := by simp [postBoth]
@[simp] theorem postBoth_mix (k : EventKind) : (postBoth k c).mix = c.mix := by simp [postBoth]
@[simp] theorem postBoth_builder (k : EventKind) : (postBoth k c).builder = c.builder := by simp [postBoth]
@[simp] theorem postBoth_table (k : EventKind) : (postBoth k c).table = c.table := by simp [postBoth]
@[simp] theorem postBoth_alloc (k : EventKind) : (postBoth k c).alloc = c.alloc := by simp [postBoth]
@[simp] theorem postBoth_queue (k : EventKind) : (postBoth k c).queue = c.queue := by simp [postBoth]
@[simp] theorem postBoth_calls (k : EventKind) : (postBoth k c).calls = c.calls := by simp [postBoth]
@[simp] theorem postBoth_part (k : EventKind) : (postBoth k c).ports.part = c.ports.part := by simp [postBoth]
@[simp] theorem postBoth_relay (k : EventKind) : (postBoth k c).ports.relay = c.ports.relay := by simp [postBoth]
@[simp] theorem postBoth_liteNumber (k : EventKind) : (postBoth k c).ports.liteNumber = c.ports.liteNumber := by simp [postBoth]
@[simp] theorem postBoth_status (k : EventKind) : (postBoth k c).ports.status = c.ports.status := by simp [postBoth]
@[simp] theorem postBoth_response (k : EventKind) : (postBoth k c).ports.response = c.ports.response := by simp [postBoth]
@[simp] theorem postIf_dir (b : Bool) (p : Port) (k : EventKind) : (postIf b p k c).dir = c.dir := by
  unfold postIf; split <;> simp
@[simp] theorem postIf_mix (b : Bool) (p : Port) (k : EventKind) : (postIf b p k c).mix = c.mix := by
  unfold postIf; split <;> simp
@[simp] theorem postIf_builder (b : Bool) (p : Port) (k : EventKind) : (postIf b p k c).builder = c.builder := by
  unfold postIf; split <;> simp
@[simp] theorem postIf_table (b : Bool) (p : Port) (k : EventKind) : (postIf b p k c).table = c.table := by
  unfold postIf; split <;> simp
@[simp] theorem postIf_alloc (b : Bool) (p : Port) (k : EventKind) : (postIf b p k c).alloc = c.alloc := by
  unfold postIf; split <;> simp
@[simp] theorem postIf_queue (b : Bool) (p : Port) (k : EventKind) : (postIf b p k c).queue = c.queue := by
  unfold postIf; split <;> simp
@[simp] theorem postIf_calls (b : Bool) (p : Port) (k : EventKind) : (postIf b p k c).calls = c.calls := by
  unfold postIf; split <;> simp
@[simp] theorem postIf_part (b : Bool) (p : Port) (k : EventKind) : (postIf b p k c).ports.part = c.ports.part := by
  unfold postIf; split <;> simp
@[simp] theorem postIf_relay (b : Bool) (p : Port) (k : EventKind) : (postIf b p k c).ports.relay = c.ports.relay := by
  unfold postIf; split <;> simp
@[simp] theorem postIf_liteNumber (b : Bool) (p : Port) (k : EventKind) : (postIf b p k c).ports.liteNumber = c.ports.liteNumber := by
  unfold postIf; split <;> simp
@[simp] theorem postIf_status (b : Bool) (p : Port) (k : EventKind) : (postIf b p k c).ports.status = c.ports.status := by
  unfold postIf; split <;> simp
@[simp] theorem postIf_response (b : Bool) (p : Port) (k : EventKind) : (postIf b p k c).ports.response = c.ports.response := by
  unfold postIf; split <;> simp

@[simp] theorem respond_dir (p : Port) (r : Result) (ws : List Word) : (respond p r ws c).dir = c.dir := rfl
@[simp] theorem respond_mix (p : Port) (r : Result) (ws : List Word) : (respond p r ws c).mix = c.mix := rfl
@[simp] theorem respond_builder (p : Port) (r : Result) (ws : List Word) : (respond p r ws c).builder = c.builder := rfl
@[simp] theorem respond_table (p : Port) (r : Result) (ws : List Word) : (respond p r ws c).table = c.table := rfl
@[simp] theorem respond_alloc (p : Port) (r : Result) (ws : List Word) : (respond p r ws c).alloc = c.alloc := rfl
@[simp] theorem respond_queue (p : Port) (r : Result) (ws : List Word) : (respond p r ws c).queue = c.queue := rfl
@[simp] theorem respond_calls (p : Port) (r : Result) (ws : List Word) : (respond p r ws c).calls = c.calls := rfl
@[simp] theorem respond_part (p : Port) (r : Result) (ws : List Word) : (respond p r ws c).ports.part = c.ports.part := rfl
@[simp] theorem respond_events (p : Port) (r : Result) (ws : List Word) : (respond p r ws c).ports.events = c.ports.events := rfl
@[simp] theorem respond_relay (p : Port) (r : Result) (ws : List Word) : (respond p r ws c).ports.relay = c.ports.relay := rfl
@[simp] theorem respond_liteNumber (p : Port) (r : Result) (ws : List Word) : (respond p r ws c).ports.liteNumber = c.ports.liteNumber := rfl
@[simp] theorem respond_status (p : Port) (r : Result) (ws : List Word) : (respond p r ws c).ports.status = c.ports.status := rfl
@[simp] theorem respond_response (p : Port) (r : Result) (ws : List Word) : (respond p r ws c).ports.response = c.ports.response.set p (some ⟨r, ws⟩) := rfl

@[simp] theorem refuse_dir (p : Port) (r : Result) : (refuse p r c).dir = c.dir := rfl
@[simp] theorem refuse_mix (p : Port) (r : Result) : (refuse p r c).mix = c.mix := rfl
@[simp] theorem refuse_builder (p : Port) (r : Result) : (refuse p r c).builder = c.builder := rfl
@[simp] theorem refuse_table (p : Port) (r : Result) : (refuse p r c).table = c.table := rfl
@[simp] theorem refuse_alloc (p : Port) (r : Result) : (refuse p r c).alloc = c.alloc := rfl
@[simp] theorem refuse_queue (p : Port) (r : Result) : (refuse p r c).queue = c.queue := rfl
@[simp] theorem refuse_calls (p : Port) (r : Result) : (refuse p r c).calls = c.calls := rfl
@[simp] theorem refuse_part (p : Port) (r : Result) : (refuse p r c).ports.part = c.ports.part := rfl
@[simp] theorem refuse_events (p : Port) (r : Result) : (refuse p r c).ports.events = c.ports.events := rfl
@[simp] theorem refuse_relay (p : Port) (r : Result) : (refuse p r c).ports.relay = c.ports.relay := rfl
@[simp] theorem refuse_liteNumber (p : Port) (r : Result) : (refuse p r c).ports.liteNumber = c.ports.liteNumber := rfl
@[simp] theorem refuse_status (p : Port) (r : Result) : (refuse p r c).ports.status = c.ports.status := rfl
@[simp] theorem refuse_response (p : Port) (r : Result) : (refuse p r c).ports.response = c.ports.response.set p (some ⟨r, []⟩) := rfl

@[simp] theorem setZoneEntry_ports (z : Zone) (e : ZoneEntry) : (setZoneEntry z e c).ports = c.ports := rfl
@[simp] theorem setZoneEntry_mix (z : Zone) (e : ZoneEntry) : (setZoneEntry z e c).mix = c.mix := rfl
@[simp] theorem setZoneEntry_builder (z : Zone) (e : ZoneEntry) : (setZoneEntry z e c).builder = c.builder := rfl
@[simp] theorem setZoneEntry_table (z : Zone) (e : ZoneEntry) : (setZoneEntry z e c).table = c.table := rfl
@[simp] theorem setZoneEntry_alloc (z : Zone) (e : ZoneEntry) : (setZoneEntry z e c).alloc = c.alloc := rfl
@[simp] theorem setZoneEntry_queue (z : Zone) (e : ZoneEntry) : (setZoneEntry z e c).queue = c.queue := rfl
@[simp] theorem setZoneEntry_calls (z : Zone) (e : ZoneEntry) : (setZoneEntry z e c).calls = c.calls := rfl
@[simp] theorem setZoneEntry_rearControl (z : Zone) (e : ZoneEntry) : (setZoneEntry z e c).dir.rearControl = c.dir.rearControl := rfl
@[simp] theorem setZoneEntry_lists (z : Zone) (e : ZoneEntry) : (setZoneEntry z e c).dir.lists = c.dir.lists := rfl
@[simp] theorem setZoneEntry_media (z : Zone) (e : ZoneEntry) : (setZoneEntry z e c).dir.media = c.dir.media := rfl
@[simp] theorem setZoneEntry_zones (z : Zone) (e : ZoneEntry) : (setZoneEntry z e c).dir.zones = c.dir.zones.set z e := rfl

@[simp] theorem setRouteSlot_ports (l : Fin 8) (k : Fin 6) (r : RouteSlot) : (setRouteSlot l k r c).ports = c.ports := rfl
@[simp] theorem setRouteSlot_mix (l : Fin 8) (k : Fin 6) (r : RouteSlot) : (setRouteSlot l k r c).mix = c.mix := rfl
@[simp] theorem setRouteSlot_builder (l : Fin 8) (k : Fin 6) (r : RouteSlot) : (setRouteSlot l k r c).builder = c.builder := rfl
@[simp] theorem setRouteSlot_table (l : Fin 8) (k : Fin 6) (r : RouteSlot) : (setRouteSlot l k r c).table = c.table := rfl
@[simp] theorem setRouteSlot_alloc (l : Fin 8) (k : Fin 6) (r : RouteSlot) : (setRouteSlot l k r c).alloc = c.alloc := rfl
@[simp] theorem setRouteSlot_queue (l : Fin 8) (k : Fin 6) (r : RouteSlot) : (setRouteSlot l k r c).queue = c.queue := rfl
@[simp] theorem setRouteSlot_calls (l : Fin 8) (k : Fin 6) (r : RouteSlot) : (setRouteSlot l k r c).calls = c.calls := rfl
@[simp] theorem setRouteSlot_zones (l : Fin 8) (k : Fin 6) (r : RouteSlot) : (setRouteSlot l k r c).dir.zones = c.dir.zones := rfl
@[simp] theorem setRouteSlot_rearControl (l : Fin 8) (k : Fin 6) (r : RouteSlot) : (setRouteSlot l k r c).dir.rearControl = c.dir.rearControl := rfl
@[simp] theorem setRouteSlot_media (l : Fin 8) (k : Fin 6) (r : RouteSlot) : (setRouteSlot l k r c).dir.media = c.dir.media := rfl

@[simp] theorem setRouteRecord_ports (l : Fin 8) (k : Fin 6) (r : RouteRecord) : (setRouteRecord l k r c).ports = c.ports := rfl
@[simp] theorem setRouteRecord_mix (l : Fin 8) (k : Fin 6) (r : RouteRecord) : (setRouteRecord l k r c).mix = c.mix := rfl
@[simp] theorem setRouteRecord_builder (l : Fin 8) (k : Fin 6) (r : RouteRecord) : (setRouteRecord l k r c).builder = c.builder := rfl
@[simp] theorem setRouteRecord_table (l : Fin 8) (k : Fin 6) (r : RouteRecord) : (setRouteRecord l k r c).table = c.table := rfl
@[simp] theorem setRouteRecord_alloc (l : Fin 8) (k : Fin 6) (r : RouteRecord) : (setRouteRecord l k r c).alloc = c.alloc := rfl
@[simp] theorem setRouteRecord_queue (l : Fin 8) (k : Fin 6) (r : RouteRecord) : (setRouteRecord l k r c).queue = c.queue := rfl
@[simp] theorem setRouteRecord_calls (l : Fin 8) (k : Fin 6) (r : RouteRecord) : (setRouteRecord l k r c).calls = c.calls := rfl
@[simp] theorem setRouteRecord_zones (l : Fin 8) (k : Fin 6) (r : RouteRecord) : (setRouteRecord l k r c).dir.zones = c.dir.zones := rfl
@[simp] theorem setRouteRecord_rearControl (l : Fin 8) (k : Fin 6) (r : RouteRecord) : (setRouteRecord l k r c).dir.rearControl = c.dir.rearControl := rfl
@[simp] theorem setRouteRecord_media (l : Fin 8) (k : Fin 6) (r : RouteRecord) : (setRouteRecord l k r c).dir.media = c.dir.media := rfl

@[simp] theorem markStale_ports (z : Zone) : (markStale z c).ports = c.ports := rfl
@[simp] theorem markStale_dir (z : Zone) : (markStale z c).dir = c.dir := rfl
@[simp] theorem markStale_mix (z : Zone) : (markStale z c).mix = c.mix := rfl
@[simp] theorem markStale_table (z : Zone) : (markStale z c).table = c.table := rfl
@[simp] theorem markStale_alloc (z : Zone) : (markStale z c).alloc = c.alloc := rfl
@[simp] theorem markStale_queue (z : Zone) : (markStale z c).queue = c.queue := rfl
@[simp] theorem markStale_calls (z : Zone) : (markStale z c).calls = c.calls := rfl
@[simp] theorem markStale_hold (z : Zone) : (markStale z c).builder.hold = c.builder.hold := rfl
@[simp] theorem markStale_position (z : Zone) : (markStale z c).builder.position = c.builder.position := rfl
@[simp] theorem markStale_job (z : Zone) : (markStale z c).builder.job = c.builder.job := rfl

@[simp] theorem markStaleWhere_ports (q : Zone → Bool) : (markStaleWhere q c).ports = c.ports := rfl
@[simp] theorem markStaleWhere_dir (q : Zone → Bool) : (markStaleWhere q c).dir = c.dir := rfl
@[simp] theorem markStaleWhere_mix (q : Zone → Bool) : (markStaleWhere q c).mix = c.mix := rfl
@[simp] theorem markStaleWhere_table (q : Zone → Bool) : (markStaleWhere q c).table = c.table := rfl
@[simp] theorem markStaleWhere_alloc (q : Zone → Bool) : (markStaleWhere q c).alloc = c.alloc := rfl
@[simp] theorem markStaleWhere_queue (q : Zone → Bool) : (markStaleWhere q c).queue = c.queue := rfl
@[simp] theorem markStaleWhere_calls (q : Zone → Bool) : (markStaleWhere q c).calls = c.calls := rfl
@[simp] theorem markStaleWhere_hold (q : Zone → Bool) : (markStaleWhere q c).builder.hold = c.builder.hold := rfl
@[simp] theorem markStaleWhere_position (q : Zone → Bool) : (markStaleWhere q c).builder.position = c.builder.position := rfl
@[simp] theorem markStaleWhere_job (q : Zone → Bool) : (markStaleWhere q c).builder.job = c.builder.job := rfl

@[simp] theorem markListStale_ports (l : Fin 8) : (markListStale l c).ports = c.ports := rfl
@[simp] theorem markListStale_dir (l : Fin 8) : (markListStale l c).dir = c.dir := rfl
@[simp] theorem markListStale_mix (l : Fin 8) : (markListStale l c).mix = c.mix := rfl
@[simp] theorem markListStale_table (l : Fin 8) : (markListStale l c).table = c.table := rfl
@[simp] theorem markListStale_alloc (l : Fin 8) : (markListStale l c).alloc = c.alloc := rfl
@[simp] theorem markListStale_queue (l : Fin 8) : (markListStale l c).queue = c.queue := rfl
@[simp] theorem markListStale_calls (l : Fin 8) : (markListStale l c).calls = c.calls := rfl
@[simp] theorem markListStale_hold (l : Fin 8) : (markListStale l c).builder.hold = c.builder.hold := rfl
@[simp] theorem markListStale_position (l : Fin 8) : (markListStale l c).builder.position = c.builder.position := rfl
@[simp] theorem markListStale_job (l : Fin 8) : (markListStale l c).builder.job = c.builder.job := rfl

@[simp] theorem markAllStale_ports : (markAllStale c).ports = c.ports := rfl
@[simp] theorem markAllStale_dir : (markAllStale c).dir = c.dir := rfl
@[simp] theorem markAllStale_mix : (markAllStale c).mix = c.mix := rfl
@[simp] theorem markAllStale_table : (markAllStale c).table = c.table := rfl
@[simp] theorem markAllStale_alloc : (markAllStale c).alloc = c.alloc := rfl
@[simp] theorem markAllStale_queue : (markAllStale c).queue = c.queue := rfl
@[simp] theorem markAllStale_calls : (markAllStale c).calls = c.calls := rfl
@[simp] theorem markAllStale_hold : (markAllStale c).builder.hold = c.builder.hold := rfl
@[simp] theorem markAllStale_position : (markAllStale c).builder.position = c.builder.position := rfl
@[simp] theorem markAllStale_job : (markAllStale c).builder.job = c.builder.job := rfl

@[simp] theorem markStationStale_ports (h : StationId) : (markStationStale h c).ports = c.ports := rfl
@[simp] theorem markStationStale_dir (h : StationId) : (markStationStale h c).dir = c.dir := rfl
@[simp] theorem markStationStale_mix (h : StationId) : (markStationStale h c).mix = c.mix := rfl
@[simp] theorem markStationStale_table (h : StationId) : (markStationStale h c).table = c.table := rfl
@[simp] theorem markStationStale_alloc (h : StationId) : (markStationStale h c).alloc = c.alloc := rfl
@[simp] theorem markStationStale_queue (h : StationId) : (markStationStale h c).queue = c.queue := rfl
@[simp] theorem markStationStale_calls (h : StationId) : (markStationStale h c).calls = c.calls := rfl
@[simp] theorem markStationStale_hold (h : StationId) : (markStationStale h c).builder.hold = c.builder.hold := rfl
@[simp] theorem markStationStale_position (h : StationId) : (markStationStale h c).builder.position = c.builder.position := rfl
@[simp] theorem markStationStale_job (h : StationId) : (markStationStale h c).builder.job = c.builder.job := rfl

@[simp] theorem setStationSlot_ports (i : Fin 40) (r : StationSlot) : (setStationSlot i r c).ports = c.ports := rfl
@[simp] theorem setStationSlot_dir (i : Fin 40) (r : StationSlot) : (setStationSlot i r c).dir = c.dir := rfl
@[simp] theorem setStationSlot_mix (i : Fin 40) (r : StationSlot) : (setStationSlot i r c).mix = c.mix := rfl
@[simp] theorem setStationSlot_builder (i : Fin 40) (r : StationSlot) : (setStationSlot i r c).builder = c.builder := rfl
@[simp] theorem setStationSlot_alloc (i : Fin 40) (r : StationSlot) : (setStationSlot i r c).alloc = c.alloc := rfl
@[simp] theorem setStationSlot_queue (i : Fin 40) (r : StationSlot) : (setStationSlot i r c).queue = c.queue := rfl
@[simp] theorem setStationSlot_calls (i : Fin 40) (r : StationSlot) : (setStationSlot i r c).calls = c.calls := rfl
@[simp] theorem setStationSlot_watch (i : Fin 40) (r : StationSlot) : (setStationSlot i r c).table.watch = c.table.watch := rfl
@[simp] theorem setStationSlot_position (i : Fin 40) (r : StationSlot) : (setStationSlot i r c).table.position = c.table.position := rfl
@[simp] theorem setStationSlot_dwell (i : Fin 40) (r : StationSlot) : (setStationSlot i r c).table.dwell = c.table.dwell := rfl
@[simp] theorem setStationSlot_tableFull (i : Fin 40) (r : StationSlot) : (setStationSlot i r c).table.tableFull = c.table.tableFull := rfl
@[simp] theorem setStationSlot_cursor (i : Fin 40) (r : StationSlot) : (setStationSlot i r c).table.cursor = c.table.cursor := rfl
@[simp] theorem setStationSlot_slots (i : Fin 40) (r : StationSlot) : (setStationSlot i r c).table.slots = c.table.slots.set i r := rfl

@[simp] theorem modifyStation_ports (i : Fin 40) (g : Station → Station) : (modifyStation i g c).ports = c.ports := by
  unfold modifyStation; split <;> rfl
@[simp] theorem modifyStation_dir (i : Fin 40) (g : Station → Station) : (modifyStation i g c).dir = c.dir := by
  unfold modifyStation; split <;> rfl
@[simp] theorem modifyStation_mix (i : Fin 40) (g : Station → Station) : (modifyStation i g c).mix = c.mix := by
  unfold modifyStation; split <;> rfl
@[simp] theorem modifyStation_builder (i : Fin 40) (g : Station → Station) : (modifyStation i g c).builder = c.builder := by
  unfold modifyStation; split <;> rfl
@[simp] theorem modifyStation_alloc (i : Fin 40) (g : Station → Station) : (modifyStation i g c).alloc = c.alloc := by
  unfold modifyStation; split <;> rfl
@[simp] theorem modifyStation_queue (i : Fin 40) (g : Station → Station) : (modifyStation i g c).queue = c.queue := by
  unfold modifyStation; split <;> rfl
@[simp] theorem modifyStation_calls (i : Fin 40) (g : Station → Station) : (modifyStation i g c).calls = c.calls := by
  unfold modifyStation; split <;> rfl
@[simp] theorem modifyStation_watch (i : Fin 40) (g : Station → Station) :
    (modifyStation i g c).table.watch = c.table.watch := by
  unfold modifyStation; split <;> rfl
@[simp] theorem modifyStation_position (i : Fin 40) (g : Station → Station) :
    (modifyStation i g c).table.position = c.table.position := by
  unfold modifyStation; split <;> rfl
@[simp] theorem modifyStation_dwell (i : Fin 40) (g : Station → Station) :
    (modifyStation i g c).table.dwell = c.table.dwell := by
  unfold modifyStation; split <;> rfl
@[simp] theorem modifyStation_tableFull (i : Fin 40) (g : Station → Station) :
    (modifyStation i g c).table.tableFull = c.table.tableFull := by
  unfold modifyStation; split <;> rfl
@[simp] theorem modifyStation_cursor (i : Fin 40) (g : Station → Station) :
    (modifyStation i g c).table.cursor = c.table.cursor := by
  unfold modifyStation; split <;> rfl

@[simp] theorem setChan_ports (x : Chan) (v : ProgChan) : (setChan x v c).ports = c.ports := rfl
@[simp] theorem setChan_dir (x : Chan) (v : ProgChan) : (setChan x v c).dir = c.dir := rfl
@[simp] theorem setChan_mix (x : Chan) (v : ProgChan) : (setChan x v c).mix = c.mix := rfl
@[simp] theorem setChan_builder (x : Chan) (v : ProgChan) : (setChan x v c).builder = c.builder := rfl
@[simp] theorem setChan_table (x : Chan) (v : ProgChan) : (setChan x v c).table = c.table := rfl
@[simp] theorem setChan_queue (x : Chan) (v : ProgChan) : (setChan x v c).queue = c.queue := rfl
@[simp] theorem setChan_calls (x : Chan) (v : ProgChan) : (setChan x v c).calls = c.calls := rfl
@[simp] theorem setChan_tuners (x : Chan) (v : ProgChan) : (setChan x v c).alloc.tuners = c.alloc.tuners := rfl
@[simp] theorem setChan_stopped (x : Chan) (v : ProgChan) : (setChan x v c).alloc.stopped = c.alloc.stopped := rfl
@[simp] theorem setChan_chans (x : Chan) (v : ProgChan) : (setChan x v c).alloc.chans = c.alloc.chans.set x v := rfl

@[simp] theorem setTuner_ports (t : TunerId) (v : Tuner) : (setTuner t v c).ports = c.ports := rfl
@[simp] theorem setTuner_dir (t : TunerId) (v : Tuner) : (setTuner t v c).dir = c.dir := rfl
@[simp] theorem setTuner_mix (t : TunerId) (v : Tuner) : (setTuner t v c).mix = c.mix := rfl
@[simp] theorem setTuner_builder (t : TunerId) (v : Tuner) : (setTuner t v c).builder = c.builder := rfl
@[simp] theorem setTuner_table (t : TunerId) (v : Tuner) : (setTuner t v c).table = c.table := rfl
@[simp] theorem setTuner_queue (t : TunerId) (v : Tuner) : (setTuner t v c).queue = c.queue := rfl
@[simp] theorem setTuner_calls (t : TunerId) (v : Tuner) : (setTuner t v c).calls = c.calls := rfl
@[simp] theorem setTuner_chans (t : TunerId) (v : Tuner) : (setTuner t v c).alloc.chans = c.alloc.chans := rfl
@[simp] theorem setTuner_stopped (t : TunerId) (v : Tuner) : (setTuner t v c).alloc.stopped = c.alloc.stopped := rfl
@[simp] theorem setTuner_tuners (t : TunerId) (v : Tuner) : (setTuner t v c).alloc.tuners = c.alloc.tuners.set t v := rfl

@[simp] theorem setEntrySlot_ports (i : Fin 8) (e : EntrySlot) : (setEntrySlot i e c).ports = c.ports := rfl
@[simp] theorem setEntrySlot_dir (i : Fin 8) (e : EntrySlot) : (setEntrySlot i e c).dir = c.dir := rfl
@[simp] theorem setEntrySlot_mix (i : Fin 8) (e : EntrySlot) : (setEntrySlot i e c).mix = c.mix := rfl
@[simp] theorem setEntrySlot_builder (i : Fin 8) (e : EntrySlot) : (setEntrySlot i e c).builder = c.builder := rfl
@[simp] theorem setEntrySlot_table (i : Fin 8) (e : EntrySlot) : (setEntrySlot i e c).table = c.table := rfl
@[simp] theorem setEntrySlot_alloc (i : Fin 8) (e : EntrySlot) : (setEntrySlot i e c).alloc = c.alloc := rfl
@[simp] theorem setEntrySlot_calls (i : Fin 8) (e : EntrySlot) : (setEntrySlot i e c).calls = c.calls := rfl
@[simp] theorem setEntrySlot_order (i : Fin 8) (e : EntrySlot) : (setEntrySlot i e c).queue.order = c.queue.order := rfl
@[simp] theorem setEntrySlot_ends (i : Fin 8) (e : EntrySlot) : (setEntrySlot i e c).queue.ends = c.queue.ends := rfl
@[simp] theorem setEntrySlot_endNumber (i : Fin 8) (e : EntrySlot) : (setEntrySlot i e c).queue.endNumber = c.queue.endNumber := rfl
@[simp] theorem setEntrySlot_ignored (i : Fin 8) (e : EntrySlot) : (setEntrySlot i e c).queue.ignored = c.queue.ignored := rfl
@[simp] theorem setEntrySlot_patterns (i : Fin 8) (e : EntrySlot) : (setEntrySlot i e c).queue.patterns = c.queue.patterns := rfl
@[simp] theorem setEntrySlot_voices (i : Fin 8) (e : EntrySlot) : (setEntrySlot i e c).queue.voices = c.queue.voices := rfl
@[simp] theorem setEntrySlot_slots (i : Fin 8) (e : EntrySlot) : (setEntrySlot i e c).queue.slots = c.queue.slots.set i e := rfl

@[simp] theorem modifyEntry_ports (i : Fin 8) (g : Entry → Entry) : (modifyEntry i g c).ports = c.ports := by
  unfold modifyEntry; split <;> rfl
@[simp] theorem modifyEntry_dir (i : Fin 8) (g : Entry → Entry) : (modifyEntry i g c).dir = c.dir := by
  unfold modifyEntry; split <;> rfl
@[simp] theorem modifyEntry_mix (i : Fin 8) (g : Entry → Entry) : (modifyEntry i g c).mix = c.mix := by
  unfold modifyEntry; split <;> rfl
@[simp] theorem modifyEntry_builder (i : Fin 8) (g : Entry → Entry) : (modifyEntry i g c).builder = c.builder := by
  unfold modifyEntry; split <;> rfl
@[simp] theorem modifyEntry_table (i : Fin 8) (g : Entry → Entry) : (modifyEntry i g c).table = c.table := by
  unfold modifyEntry; split <;> rfl
@[simp] theorem modifyEntry_alloc (i : Fin 8) (g : Entry → Entry) : (modifyEntry i g c).alloc = c.alloc := by
  unfold modifyEntry; split <;> rfl
@[simp] theorem modifyEntry_calls (i : Fin 8) (g : Entry → Entry) : (modifyEntry i g c).calls = c.calls := by
  unfold modifyEntry; split <;> rfl
@[simp] theorem modifyEntry_order (i : Fin 8) (g : Entry → Entry) :
    (modifyEntry i g c).queue.order = c.queue.order := by
  unfold modifyEntry; split <;> rfl
@[simp] theorem modifyEntry_ends (i : Fin 8) (g : Entry → Entry) :
    (modifyEntry i g c).queue.ends = c.queue.ends := by
  unfold modifyEntry; split <;> rfl
@[simp] theorem modifyEntry_endNumber (i : Fin 8) (g : Entry → Entry) :
    (modifyEntry i g c).queue.endNumber = c.queue.endNumber := by
  unfold modifyEntry; split <;> rfl
@[simp] theorem modifyEntry_ignored (i : Fin 8) (g : Entry → Entry) :
    (modifyEntry i g c).queue.ignored = c.queue.ignored := by
  unfold modifyEntry; split <;> rfl
@[simp] theorem modifyEntry_patterns (i : Fin 8) (g : Entry → Entry) :
    (modifyEntry i g c).queue.patterns = c.queue.patterns := by
  unfold modifyEntry; split <;> rfl
@[simp] theorem modifyEntry_voices (i : Fin 8) (g : Entry → Entry) :
    (modifyEntry i g c).queue.voices = c.queue.voices := by
  unfold modifyEntry; split <;> rfl

@[simp] theorem setCallSlot_ports (i : Fin 2) (v : CallSlot) : (setCallSlot i v c).ports = c.ports := rfl
@[simp] theorem setCallSlot_dir (i : Fin 2) (v : CallSlot) : (setCallSlot i v c).dir = c.dir := rfl
@[simp] theorem setCallSlot_mix (i : Fin 2) (v : CallSlot) : (setCallSlot i v c).mix = c.mix := rfl
@[simp] theorem setCallSlot_builder (i : Fin 2) (v : CallSlot) : (setCallSlot i v c).builder = c.builder := rfl
@[simp] theorem setCallSlot_table (i : Fin 2) (v : CallSlot) : (setCallSlot i v c).table = c.table := rfl
@[simp] theorem setCallSlot_alloc (i : Fin 2) (v : CallSlot) : (setCallSlot i v c).alloc = c.alloc := rfl
@[simp] theorem setCallSlot_queue (i : Fin 2) (v : CallSlot) : (setCallSlot i v c).queue = c.queue := rfl
@[simp] theorem setCallSlot_canceller (i : Fin 2) (v : CallSlot) : (setCallSlot i v c).calls.canceller = c.calls.canceller := rfl
@[simp] theorem setCallSlot_uplinkGain (i : Fin 2) (v : CallSlot) : (setCallSlot i v c).calls.uplinkGain = c.calls.uplinkGain := rfl
@[simp] theorem setCallSlot_uplinkLevel (i : Fin 2) (v : CallSlot) : (setCallSlot i v c).calls.uplinkLevel = c.calls.uplinkLevel := rfl
@[simp] theorem setCallSlot_phoneUl (i : Fin 2) (v : CallSlot) : (setCallSlot i v c).calls.phoneUl = c.calls.phoneUl := rfl
@[simp] theorem setCallSlot_slots (i : Fin 2) (v : CallSlot) : (setCallSlot i v c).calls.slots = c.calls.slots.set i v := rfl

@[simp] theorem putCall_dir (i : Fin 2) (v : CallSlot) : (putCall i v c).dir = c.dir := by
  unfold putCall; split <;> simp
@[simp] theorem putCall_mix (i : Fin 2) (v : CallSlot) : (putCall i v c).mix = c.mix := by
  unfold putCall; split <;> simp
@[simp] theorem putCall_builder (i : Fin 2) (v : CallSlot) : (putCall i v c).builder = c.builder := by
  unfold putCall; split <;> simp
@[simp] theorem putCall_table (i : Fin 2) (v : CallSlot) : (putCall i v c).table = c.table := by
  unfold putCall; split <;> simp
@[simp] theorem putCall_alloc (i : Fin 2) (v : CallSlot) : (putCall i v c).alloc = c.alloc := by
  unfold putCall; split <;> simp
@[simp] theorem putCall_queue (i : Fin 2) (v : CallSlot) : (putCall i v c).queue = c.queue := by
  unfold putCall; split <;> simp
@[simp] theorem putCall_part (i : Fin 2) (v : CallSlot) : (putCall i v c).ports.part = c.ports.part := by
  unfold putCall; split <;> simp
@[simp] theorem putCall_relay (i : Fin 2) (v : CallSlot) : (putCall i v c).ports.relay = c.ports.relay := by
  unfold putCall; split <;> simp
@[simp] theorem putCall_liteNumber (i : Fin 2) (v : CallSlot) : (putCall i v c).ports.liteNumber = c.ports.liteNumber := by
  unfold putCall; split <;> simp
@[simp] theorem putCall_status (i : Fin 2) (v : CallSlot) : (putCall i v c).ports.status = c.ports.status := by
  unfold putCall; split <;> simp
@[simp] theorem putCall_response (i : Fin 2) (v : CallSlot) : (putCall i v c).ports.response = c.ports.response := by
  unfold putCall; split <;> simp
@[simp] theorem putCall_canceller (i : Fin 2) (v : CallSlot) : (putCall i v c).calls.canceller = c.calls.canceller := by
  unfold putCall; split <;> simp
@[simp] theorem putCall_uplinkGain (i : Fin 2) (v : CallSlot) : (putCall i v c).calls.uplinkGain = c.calls.uplinkGain := by
  unfold putCall; split <;> simp
@[simp] theorem putCall_uplinkLevel (i : Fin 2) (v : CallSlot) : (putCall i v c).calls.uplinkLevel = c.calls.uplinkLevel := by
  unfold putCall; split <;> simp
@[simp] theorem putCall_phoneUl (i : Fin 2) (v : CallSlot) : (putCall i v c).calls.phoneUl = c.calls.phoneUl := by
  unfold putCall; split <;> simp
@[simp] theorem modifyCall_dir (i : Fin 2) (g : CallRecord → CallRecord) : (modifyCall i g c).dir = c.dir := by
  unfold modifyCall; split <;> simp
@[simp] theorem modifyCall_mix (i : Fin 2) (g : CallRecord → CallRecord) : (modifyCall i g c).mix = c.mix := by
  unfold modifyCall; split <;> simp
@[simp] theorem modifyCall_builder (i : Fin 2) (g : CallRecord → CallRecord) : (modifyCall i g c).builder = c.builder := by
  unfold modifyCall; split <;> simp
@[simp] theorem modifyCall_table (i : Fin 2) (g : CallRecord → CallRecord) : (modifyCall i g c).table = c.table := by
  unfold modifyCall; split <;> simp
@[simp] theorem modifyCall_alloc (i : Fin 2) (g : CallRecord → CallRecord) : (modifyCall i g c).alloc = c.alloc := by
  unfold modifyCall; split <;> simp
@[simp] theorem modifyCall_queue (i : Fin 2) (g : CallRecord → CallRecord) : (modifyCall i g c).queue = c.queue := by
  unfold modifyCall; split <;> simp
@[simp] theorem modifyCall_part (i : Fin 2) (g : CallRecord → CallRecord) :
    (modifyCall i g c).ports.part = c.ports.part := by
  unfold modifyCall; split <;> simp
@[simp] theorem modifyCall_relay (i : Fin 2) (g : CallRecord → CallRecord) :
    (modifyCall i g c).ports.relay = c.ports.relay := by
  unfold modifyCall; split <;> simp
@[simp] theorem modifyCall_liteNumber (i : Fin 2) (g : CallRecord → CallRecord) :
    (modifyCall i g c).ports.liteNumber = c.ports.liteNumber := by
  unfold modifyCall; split <;> simp
@[simp] theorem modifyCall_status (i : Fin 2) (g : CallRecord → CallRecord) :
    (modifyCall i g c).ports.status = c.ports.status := by
  unfold modifyCall; split <;> simp
@[simp] theorem modifyCall_response (i : Fin 2) (g : CallRecord → CallRecord) :
    (modifyCall i g c).ports.response = c.ports.response := by
  unfold modifyCall; split <;> simp
@[simp] theorem modifyCall_canceller (i : Fin 2) (g : CallRecord → CallRecord) :
    (modifyCall i g c).calls.canceller = c.calls.canceller := by
  unfold modifyCall; split <;> simp
@[simp] theorem modifyCall_uplinkGain (i : Fin 2) (g : CallRecord → CallRecord) :
    (modifyCall i g c).calls.uplinkGain = c.calls.uplinkGain := by
  unfold modifyCall; split <;> simp
@[simp] theorem modifyCall_uplinkLevel (i : Fin 2) (g : CallRecord → CallRecord) :
    (modifyCall i g c).calls.uplinkLevel = c.calls.uplinkLevel := by
  unfold modifyCall; split <;> simp
@[simp] theorem modifyCall_phoneUl (i : Fin 2) (g : CallRecord → CallRecord) :
    (modifyCall i g c).calls.phoneUl = c.calls.phoneUl := by
  unfold modifyCall; split <;> simp

@[simp] theorem setMixZone_ports (z : Zone) (m : MixZone) : (setMixZone z m c).ports = c.ports := rfl
@[simp] theorem setMixZone_dir (z : Zone) (m : MixZone) : (setMixZone z m c).dir = c.dir := rfl
@[simp] theorem setMixZone_builder (z : Zone) (m : MixZone) : (setMixZone z m c).builder = c.builder := rfl
@[simp] theorem setMixZone_table (z : Zone) (m : MixZone) : (setMixZone z m c).table = c.table := rfl
@[simp] theorem setMixZone_alloc (z : Zone) (m : MixZone) : (setMixZone z m c).alloc = c.alloc := rfl
@[simp] theorem setMixZone_queue (z : Zone) (m : MixZone) : (setMixZone z m c).queue = c.queue := rfl
@[simp] theorem setMixZone_calls (z : Zone) (m : MixZone) : (setMixZone z m c).calls = c.calls := rfl
@[simp] theorem setMixZone_channels (z : Zone) (m : MixZone) : (setMixZone z m c).mix.channels = c.mix.channels := rfl
@[simp] theorem setMixZone_zones (z : Zone) (m : MixZone) : (setMixZone z m c).mix.zones = c.mix.zones.set z m := rfl

@[simp] theorem mapMixZones_ports (f : Zone → MixZone → MixZone) : (mapMixZones f c).ports = c.ports := rfl
@[simp] theorem mapMixZones_dir (f : Zone → MixZone → MixZone) : (mapMixZones f c).dir = c.dir := rfl
@[simp] theorem mapMixZones_builder (f : Zone → MixZone → MixZone) : (mapMixZones f c).builder = c.builder := rfl
@[simp] theorem mapMixZones_table (f : Zone → MixZone → MixZone) : (mapMixZones f c).table = c.table := rfl
@[simp] theorem mapMixZones_alloc (f : Zone → MixZone → MixZone) : (mapMixZones f c).alloc = c.alloc := rfl
@[simp] theorem mapMixZones_queue (f : Zone → MixZone → MixZone) : (mapMixZones f c).queue = c.queue := rfl
@[simp] theorem mapMixZones_calls (f : Zone → MixZone → MixZone) : (mapMixZones f c).calls = c.calls := rfl
@[simp] theorem mapMixZones_channels (f : Zone → MixZone → MixZone) : (mapMixZones f c).mix.channels = c.mix.channels := rfl

@[simp] theorem mapShares_ports (f : RouteShare → RouteShare) : (mapShares f c).ports = c.ports := rfl
@[simp] theorem mapShares_dir (f : RouteShare → RouteShare) : (mapShares f c).dir = c.dir := rfl
@[simp] theorem mapShares_builder (f : RouteShare → RouteShare) : (mapShares f c).builder = c.builder := rfl
@[simp] theorem mapShares_table (f : RouteShare → RouteShare) : (mapShares f c).table = c.table := rfl
@[simp] theorem mapShares_alloc (f : RouteShare → RouteShare) : (mapShares f c).alloc = c.alloc := rfl
@[simp] theorem mapShares_queue (f : RouteShare → RouteShare) : (mapShares f c).queue = c.queue := rfl
@[simp] theorem mapShares_calls (f : RouteShare → RouteShare) : (mapShares f c).calls = c.calls := rfl
@[simp] theorem mapShares_channels (f : RouteShare → RouteShare) : (mapShares f c).mix.channels = c.mix.channels := rfl

@[simp] theorem setCanceller_ports (v : Canceller) : (setCanceller v c).ports = c.ports := rfl
@[simp] theorem setCanceller_dir (v : Canceller) : (setCanceller v c).dir = c.dir := rfl
@[simp] theorem setCanceller_mix (v : Canceller) : (setCanceller v c).mix = c.mix := rfl
@[simp] theorem setCanceller_builder (v : Canceller) : (setCanceller v c).builder = c.builder := rfl
@[simp] theorem setCanceller_table (v : Canceller) : (setCanceller v c).table = c.table := rfl
@[simp] theorem setCanceller_alloc (v : Canceller) : (setCanceller v c).alloc = c.alloc := rfl
@[simp] theorem setCanceller_queue (v : Canceller) : (setCanceller v c).queue = c.queue := rfl
@[simp] theorem setCanceller_slots (v : Canceller) : (setCanceller v c).calls.slots = c.calls.slots := rfl
@[simp] theorem setCanceller_canceller (v : Canceller) : (setCanceller v c).calls.canceller = v := rfl
@[simp] theorem setCanceller_uplinkGain (v : Canceller) : (setCanceller v c).calls.uplinkGain = c.calls.uplinkGain := rfl
@[simp] theorem setCanceller_uplinkLevel (v : Canceller) : (setCanceller v c).calls.uplinkLevel = c.calls.uplinkLevel := rfl
@[simp] theorem setCanceller_phoneUl (v : Canceller) : (setCanceller v c).calls.phoneUl = c.calls.phoneUl := rfl

@[simp] theorem setHold_ports (h : HoldState) : (setHold h c).ports = c.ports := rfl
@[simp] theorem setHold_dir (h : HoldState) : (setHold h c).dir = c.dir := rfl
@[simp] theorem setHold_mix (h : HoldState) : (setHold h c).mix = c.mix := rfl
@[simp] theorem setHold_table (h : HoldState) : (setHold h c).table = c.table := rfl
@[simp] theorem setHold_alloc (h : HoldState) : (setHold h c).alloc = c.alloc := rfl
@[simp] theorem setHold_queue (h : HoldState) : (setHold h c).queue = c.queue := rfl
@[simp] theorem setHold_calls (h : HoldState) : (setHold h c).calls = c.calls := rfl
@[simp] theorem setHold_hold (h : HoldState) : (setHold h c).builder.hold = h := rfl
@[simp] theorem setHold_stale (h : HoldState) : (setHold h c).builder.stale = c.builder.stale := rfl
@[simp] theorem setHold_position (h : HoldState) : (setHold h c).builder.position = c.builder.position := rfl
@[simp] theorem setHold_job (h : HoldState) : (setHold h c).builder.job = c.builder.job := rfl

@[simp] theorem setVoice_ports (v : Fin 2) (x : Option Voice) : (setVoice v x c).ports = c.ports := rfl
@[simp] theorem setVoice_dir (v : Fin 2) (x : Option Voice) : (setVoice v x c).dir = c.dir := rfl
@[simp] theorem setVoice_mix (v : Fin 2) (x : Option Voice) : (setVoice v x c).mix = c.mix := rfl
@[simp] theorem setVoice_builder (v : Fin 2) (x : Option Voice) : (setVoice v x c).builder = c.builder := rfl
@[simp] theorem setVoice_table (v : Fin 2) (x : Option Voice) : (setVoice v x c).table = c.table := rfl
@[simp] theorem setVoice_alloc (v : Fin 2) (x : Option Voice) : (setVoice v x c).alloc = c.alloc := rfl
@[simp] theorem setVoice_calls (v : Fin 2) (x : Option Voice) : (setVoice v x c).calls = c.calls := rfl
@[simp] theorem setVoice_slots (v : Fin 2) (x : Option Voice) : (setVoice v x c).queue.slots = c.queue.slots := rfl
@[simp] theorem setVoice_order (v : Fin 2) (x : Option Voice) : (setVoice v x c).queue.order = c.queue.order := rfl
@[simp] theorem setVoice_ends (v : Fin 2) (x : Option Voice) : (setVoice v x c).queue.ends = c.queue.ends := rfl
@[simp] theorem setVoice_endNumber (v : Fin 2) (x : Option Voice) : (setVoice v x c).queue.endNumber = c.queue.endNumber := rfl
@[simp] theorem setVoice_ignored (v : Fin 2) (x : Option Voice) : (setVoice v x c).queue.ignored = c.queue.ignored := rfl
@[simp] theorem setVoice_patterns (v : Fin 2) (x : Option Voice) : (setVoice v x c).queue.patterns = c.queue.patterns := rfl

@[simp] theorem setPart_dir (v : PartState) : (setPart v c).dir = c.dir := rfl
@[simp] theorem setPart_mix (v : PartState) : (setPart v c).mix = c.mix := rfl
@[simp] theorem setPart_builder (v : PartState) : (setPart v c).builder = c.builder := rfl
@[simp] theorem setPart_table (v : PartState) : (setPart v c).table = c.table := rfl
@[simp] theorem setPart_alloc (v : PartState) : (setPart v c).alloc = c.alloc := rfl
@[simp] theorem setPart_queue (v : PartState) : (setPart v c).queue = c.queue := rfl
@[simp] theorem setPart_calls (v : PartState) : (setPart v c).calls = c.calls := rfl
@[simp] theorem setPart_part (v : PartState) : (setPart v c).ports.part = v := rfl

@[simp] theorem setRelay_dir (p : Port) (w : Option Word) : (setRelay p w c).dir = c.dir := rfl
@[simp] theorem setRelay_mix (p : Port) (w : Option Word) : (setRelay p w c).mix = c.mix := rfl
@[simp] theorem setRelay_builder (p : Port) (w : Option Word) : (setRelay p w c).builder = c.builder := rfl
@[simp] theorem setRelay_table (p : Port) (w : Option Word) : (setRelay p w c).table = c.table := rfl
@[simp] theorem setRelay_alloc (p : Port) (w : Option Word) : (setRelay p w c).alloc = c.alloc := rfl
@[simp] theorem setRelay_queue (p : Port) (w : Option Word) : (setRelay p w c).queue = c.queue := rfl
@[simp] theorem setRelay_calls (p : Port) (w : Option Word) : (setRelay p w c).calls = c.calls := rfl
@[simp] theorem setRelay_relay (p : Port) (w : Option Word) : (setRelay p w c).ports.relay = c.ports.relay.set p w := rfl
@[simp] theorem setRelay_part (p : Port) (w : Option Word) : (setRelay p w c).ports.part = c.ports.part := rfl
@[simp] theorem setRelay_events (p : Port) (w : Option Word) : (setRelay p w c).ports.events = c.ports.events := rfl
@[simp] theorem setRelay_liteNumber (p : Port) (w : Option Word) : (setRelay p w c).ports.liteNumber = c.ports.liteNumber := rfl
@[simp] theorem setRelay_status (p : Port) (w : Option Word) : (setRelay p w c).ports.status = c.ports.status := rfl
@[simp] theorem setRelay_response (p : Port) (w : Option Word) : (setRelay p w c).ports.response = c.ports.response := rfl

@[simp] theorem setCursor_ports (p : Port) (v : Option Freq) : (setCursor p v c).ports = c.ports := rfl
@[simp] theorem setCursor_dir (p : Port) (v : Option Freq) : (setCursor p v c).dir = c.dir := rfl
@[simp] theorem setCursor_mix (p : Port) (v : Option Freq) : (setCursor p v c).mix = c.mix := rfl
@[simp] theorem setCursor_builder (p : Port) (v : Option Freq) : (setCursor p v c).builder = c.builder := rfl
@[simp] theorem setCursor_alloc (p : Port) (v : Option Freq) : (setCursor p v c).alloc = c.alloc := rfl
@[simp] theorem setCursor_queue (p : Port) (v : Option Freq) : (setCursor p v c).queue = c.queue := rfl
@[simp] theorem setCursor_calls (p : Port) (v : Option Freq) : (setCursor p v c).calls = c.calls := rfl
@[simp] theorem setCursor_slots (p : Port) (v : Option Freq) : (setCursor p v c).table.slots = c.table.slots := rfl
@[simp] theorem setCursor_watch (p : Port) (v : Option Freq) : (setCursor p v c).table.watch = c.table.watch := rfl
@[simp] theorem setCursor_position (p : Port) (v : Option Freq) : (setCursor p v c).table.position = c.table.position := rfl
@[simp] theorem setCursor_dwell (p : Port) (v : Option Freq) : (setCursor p v c).table.dwell = c.table.dwell := rfl
@[simp] theorem setCursor_tableFull (p : Port) (v : Option Freq) : (setCursor p v c).table.tableFull = c.table.tableFull := rfl

@[simp] theorem setPosition_ports (f : Freq) : (setPosition f c).ports = c.ports := rfl
@[simp] theorem setPosition_dir (f : Freq) : (setPosition f c).dir = c.dir := rfl
@[simp] theorem setPosition_mix (f : Freq) : (setPosition f c).mix = c.mix := rfl
@[simp] theorem setPosition_builder (f : Freq) : (setPosition f c).builder = c.builder := rfl
@[simp] theorem setPosition_alloc (f : Freq) : (setPosition f c).alloc = c.alloc := rfl
@[simp] theorem setPosition_queue (f : Freq) : (setPosition f c).queue = c.queue := rfl
@[simp] theorem setPosition_calls (f : Freq) : (setPosition f c).calls = c.calls := rfl
@[simp] theorem setPosition_slots (f : Freq) : (setPosition f c).table.slots = c.table.slots := rfl
@[simp] theorem setPosition_watch (f : Freq) : (setPosition f c).table.watch = c.table.watch := rfl
@[simp] theorem setPosition_dwell (f : Freq) : (setPosition f c).table.dwell = c.table.dwell := rfl
@[simp] theorem setPosition_tableFull (f : Freq) : (setPosition f c).table.tableFull = c.table.tableFull := rfl
@[simp] theorem setPosition_cursor (f : Freq) : (setPosition f c).table.cursor = c.table.cursor := rfl

@[simp] theorem startDwell_ports (q : Nat) : (startDwell q c).ports = c.ports := rfl
@[simp] theorem startDwell_dir (q : Nat) : (startDwell q c).dir = c.dir := rfl
@[simp] theorem startDwell_mix (q : Nat) : (startDwell q c).mix = c.mix := rfl
@[simp] theorem startDwell_builder (q : Nat) : (startDwell q c).builder = c.builder := rfl
@[simp] theorem startDwell_alloc (q : Nat) : (startDwell q c).alloc = c.alloc := rfl
@[simp] theorem startDwell_queue (q : Nat) : (startDwell q c).queue = c.queue := rfl
@[simp] theorem startDwell_calls (q : Nat) : (startDwell q c).calls = c.calls := rfl
@[simp] theorem startDwell_slots (q : Nat) : (startDwell q c).table.slots = c.table.slots := rfl
@[simp] theorem startDwell_watch (q : Nat) : (startDwell q c).table.watch = c.table.watch := rfl
@[simp] theorem startDwell_position (q : Nat) : (startDwell q c).table.position = c.table.position := rfl
@[simp] theorem startDwell_tableFull (q : Nat) : (startDwell q c).table.tableFull = c.table.tableFull := rfl
@[simp] theorem startDwell_cursor (q : Nat) : (startDwell q c).table.cursor = c.table.cursor := rfl

@[simp] theorem clearEvents_dir (p : Port) : (clearEvents p c).dir = c.dir := rfl
@[simp] theorem clearEvents_mix (p : Port) : (clearEvents p c).mix = c.mix := rfl
@[simp] theorem clearEvents_builder (p : Port) : (clearEvents p c).builder = c.builder := rfl
@[simp] theorem clearEvents_table (p : Port) : (clearEvents p c).table = c.table := rfl
@[simp] theorem clearEvents_alloc (p : Port) : (clearEvents p c).alloc = c.alloc := rfl
@[simp] theorem clearEvents_queue (p : Port) : (clearEvents p c).queue = c.queue := rfl
@[simp] theorem clearEvents_calls (p : Port) : (clearEvents p c).calls = c.calls := rfl
@[simp] theorem clearEvents_events (p : Port) : (clearEvents p c).ports.events = c.ports.events.set p emptyEvents := rfl
@[simp] theorem clearEvents_part (p : Port) : (clearEvents p c).ports.part = c.ports.part := rfl
@[simp] theorem clearEvents_relay (p : Port) : (clearEvents p c).ports.relay = c.ports.relay := rfl
@[simp] theorem clearEvents_liteNumber (p : Port) : (clearEvents p c).ports.liteNumber = c.ports.liteNumber := rfl
@[simp] theorem clearEvents_status (p : Port) : (clearEvents p c).ports.status = c.ports.status := rfl
@[simp] theorem clearEvents_response (p : Port) : (clearEvents p c).ports.response = c.ports.response := rfl

@[simp] theorem onCab_cab (f : Cabin → Cabin) : (s.onCab f).cab = f s.cab := rfl
@[simp] theorem onCab_ring (f : Cabin → Cabin) : (s.onCab f).ring = s.ring := rfl
@[simp] theorem onCab_supply (f : Cabin → Cabin) : (s.onCab f).supply = s.supply := rfl
@[simp] theorem onCab_free (f : Cabin → Cabin) : (s.onCab f).free = s.free := rfl
@[simp] theorem onCab_pending (f : Cabin → Cabin) : (s.onCab f).pending = s.pending := rfl

@[simp] theorem setRing_cab (g : Ring) : (s.setRing g).cab = s.cab := rfl
@[simp] theorem setRing_ring (g : Ring) : (s.setRing g).ring = g := rfl
@[simp] theorem setRing_supply (g : Ring) : (s.setRing g).supply = s.supply := rfl
@[simp] theorem setRing_free (g : Ring) : (s.setRing g).free = s.free := rfl
@[simp] theorem setRing_pending (g : Ring) : (s.setRing g).pending = s.pending := rfl

@[simp] theorem setSupply_cab (v : Supply) : (s.setSupply v).cab = s.cab := rfl
@[simp] theorem setSupply_ring (v : Supply) : (s.setSupply v).ring = s.ring := rfl
@[simp] theorem setSupply_supply (v : Supply) : (s.setSupply v).supply = v := rfl
@[simp] theorem setSupply_free (v : Supply) : (s.setSupply v).free = s.free := rfl
@[simp] theorem setSupply_pending (v : Supply) : (s.setSupply v).pending = s.pending := rfl

@[simp] theorem statePostBoth_ring (k : EventKind) : (s.postBoth k).ring = s.ring := rfl
@[simp] theorem statePostBoth_supply (k : EventKind) : (s.postBoth k).supply = s.supply := rfl
@[simp] theorem statePostBoth_free (k : EventKind) : (s.postBoth k).free = s.free := rfl
@[simp] theorem statePostBoth_pending (k : EventKind) : (s.postBoth k).pending = s.pending := rfl
@[simp] theorem statePostBoth_cab (k : EventKind) : (s.postBoth k).cab = postBoth k s.cab := rfl

@[simp] theorem sendFrame_cab : (sendFrame s).cab = s.cab := rfl
@[simp] theorem sendFrame_supply : (sendFrame s).supply = s.supply := rfl
@[simp] theorem sendFrame_free : (sendFrame s).free = s.free := rfl
@[simp] theorem sendFrame_pending : (sendFrame s).pending = s.pending := rfl
@[simp] theorem sendFrame_ring_state : (sendFrame s).ring.state = s.ring.state := rfl
@[simp] theorem sendFrame_ring_goodFrames : (sendFrame s).ring.goodFrames = s.ring.goodFrames := rfl
@[simp] theorem sendFrame_ring_badFrames : (sendFrame s).ring.badFrames = s.ring.badFrames := rfl
@[simp] theorem sendFrame_ring_nodes : (sendFrame s).ring.nodes = s.ring.nodes := rfl
@[simp] theorem sendFrame_ring_placement : (sendFrame s).ring.placement = s.ring.placement := rfl
@[simp] theorem sendFrame_ring_drive : (sendFrame s).ring.drive = s.ring.drive := rfl
@[simp] theorem sendFrame_ring_lineSeen : (sendFrame s).ring.lineSeen = s.ring.lineSeen := rfl
@[simp] theorem sendFrame_ring_externalMute : (sendFrame s).ring.externalMute = s.ring.externalMute := rfl
@[simp] theorem sendFrame_frame (i : Fin 6) (k : Fin 8) : ((sendFrame s).ring.frame.get i).get k =
    nodeSample s.ring s.cab.mix.channels i k := by
  simp [sendFrame]

@[simp] theorem adaptPath_state (n : Nat) (r m : Int) (v : Canceller) : (adaptPath n r m v).state = v.state := by
  unfold adaptPath; split <;> rfl
@[simp] theorem adaptPath_run (n : Nat) (r m : Int) (v : Canceller) : (adaptPath n r m v).run = v.run := by
  unfold adaptPath; split <;> rfl
@[simp] theorem adaptPath_discard (n : Nat) (r m : Int) (v : Canceller) : (adaptPath n r m v).discard = v.discard := by
  unfold adaptPath; split <;> rfl
@[simp] theorem adaptPath_samples (n : Nat) (r m : Int) (v : Canceller) : (adaptPath n r m v).samples = v.samples := by
  unfold adaptPath; split <;> rfl
@[simp] theorem adaptPath_micSquares (n : Nat) (r m : Int) (v : Canceller) : (adaptPath n r m v).micSquares = v.micSquares := by
  unfold adaptPath; split <;> rfl
@[simp] theorem adaptPath_residualSquares (n : Nat) (r m : Int) (v : Canceller) : (adaptPath n r m v).residualSquares = v.residualSquares := by
  unfold adaptPath; split <;> rfl

@[simp] theorem restartConverging_path (v : Canceller) : (restartConverging v).path = v.path := rfl
@[simp] theorem nextBlock_path (v : Canceller) : (nextBlock v).path = v.path := rfl
@[simp] theorem countSample_path (m r : Int) (v : Canceller) : (countSample m r v).path = v.path := by
  unfold countSample
  split
  · rfl
  · dsimp only
    split <;> simp

end Sys2Proof.Machine
end

