-- ==== Sys2Proof/Laws/Ops.lean ====
section
/-! SUPPORT. The blocks that each shared operation leaves as they were, and the parts of a block that it
leaves as they were: what a proof cites in place of the operation's text. -/

namespace Sys2Proof.Machine

/-! ## Folds -/

theorem foldl_keeps {α σ β : Type} (g : σ → β) (f : σ → α → σ) (h : ∀ s a, g (f s a) = g s) (l : List α) (s : σ) :
    g (l.foldl f s) = g s := by
  induction l generalizing s with
  | nil => rfl
  | cons a l ih => simp [ih, h]

theorem eachIdx_keeps {σ β : Type} (g : σ → β) (n : Nat) (f : Fin n → σ → σ) (h : ∀ i s, g (f i s) = g s) (s : σ) :
    g (eachIdx n f s) = g s := foldl_keeps g _ (fun s i => h i s) _ s

variable (c : Cabin)

/-! ## Announcement entries (06) -/

@[simp] theorem freeVoices_ports (i : Fin 8) : (freeVoices i c).ports = c.ports := by
  rfl
@[simp] theorem freeVoices_dir (i : Fin 8) : (freeVoices i c).dir = c.dir := by
  rfl
@[simp] theorem freeVoices_mix (i : Fin 8) : (freeVoices i c).mix = c.mix := by
  rfl
@[simp] theorem freeVoices_builder (i : Fin 8) : (freeVoices i c).builder = c.builder := by
  rfl
@[simp] theorem freeVoices_table (i : Fin 8) : (freeVoices i c).table = c.table := by
  rfl
@[simp] theorem freeVoices_alloc (i : Fin 8) : (freeVoices i c).alloc = c.alloc := by
  rfl
@[simp] theorem freeVoices_calls (i : Fin 8) : (freeVoices i c).calls = c.calls := by
  rfl
@[simp] theorem freeVoices_slots (i : Fin 8) : (freeVoices i c).queue.slots = c.queue.slots := by
  rfl
@[simp] theorem freeVoices_patterns (i : Fin 8) : (freeVoices i c).queue.patterns = c.queue.patterns := by
  rfl
@[simp] theorem freeVoices_ignored (i : Fin 8) : (freeVoices i c).queue.ignored = c.queue.ignored := by
  rfl
@[simp] theorem freeVoices_order (i : Fin 8) : (freeVoices i c).queue.order = c.queue.order := by
  rfl

@[simp] theorem recordEnd_ports (a : EntryId) (k : EntryKind) (r : EndReason) : (recordEnd a k r c).ports = c.ports := by
  rfl
@[simp] theorem recordEnd_dir (a : EntryId) (k : EntryKind) (r : EndReason) : (recordEnd a k r c).dir = c.dir := by
  rfl
@[simp] theorem recordEnd_mix (a : EntryId) (k : EntryKind) (r : EndReason) : (recordEnd a k r c).mix = c.mix := by
  rfl
@[simp] theorem recordEnd_builder (a : EntryId) (k : EntryKind) (r : EndReason) : (recordEnd a k r c).builder = c.builder := by
  rfl
@[simp] theorem recordEnd_table (a : EntryId) (k : EntryKind) (r : EndReason) : (recordEnd a k r c).table = c.table := by
  rfl
@[simp] theorem recordEnd_alloc (a : EntryId) (k : EntryKind) (r : EndReason) : (recordEnd a k r c).alloc = c.alloc := by
  rfl
@[simp] theorem recordEnd_calls (a : EntryId) (k : EntryKind) (r : EndReason) : (recordEnd a k r c).calls = c.calls := by
  rfl
@[simp] theorem recordEnd_slots (a : EntryId) (k : EntryKind) (r : EndReason) : (recordEnd a k r c).queue.slots = c.queue.slots := by
  rfl
@[simp] theorem recordEnd_patterns (a : EntryId) (k : EntryKind) (r : EndReason) : (recordEnd a k r c).queue.patterns = c.queue.patterns := by
  rfl
@[simp] theorem recordEnd_ignored (a : EntryId) (k : EntryKind) (r : EndReason) : (recordEnd a k r c).queue.ignored = c.queue.ignored := by
  rfl
@[simp] theorem recordEnd_order (a : EntryId) (k : EntryKind) (r : EndReason) : (recordEnd a k r c).queue.order = c.queue.order := by
  rfl
@[simp] theorem recordEnd_voices (a : EntryId) (k : EntryKind) (r : EndReason) : (recordEnd a k r c).queue.voices = c.queue.voices := by
  rfl

@[simp] theorem toneDisplaced_dir (a : EntryId) : (toneDisplaced a c).dir = c.dir := by
  exact eachIdx_keeps (fun c : Cabin => c.dir) _ _ (fun i c => by simp) c
@[simp] theorem toneDisplaced_mix (a : EntryId) : (toneDisplaced a c).mix = c.mix := by
  exact eachIdx_keeps (fun c : Cabin => c.mix) _ _ (fun i c => by simp) c
@[simp] theorem toneDisplaced_builder (a : EntryId) : (toneDisplaced a c).builder = c.builder := by
  exact eachIdx_keeps (fun c : Cabin => c.builder) _ _ (fun i c => by simp) c
@[simp] theorem toneDisplaced_table (a : EntryId) : (toneDisplaced a c).table = c.table := by
  exact eachIdx_keeps (fun c : Cabin => c.table) _ _ (fun i c => by simp) c
@[simp] theorem toneDisplaced_alloc (a : EntryId) : (toneDisplaced a c).alloc = c.alloc := by
  exact eachIdx_keeps (fun c : Cabin => c.alloc) _ _ (fun i c => by simp) c
@[simp] theorem toneDisplaced_queue (a : EntryId) : (toneDisplaced a c).queue = c.queue := by
  exact eachIdx_keeps (fun c : Cabin => c.queue) _ _ (fun i c => by simp) c
@[simp] theorem toneDisplaced_part (a : EntryId) : (toneDisplaced a c).ports.part = c.ports.part := by
  exact eachIdx_keeps (fun c : Cabin => c.ports.part) _ _ (fun i c => by simp) c
@[simp] theorem toneDisplaced_relay (a : EntryId) : (toneDisplaced a c).ports.relay = c.ports.relay := by
  exact eachIdx_keeps (fun c : Cabin => c.ports.relay) _ _ (fun i c => by simp) c
@[simp] theorem toneDisplaced_liteNumber (a : EntryId) : (toneDisplaced a c).ports.liteNumber = c.ports.liteNumber := by
  exact eachIdx_keeps (fun c : Cabin => c.ports.liteNumber) _ _ (fun i c => by simp) c
@[simp] theorem toneDisplaced_status (a : EntryId) : (toneDisplaced a c).ports.status = c.ports.status := by
  exact eachIdx_keeps (fun c : Cabin => c.ports.status) _ _ (fun i c => by simp) c
@[simp] theorem toneDisplaced_response (a : EntryId) : (toneDisplaced a c).ports.response = c.ports.response := by
  exact eachIdx_keeps (fun c : Cabin => c.ports.response) _ _ (fun i c => by simp) c
@[simp] theorem toneDisplaced_canceller (a : EntryId) : (toneDisplaced a c).calls.canceller = c.calls.canceller := by
  exact eachIdx_keeps (fun c : Cabin => c.calls.canceller) _ _ (fun i c => by simp) c
@[simp] theorem toneDisplaced_uplinkGain (a : EntryId) : (toneDisplaced a c).calls.uplinkGain = c.calls.uplinkGain := by
  exact eachIdx_keeps (fun c : Cabin => c.calls.uplinkGain) _ _ (fun i c => by simp) c
@[simp] theorem toneDisplaced_uplinkLevel (a : EntryId) : (toneDisplaced a c).calls.uplinkLevel = c.calls.uplinkLevel := by
  exact eachIdx_keeps (fun c : Cabin => c.calls.uplinkLevel) _ _ (fun i c => by simp) c
@[simp] theorem toneDisplaced_phoneUl (a : EntryId) : (toneDisplaced a c).calls.phoneUl = c.calls.phoneUl := by
  exact eachIdx_keeps (fun c : Cabin => c.calls.phoneUl) _ _ (fun i c => by simp) c

@[simp] theorem removeEntry_dir (i : Fin 8) (e : Entry) (r : EndReason) : (removeEntry i e r c).dir = c.dir := by
  unfold removeEntry
  dsimp only
  split <;> split <;> simp
@[simp] theorem removeEntry_mix (i : Fin 8) (e : Entry) (r : EndReason) : (removeEntry i e r c).mix = c.mix := by
  unfold removeEntry
  dsimp only
  split <;> split <;> simp
@[simp] theorem removeEntry_builder (i : Fin 8) (e : Entry) (r : EndReason) : (removeEntry i e r c).builder = c.builder := by
  unfold removeEntry
  dsimp only
  split <;> split <;> simp
@[simp] theorem removeEntry_table (i : Fin 8) (e : Entry) (r : EndReason) : (removeEntry i e r c).table = c.table := by
  unfold removeEntry
  dsimp only
  split <;> split <;> simp
@[simp] theorem removeEntry_alloc (i : Fin 8) (e : Entry) (r : EndReason) : (removeEntry i e r c).alloc = c.alloc := by
  unfold removeEntry
  dsimp only
  split <;> split <;> simp
@[simp] theorem removeEntry_part (i : Fin 8) (e : Entry) (r : EndReason) : (removeEntry i e r c).ports.part = c.ports.part := by
  unfold removeEntry
  dsimp only
  split <;> split <;> simp
@[simp] theorem removeEntry_relay (i : Fin 8) (e : Entry) (r : EndReason) : (removeEntry i e r c).ports.relay = c.ports.relay := by
  unfold removeEntry
  dsimp only
  split <;> split <;> simp
@[simp] theorem removeEntry_liteNumber (i : Fin 8) (e : Entry) (r : EndReason) : (removeEntry i e r c).ports.liteNumber = c.ports.liteNumber := by
  unfold removeEntry
  dsimp only
  split <;> split <;> simp
@[simp] theorem removeEntry_status (i : Fin 8) (e : Entry) (r : EndReason) : (removeEntry i e r c).ports.status = c.ports.status := by
  unfold removeEntry
  dsimp only
  split <;> split <;> simp
@[simp] theorem removeEntry_response (i : Fin 8) (e : Entry) (r : EndReason) : (removeEntry i e r c).ports.response = c.ports.response := by
  unfold removeEntry
  dsimp only
  split <;> split <;> simp
@[simp] theorem removeEntry_canceller (i : Fin 8) (e : Entry) (r : EndReason) : (removeEntry i e r c).calls.canceller = c.calls.canceller := by
  unfold removeEntry
  dsimp only
  split <;> split <;> simp
@[simp] theorem removeEntry_uplinkGain (i : Fin 8) (e : Entry) (r : EndReason) : (removeEntry i e r c).calls.uplinkGain = c.calls.uplinkGain := by
  unfold removeEntry
  dsimp only
  split <;> split <;> simp
@[simp] theorem removeEntry_uplinkLevel (i : Fin 8) (e : Entry) (r : EndReason) : (removeEntry i e r c).calls.uplinkLevel = c.calls.uplinkLevel := by
  unfold removeEntry
  dsimp only
  split <;> split <;> simp
@[simp] theorem removeEntry_phoneUl (i : Fin 8) (e : Entry) (r : EndReason) : (removeEntry i e r c).calls.phoneUl = c.calls.phoneUl := by
  unfold removeEntry
  dsimp only
  split <;> split <;> simp
@[simp] theorem removeEntry_patterns (i : Fin 8) (e : Entry) (r : EndReason) : (removeEntry i e r c).queue.patterns = c.queue.patterns := by
  unfold removeEntry
  dsimp only
  split <;> split <;> simp
@[simp] theorem removeEntry_ignored (i : Fin 8) (e : Entry) (r : EndReason) : (removeEntry i e r c).queue.ignored = c.queue.ignored := by
  unfold removeEntry
  dsimp only
  split <;> split <;> simp
@[simp] theorem removeEntry_order (i : Fin 8) (e : Entry) (r : EndReason) : (removeEntry i e r c).queue.order = c.queue.order := by
  unfold removeEntry
  dsimp only
  split <;> split <;> simp

@[simp] theorem putEntry_ports (i : Fin 8) (k : EntryKind) (pr : Nat) (t : ZoneSet) (ms : Nat) : (putEntry i k pr t ms c).ports = c.ports := by
  rfl
@[simp] theorem putEntry_dir (i : Fin 8) (k : EntryKind) (pr : Nat) (t : ZoneSet) (ms : Nat) : (putEntry i k pr t ms c).dir = c.dir := by
  rfl
@[simp] theorem putEntry_mix (i : Fin 8) (k : EntryKind) (pr : Nat) (t : ZoneSet) (ms : Nat) : (putEntry i k pr t ms c).mix = c.mix := by
  rfl
@[simp] theorem putEntry_builder (i : Fin 8) (k : EntryKind) (pr : Nat) (t : ZoneSet) (ms : Nat) : (putEntry i k pr t ms c).builder = c.builder := by
  rfl
@[simp] theorem putEntry_table (i : Fin 8) (k : EntryKind) (pr : Nat) (t : ZoneSet) (ms : Nat) : (putEntry i k pr t ms c).table = c.table := by
  rfl
@[simp] theorem putEntry_alloc (i : Fin 8) (k : EntryKind) (pr : Nat) (t : ZoneSet) (ms : Nat) : (putEntry i k pr t ms c).alloc = c.alloc := by
  rfl
@[simp] theorem putEntry_calls (i : Fin 8) (k : EntryKind) (pr : Nat) (t : ZoneSet) (ms : Nat) : (putEntry i k pr t ms c).calls = c.calls := by
  rfl
@[simp] theorem putEntry_ends (i : Fin 8) (k : EntryKind) (pr : Nat) (t : ZoneSet) (ms : Nat) : (putEntry i k pr t ms c).queue.ends = c.queue.ends := by
  rfl
@[simp] theorem putEntry_endNumber (i : Fin 8) (k : EntryKind) (pr : Nat) (t : ZoneSet) (ms : Nat) : (putEntry i k pr t ms c).queue.endNumber = c.queue.endNumber := by
  rfl
@[simp] theorem putEntry_ignored (i : Fin 8) (k : EntryKind) (pr : Nat) (t : ZoneSet) (ms : Nat) : (putEntry i k pr t ms c).queue.ignored = c.queue.ignored := by
  rfl
@[simp] theorem putEntry_patterns (i : Fin 8) (k : EntryKind) (pr : Nat) (t : ZoneSet) (ms : Nat) : (putEntry i k pr t ms c).queue.patterns = c.queue.patterns := by
  rfl
@[simp] theorem putEntry_voices (i : Fin 8) (k : EntryKind) (pr : Nat) (t : ZoneSet) (ms : Nat) : (putEntry i k pr t ms c).queue.voices = c.queue.voices := by
  rfl

@[simp] theorem ignoreStation_ports (h : StationId) : (ignoreStation h c).ports = c.ports := by
  unfold ignoreStation; split <;> rfl
@[simp] theorem ignoreStation_dir (h : StationId) : (ignoreStation h c).dir = c.dir := by
  unfold ignoreStation; split <;> rfl
@[simp] theorem ignoreStation_mix (h : StationId) : (ignoreStation h c).mix = c.mix := by
  unfold ignoreStation; split <;> rfl
@[simp] theorem ignoreStation_builder (h : StationId) : (ignoreStation h c).builder = c.builder := by
  unfold ignoreStation; split <;> rfl
@[simp] theorem ignoreStation_table (h : StationId) : (ignoreStation h c).table = c.table := by
  unfold ignoreStation; split <;> rfl
@[simp] theorem ignoreStation_alloc (h : StationId) : (ignoreStation h c).alloc = c.alloc := by
  unfold ignoreStation; split <;> rfl
@[simp] theorem ignoreStation_calls (h : StationId) : (ignoreStation h c).calls = c.calls := by
  unfold ignoreStation; split <;> rfl
@[simp] theorem ignoreStation_slots (h : StationId) : (ignoreStation h c).queue.slots = c.queue.slots := by
  unfold ignoreStation; split <;> rfl
@[simp] theorem ignoreStation_order (h : StationId) : (ignoreStation h c).queue.order = c.queue.order := by
  unfold ignoreStation; split <;> rfl
@[simp] theorem ignoreStation_ends (h : StationId) : (ignoreStation h c).queue.ends = c.queue.ends := by
  unfold ignoreStation; split <;> rfl
@[simp] theorem ignoreStation_endNumber (h : StationId) : (ignoreStation h c).queue.endNumber = c.queue.endNumber := by
  unfold ignoreStation; split <;> rfl
@[simp] theorem ignoreStation_patterns (h : StationId) : (ignoreStation h c).queue.patterns = c.queue.patterns := by
  unfold ignoreStation; split <;> rfl
@[simp] theorem ignoreStation_voices (h : StationId) : (ignoreStation h c).queue.voices = c.queue.voices := by
  unfold ignoreStation; split <;> rfl

@[simp] theorem unignoreStation_ports (h : StationId) : (unignoreStation h c).ports = c.ports := by
  rfl
@[simp] theorem unignoreStation_dir (h : StationId) : (unignoreStation h c).dir = c.dir := by
  rfl
@[simp] theorem unignoreStation_mix (h : StationId) : (unignoreStation h c).mix = c.mix := by
  rfl
@[simp] theorem unignoreStation_builder (h : StationId) : (unignoreStation h c).builder = c.builder := by
  rfl
@[simp] theorem unignoreStation_table (h : StationId) : (unignoreStation h c).table = c.table := by
  rfl
@[simp] theorem unignoreStation_alloc (h : StationId) : (unignoreStation h c).alloc = c.alloc := by
  rfl
@[simp] theorem unignoreStation_calls (h : StationId) : (unignoreStation h c).calls = c.calls := by
  rfl
@[simp] theorem unignoreStation_slots (h : StationId) : (unignoreStation h c).queue.slots = c.queue.slots := by
  rfl
@[simp] theorem unignoreStation_order (h : StationId) : (unignoreStation h c).queue.order = c.queue.order := by
  rfl
@[simp] theorem unignoreStation_ends (h : StationId) : (unignoreStation h c).queue.ends = c.queue.ends := by
  rfl
@[simp] theorem unignoreStation_endNumber (h : StationId) : (unignoreStation h c).queue.endNumber = c.queue.endNumber := by
  rfl
@[simp] theorem unignoreStation_patterns (h : StationId) : (unignoreStation h c).queue.patterns = c.queue.patterns := by
  rfl
@[simp] theorem unignoreStation_voices (h : StationId) : (unignoreStation h c).queue.voices = c.queue.voices := by
  rfl

/-! ## Audibility and voices (02, 06) -/

@[simp] theorem refreshDuck_dir : (refreshDuck c).dir = c.dir := by
  simp [refreshDuck]
@[simp] theorem refreshDuck_builder : (refreshDuck c).builder = c.builder := by
  simp [refreshDuck]
@[simp] theorem refreshDuck_table : (refreshDuck c).table = c.table := by
  simp [refreshDuck]
@[simp] theorem refreshDuck_alloc : (refreshDuck c).alloc = c.alloc := by
  simp [refreshDuck]
@[simp] theorem refreshDuck_queue : (refreshDuck c).queue = c.queue := by
  simp [refreshDuck]
@[simp] theorem refreshDuck_calls : (refreshDuck c).calls = c.calls := by
  simp [refreshDuck]
@[simp] theorem refreshDuck_part : (refreshDuck c).ports.part = c.ports.part := by
  simp [refreshDuck]
@[simp] theorem refreshDuck_relay : (refreshDuck c).ports.relay = c.ports.relay := by
  simp [refreshDuck]
@[simp] theorem refreshDuck_liteNumber : (refreshDuck c).ports.liteNumber = c.ports.liteNumber := by
  simp [refreshDuck]
@[simp] theorem refreshDuck_status : (refreshDuck c).ports.status = c.ports.status := by
  simp [refreshDuck]
@[simp] theorem refreshDuck_response : (refreshDuck c).ports.response = c.ports.response := by
  simp [refreshDuck]
@[simp] theorem refreshDuck_channels : (refreshDuck c).mix.channels = c.mix.channels := by
  simp [refreshDuck]

@[simp] theorem freeLostVoices_ports : (freeLostVoices c).ports = c.ports := by
  rfl
@[simp] theorem freeLostVoices_dir : (freeLostVoices c).dir = c.dir := by
  rfl
@[simp] theorem freeLostVoices_mix : (freeLostVoices c).mix = c.mix := by
  rfl
@[simp] theorem freeLostVoices_builder : (freeLostVoices c).builder = c.builder := by
  rfl
@[simp] theorem freeLostVoices_table : (freeLostVoices c).table = c.table := by
  rfl
@[simp] theorem freeLostVoices_alloc : (freeLostVoices c).alloc = c.alloc := by
  rfl
@[simp] theorem freeLostVoices_calls : (freeLostVoices c).calls = c.calls := by
  rfl
@[simp] theorem freeLostVoices_slots : (freeLostVoices c).queue.slots = c.queue.slots := by
  rfl
@[simp] theorem freeLostVoices_order : (freeLostVoices c).queue.order = c.queue.order := by
  rfl
@[simp] theorem freeLostVoices_ends : (freeLostVoices c).queue.ends = c.queue.ends := by
  rfl
@[simp] theorem freeLostVoices_endNumber : (freeLostVoices c).queue.endNumber = c.queue.endNumber := by
  rfl
@[simp] theorem freeLostVoices_ignored : (freeLostVoices c).queue.ignored = c.queue.ignored := by
  rfl
@[simp] theorem freeLostVoices_patterns : (freeLostVoices c).queue.patterns = c.queue.patterns := by
  rfl

@[simp] theorem fillVoice_ports (v : Fin 2) : (fillVoice v c).ports = c.ports := by
  unfold fillVoice
  repeat' split
  all_goals simp
@[simp] theorem fillVoice_dir (v : Fin 2) : (fillVoice v c).dir = c.dir := by
  unfold fillVoice
  repeat' split
  all_goals simp
@[simp] theorem fillVoice_mix (v : Fin 2) : (fillVoice v c).mix = c.mix := by
  unfold fillVoice
  repeat' split
  all_goals simp
@[simp] theorem fillVoice_builder (v : Fin 2) : (fillVoice v c).builder = c.builder := by
  unfold fillVoice
  repeat' split
  all_goals simp
@[simp] theorem fillVoice_table (v : Fin 2) : (fillVoice v c).table = c.table := by
  unfold fillVoice
  repeat' split
  all_goals simp
@[simp] theorem fillVoice_alloc (v : Fin 2) : (fillVoice v c).alloc = c.alloc := by
  unfold fillVoice
  repeat' split
  all_goals simp
@[simp] theorem fillVoice_calls (v : Fin 2) : (fillVoice v c).calls = c.calls := by
  unfold fillVoice
  repeat' split
  all_goals simp
@[simp] theorem fillVoice_slots (v : Fin 2) : (fillVoice v c).queue.slots = c.queue.slots := by
  unfold fillVoice
  repeat' split
  all_goals simp
@[simp] theorem fillVoice_order (v : Fin 2) : (fillVoice v c).queue.order = c.queue.order := by
  unfold fillVoice
  repeat' split
  all_goals simp
@[simp] theorem fillVoice_ends (v : Fin 2) : (fillVoice v c).queue.ends = c.queue.ends := by
  unfold fillVoice
  repeat' split
  all_goals simp
@[simp] theorem fillVoice_endNumber (v : Fin 2) : (fillVoice v c).queue.endNumber = c.queue.endNumber := by
  unfold fillVoice
  repeat' split
  all_goals simp
@[simp] theorem fillVoice_ignored (v : Fin 2) : (fillVoice v c).queue.ignored = c.queue.ignored := by
  unfold fillVoice
  repeat' split
  all_goals simp
@[simp] theorem fillVoice_patterns (v : Fin 2) : (fillVoice v c).queue.patterns = c.queue.patterns := by
  unfold fillVoice
  repeat' split
  all_goals simp

@[simp] theorem overtakeOnce_ports : (overtakeOnce c).ports = c.ports := by
  unfold overtakeOnce
  repeat' split
  all_goals simp
@[simp] theorem overtakeOnce_dir : (overtakeOnce c).dir = c.dir := by
  unfold overtakeOnce
  repeat' split
  all_goals simp
@[simp] theorem overtakeOnce_mix : (overtakeOnce c).mix = c.mix := by
  unfold overtakeOnce
  repeat' split
  all_goals simp
@[simp] theorem overtakeOnce_builder : (overtakeOnce c).builder = c.builder := by
  unfold overtakeOnce
  repeat' split
  all_goals simp
@[simp] theorem overtakeOnce_table : (overtakeOnce c).table = c.table := by
  unfold overtakeOnce
  repeat' split
  all_goals simp
@[simp] theorem overtakeOnce_alloc : (overtakeOnce c).alloc = c.alloc := by
  unfold overtakeOnce
  repeat' split
  all_goals simp
@[simp] theorem overtakeOnce_calls : (overtakeOnce c).calls = c.calls := by
  unfold overtakeOnce
  repeat' split
  all_goals simp
@[simp] theorem overtakeOnce_slots : (overtakeOnce c).queue.slots = c.queue.slots := by
  unfold overtakeOnce
  repeat' split
  all_goals simp
@[simp] theorem overtakeOnce_order : (overtakeOnce c).queue.order = c.queue.order := by
  unfold overtakeOnce
  repeat' split
  all_goals simp
@[simp] theorem overtakeOnce_ends : (overtakeOnce c).queue.ends = c.queue.ends := by
  unfold overtakeOnce
  repeat' split
  all_goals simp
@[simp] theorem overtakeOnce_endNumber : (overtakeOnce c).queue.endNumber = c.queue.endNumber := by
  unfold overtakeOnce
  repeat' split
  all_goals simp
@[simp] theorem overtakeOnce_ignored : (overtakeOnce c).queue.ignored = c.queue.ignored := by
  unfold overtakeOnce
  repeat' split
  all_goals simp
@[simp] theorem overtakeOnce_patterns : (overtakeOnce c).queue.patterns = c.queue.patterns := by
  unfold overtakeOnce
  repeat' split
  all_goals simp

@[simp] theorem arbitrateVoices_ports : (arbitrateVoices c).ports = c.ports := by
  simp [arbitrateVoices]
@[simp] theorem arbitrateVoices_dir : (arbitrateVoices c).dir = c.dir := by
  simp [arbitrateVoices]
@[simp] theorem arbitrateVoices_mix : (arbitrateVoices c).mix = c.mix := by
  simp [arbitrateVoices]
@[simp] theorem arbitrateVoices_builder : (arbitrateVoices c).builder = c.builder := by
  simp [arbitrateVoices]
@[simp] theorem arbitrateVoices_table : (arbitrateVoices c).table = c.table := by
  simp [arbitrateVoices]
@[simp] theorem arbitrateVoices_alloc : (arbitrateVoices c).alloc = c.alloc := by
  simp [arbitrateVoices]
@[simp] theorem arbitrateVoices_calls : (arbitrateVoices c).calls = c.calls := by
  simp [arbitrateVoices]
@[simp] theorem arbitrateVoices_slots : (arbitrateVoices c).queue.slots = c.queue.slots := by
  simp [arbitrateVoices]
@[simp] theorem arbitrateVoices_order : (arbitrateVoices c).queue.order = c.queue.order := by
  simp [arbitrateVoices]
@[simp] theorem arbitrateVoices_ends : (arbitrateVoices c).queue.ends = c.queue.ends := by
  simp [arbitrateVoices]
@[simp] theorem arbitrateVoices_endNumber : (arbitrateVoices c).queue.endNumber = c.queue.endNumber := by
  simp [arbitrateVoices]
@[simp] theorem arbitrateVoices_ignored : (arbitrateVoices c).queue.ignored = c.queue.ignored := by
  simp [arbitrateVoices]
@[simp] theorem arbitrateVoices_patterns : (arbitrateVoices c).queue.patterns = c.queue.patterns := by
  simp [arbitrateVoices]

@[simp] theorem refreshSound_dir : (refreshSound c).dir = c.dir := by
  simp [refreshSound]
@[simp] theorem refreshSound_builder : (refreshSound c).builder = c.builder := by
  simp [refreshSound]
@[simp] theorem refreshSound_table : (refreshSound c).table = c.table := by
  simp [refreshSound]
@[simp] theorem refreshSound_alloc : (refreshSound c).alloc = c.alloc := by
  simp [refreshSound]
@[simp] theorem refreshSound_calls : (refreshSound c).calls = c.calls := by
  simp [refreshSound]
@[simp] theorem refreshSound_part : (refreshSound c).ports.part = c.ports.part := by
  simp [refreshSound]
@[simp] theorem refreshSound_relay : (refreshSound c).ports.relay = c.ports.relay := by
  simp [refreshSound]
@[simp] theorem refreshSound_liteNumber : (refreshSound c).ports.liteNumber = c.ports.liteNumber := by
  simp [refreshSound]
@[simp] theorem refreshSound_status : (refreshSound c).ports.status = c.ports.status := by
  simp [refreshSound]
@[simp] theorem refreshSound_response : (refreshSound c).ports.response = c.ports.response := by
  simp [refreshSound]
@[simp] theorem refreshSound_slots : (refreshSound c).queue.slots = c.queue.slots := by
  simp [refreshSound]
@[simp] theorem refreshSound_order : (refreshSound c).queue.order = c.queue.order := by
  simp [refreshSound]
@[simp] theorem refreshSound_ends : (refreshSound c).queue.ends = c.queue.ends := by
  simp [refreshSound]
@[simp] theorem refreshSound_endNumber : (refreshSound c).queue.endNumber = c.queue.endNumber := by
  simp [refreshSound]
@[simp] theorem refreshSound_ignored : (refreshSound c).queue.ignored = c.queue.ignored := by
  simp [refreshSound]
@[simp] theorem refreshSound_patterns : (refreshSound c).queue.patterns = c.queue.patterns := by
  simp [refreshSound]
@[simp] theorem refreshSound_channels : (refreshSound c).mix.channels = c.mix.channels := by
  simp [refreshSound]

/-! ## Queuing and ending entries (06) -/

@[simp] theorem admitEntry_dir (k : EntryKind) (pr : Nat) (t : ZoneSet) (ms : Nat) : ((admitEntry k pr t ms c).1).dir = c.dir := by
  unfold admitEntry
  split <;> simp
@[simp] theorem admitEntry_builder (k : EntryKind) (pr : Nat) (t : ZoneSet) (ms : Nat) : ((admitEntry k pr t ms c).1).builder = c.builder := by
  unfold admitEntry
  split <;> simp
@[simp] theorem admitEntry_table (k : EntryKind) (pr : Nat) (t : ZoneSet) (ms : Nat) : ((admitEntry k pr t ms c).1).table = c.table := by
  unfold admitEntry
  split <;> simp
@[simp] theorem admitEntry_alloc (k : EntryKind) (pr : Nat) (t : ZoneSet) (ms : Nat) : ((admitEntry k pr t ms c).1).alloc = c.alloc := by
  unfold admitEntry
  split <;> simp
@[simp] theorem admitEntry_part (k : EntryKind) (pr : Nat) (t : ZoneSet) (ms : Nat) : ((admitEntry k pr t ms c).1).ports.part = c.ports.part := by
  unfold admitEntry
  split <;> simp
@[simp] theorem admitEntry_relay (k : EntryKind) (pr : Nat) (t : ZoneSet) (ms : Nat) : ((admitEntry k pr t ms c).1).ports.relay = c.ports.relay := by
  unfold admitEntry
  split <;> simp
@[simp] theorem admitEntry_liteNumber (k : EntryKind) (pr : Nat) (t : ZoneSet) (ms : Nat) : ((admitEntry k pr t ms c).1).ports.liteNumber = c.ports.liteNumber := by
  unfold admitEntry
  split <;> simp
@[simp] theorem admitEntry_status (k : EntryKind) (pr : Nat) (t : ZoneSet) (ms : Nat) : ((admitEntry k pr t ms c).1).ports.status = c.ports.status := by
  unfold admitEntry
  split <;> simp
@[simp] theorem admitEntry_response (k : EntryKind) (pr : Nat) (t : ZoneSet) (ms : Nat) : ((admitEntry k pr t ms c).1).ports.response = c.ports.response := by
  unfold admitEntry
  split <;> simp
@[simp] theorem admitEntry_canceller (k : EntryKind) (pr : Nat) (t : ZoneSet) (ms : Nat) : ((admitEntry k pr t ms c).1).calls.canceller = c.calls.canceller := by
  unfold admitEntry
  split <;> simp
@[simp] theorem admitEntry_uplinkGain (k : EntryKind) (pr : Nat) (t : ZoneSet) (ms : Nat) : ((admitEntry k pr t ms c).1).calls.uplinkGain = c.calls.uplinkGain := by
  unfold admitEntry
  split <;> simp
@[simp] theorem admitEntry_uplinkLevel (k : EntryKind) (pr : Nat) (t : ZoneSet) (ms : Nat) : ((admitEntry k pr t ms c).1).calls.uplinkLevel = c.calls.uplinkLevel := by
  unfold admitEntry
  split <;> simp
@[simp] theorem admitEntry_phoneUl (k : EntryKind) (pr : Nat) (t : ZoneSet) (ms : Nat) : ((admitEntry k pr t ms c).1).calls.phoneUl = c.calls.phoneUl := by
  unfold admitEntry
  split <;> simp
@[simp] theorem admitEntry_patterns (k : EntryKind) (pr : Nat) (t : ZoneSet) (ms : Nat) : ((admitEntry k pr t ms c).1).queue.patterns = c.queue.patterns := by
  unfold admitEntry
  split <;> simp
@[simp] theorem admitEntry_ignored (k : EntryKind) (pr : Nat) (t : ZoneSet) (ms : Nat) : ((admitEntry k pr t ms c).1).queue.ignored = c.queue.ignored := by
  unfold admitEntry
  split <;> simp
@[simp] theorem admitEntry_channels (k : EntryKind) (pr : Nat) (t : ZoneSet) (ms : Nat) : ((admitEntry k pr t ms c).1).mix.channels = c.mix.channels := by
  unfold admitEntry
  split <;> simp

@[simp] theorem retarget_dir (i : Fin 8) (t : ZoneSet) : (retarget i t c).dir = c.dir := by
  unfold retarget; split <;> simp
@[simp] theorem retarget_builder (i : Fin 8) (t : ZoneSet) : (retarget i t c).builder = c.builder := by
  unfold retarget; split <;> simp
@[simp] theorem retarget_table (i : Fin 8) (t : ZoneSet) : (retarget i t c).table = c.table := by
  unfold retarget; split <;> simp
@[simp] theorem retarget_alloc (i : Fin 8) (t : ZoneSet) : (retarget i t c).alloc = c.alloc := by
  unfold retarget; split <;> simp
@[simp] theorem retarget_calls (i : Fin 8) (t : ZoneSet) : (retarget i t c).calls = c.calls := by
  unfold retarget; split <;> simp
@[simp] theorem retarget_part (i : Fin 8) (t : ZoneSet) : (retarget i t c).ports.part = c.ports.part := by
  unfold retarget; split <;> simp
@[simp] theorem retarget_relay (i : Fin 8) (t : ZoneSet) : (retarget i t c).ports.relay = c.ports.relay := by
  unfold retarget; split <;> simp
@[simp] theorem retarget_liteNumber (i : Fin 8) (t : ZoneSet) : (retarget i t c).ports.liteNumber = c.ports.liteNumber := by
  unfold retarget; split <;> simp
@[simp] theorem retarget_status (i : Fin 8) (t : ZoneSet) : (retarget i t c).ports.status = c.ports.status := by
  unfold retarget; split <;> simp
@[simp] theorem retarget_response (i : Fin 8) (t : ZoneSet) : (retarget i t c).ports.response = c.ports.response := by
  unfold retarget; split <;> simp
@[simp] theorem retarget_patterns (i : Fin 8) (t : ZoneSet) : (retarget i t c).queue.patterns = c.queue.patterns := by
  unfold retarget; split <;> simp
@[simp] theorem retarget_ignored (i : Fin 8) (t : ZoneSet) : (retarget i t c).queue.ignored = c.queue.ignored := by
  unfold retarget; split <;> simp
@[simp] theorem retarget_channels (i : Fin 8) (t : ZoneSet) : (retarget i t c).mix.channels = c.mix.channels := by
  unfold retarget; split <;> simp

@[simp] theorem testTrafficOn_dir (x : Chan) : (testTrafficOn x c).dir = c.dir := by
  unfold testTrafficOn
  split
  · rfl
  · rename_i h _
    split
    · simp
    · split
      · split
        · rename_i c' _ e
          have := admitEntry_dir c (.traffic h x) 3 (trafficTargets c h) trafficLimit
          rw [e] at this
          simpa using this
        · rename_i c' e
          have := admitEntry_dir c (.traffic h x) 3 (trafficTargets c h) trafficLimit
          rw [e] at this
          exact this
      · rfl
@[simp] theorem testTrafficOn_builder (x : Chan) : (testTrafficOn x c).builder = c.builder := by
  unfold testTrafficOn
  split
  · rfl
  · rename_i h _
    split
    · simp
    · split
      · split
        · rename_i c' _ e
          have := admitEntry_builder c (.traffic h x) 3 (trafficTargets c h) trafficLimit
          rw [e] at this
          simpa using this
        · rename_i c' e
          have := admitEntry_builder c (.traffic h x) 3 (trafficTargets c h) trafficLimit
          rw [e] at this
          exact this
      · rfl
@[simp] theorem testTrafficOn_table (x : Chan) : (testTrafficOn x c).table = c.table := by
  unfold testTrafficOn
  split
  · rfl
  · rename_i h _
    split
    · simp
    · split
      · split
        · rename_i c' _ e
          have := admitEntry_table c (.traffic h x) 3 (trafficTargets c h) trafficLimit
          rw [e] at this
          simpa using this
        · rename_i c' e
          have := admitEntry_table c (.traffic h x) 3 (trafficTargets c h) trafficLimit
          rw [e] at this
          exact this
      · rfl
@[simp] theorem testTrafficOn_alloc (x : Chan) : (testTrafficOn x c).alloc = c.alloc := by
  unfold testTrafficOn
  split
  · rfl
  · rename_i h _
    split
    · simp
    · split
      · split
        · rename_i c' _ e
          have := admitEntry_alloc c (.traffic h x) 3 (trafficTargets c h) trafficLimit
          rw [e] at this
          simpa using this
        · rename_i c' e
          have := admitEntry_alloc c (.traffic h x) 3 (trafficTargets c h) trafficLimit
          rw [e] at this
          exact this
      · rfl
@[simp] theorem testTrafficOn_part (x : Chan) : (testTrafficOn x c).ports.part = c.ports.part := by
  unfold testTrafficOn
  split
  · rfl
  · rename_i h _
    split
    · simp
    · split
      · split
        · rename_i c' _ e
          have := admitEntry_part c (.traffic h x) 3 (trafficTargets c h) trafficLimit
          rw [e] at this
          simpa using this
        · rename_i c' e
          have := admitEntry_part c (.traffic h x) 3 (trafficTargets c h) trafficLimit
          rw [e] at this
          exact this
      · rfl
@[simp] theorem testTrafficOn_relay (x : Chan) : (testTrafficOn x c).ports.relay = c.ports.relay := by
  unfold testTrafficOn
  split
  · rfl
  · rename_i h _
    split
    · simp
    · split
      · split
        · rename_i c' _ e
          have := admitEntry_relay c (.traffic h x) 3 (trafficTargets c h) trafficLimit
          rw [e] at this
          simpa using this
        · rename_i c' e
          have := admitEntry_relay c (.traffic h x) 3 (trafficTargets c h) trafficLimit
          rw [e] at this
          exact this
      · rfl
@[simp] theorem testTrafficOn_liteNumber (x : Chan) : (testTrafficOn x c).ports.liteNumber = c.ports.liteNumber := by
  unfold testTrafficOn
  split
  · rfl
  · rename_i h _
    split
    · simp
    · split
      · split
        · rename_i c' _ e
          have := admitEntry_liteNumber c (.traffic h x) 3 (trafficTargets c h) trafficLimit
          rw [e] at this
          simpa using this
        · rename_i c' e
          have := admitEntry_liteNumber c (.traffic h x) 3 (trafficTargets c h) trafficLimit
          rw [e] at this
          exact this
      · rfl
@[simp] theorem testTrafficOn_status (x : Chan) : (testTrafficOn x c).ports.status = c.ports.status := by
  unfold testTrafficOn
  split
  · rfl
  · rename_i h _
    split
    · simp
    · split
      · split
        · rename_i c' _ e
          have := admitEntry_status c (.traffic h x) 3 (trafficTargets c h) trafficLimit
          rw [e] at this
          simpa using this
        · rename_i c' e
          have := admitEntry_status c (.traffic h x) 3 (trafficTargets c h) trafficLimit
          rw [e] at this
          exact this
      · rfl
@[simp] theorem testTrafficOn_response (x : Chan) : (testTrafficOn x c).ports.response = c.ports.response := by
  unfold testTrafficOn
  split
  · rfl
  · rename_i h _
    split
    · simp
    · split
      · split
        · rename_i c' _ e
          have := admitEntry_response c (.traffic h x) 3 (trafficTargets c h) trafficLimit
          rw [e] at this
          simpa using this
        · rename_i c' e
          have := admitEntry_response c (.traffic h x) 3 (trafficTargets c h) trafficLimit
          rw [e] at this
          exact this
      · rfl
@[simp] theorem testTrafficOn_canceller (x : Chan) : (testTrafficOn x c).calls.canceller = c.calls.canceller := by
  unfold testTrafficOn
  split
  · rfl
  · rename_i h _
    split
    · simp
    · split
      · split
        · rename_i c' _ e
          have := admitEntry_canceller c (.traffic h x) 3 (trafficTargets c h) trafficLimit
          rw [e] at this
          simpa using this
        · rename_i c' e
          have := admitEntry_canceller c (.traffic h x) 3 (trafficTargets c h) trafficLimit
          rw [e] at this
          exact this
      · rfl
@[simp] theorem testTrafficOn_uplinkGain (x : Chan) : (testTrafficOn x c).calls.uplinkGain = c.calls.uplinkGain := by
  unfold testTrafficOn
  split
  · rfl
  · rename_i h _
    split
    · simp
    · split
      · split
        · rename_i c' _ e
          have := admitEntry_uplinkGain c (.traffic h x) 3 (trafficTargets c h) trafficLimit
          rw [e] at this
          simpa using this
        · rename_i c' e
          have := admitEntry_uplinkGain c (.traffic h x) 3 (trafficTargets c h) trafficLimit
          rw [e] at this
          exact this
      · rfl
@[simp] theorem testTrafficOn_uplinkLevel (x : Chan) : (testTrafficOn x c).calls.uplinkLevel = c.calls.uplinkLevel := by
  unfold testTrafficOn
  split
  · rfl
  · rename_i h _
    split
    · simp
    · split
      · split
        · rename_i c' _ e
          have := admitEntry_uplinkLevel c (.traffic h x) 3 (trafficTargets c h) trafficLimit
          rw [e] at this
          simpa using this
        · rename_i c' e
          have := admitEntry_uplinkLevel c (.traffic h x) 3 (trafficTargets c h) trafficLimit
          rw [e] at this
          exact this
      · rfl
@[simp] theorem testTrafficOn_phoneUl (x : Chan) : (testTrafficOn x c).calls.phoneUl = c.calls.phoneUl := by
  unfold testTrafficOn
  split
  · rfl
  · rename_i h _
    split
    · simp
    · split
      · split
        · rename_i c' _ e
          have := admitEntry_phoneUl c (.traffic h x) 3 (trafficTargets c h) trafficLimit
          rw [e] at this
          simpa using this
        · rename_i c' e
          have := admitEntry_phoneUl c (.traffic h x) 3 (trafficTargets c h) trafficLimit
          rw [e] at this
          exact this
      · rfl
@[simp] theorem testTrafficOn_patterns (x : Chan) : (testTrafficOn x c).queue.patterns = c.queue.patterns := by
  unfold testTrafficOn
  split
  · rfl
  · rename_i h _
    split
    · simp
    · split
      · split
        · rename_i c' _ e
          have := admitEntry_patterns c (.traffic h x) 3 (trafficTargets c h) trafficLimit
          rw [e] at this
          simpa using this
        · rename_i c' e
          have := admitEntry_patterns c (.traffic h x) 3 (trafficTargets c h) trafficLimit
          rw [e] at this
          exact this
      · rfl
@[simp] theorem testTrafficOn_ignored (x : Chan) : (testTrafficOn x c).queue.ignored = c.queue.ignored := by
  unfold testTrafficOn
  split
  · rfl
  · rename_i h _
    split
    · simp
    · split
      · split
        · rename_i c' _ e
          have := admitEntry_ignored c (.traffic h x) 3 (trafficTargets c h) trafficLimit
          rw [e] at this
          simpa using this
        · rename_i c' e
          have := admitEntry_ignored c (.traffic h x) 3 (trafficTargets c h) trafficLimit
          rw [e] at this
          exact this
      · rfl
@[simp] theorem testTrafficOn_channels (x : Chan) : (testTrafficOn x c).mix.channels = c.mix.channels := by
  unfold testTrafficOn
  split
  · rfl
  · rename_i h _
    split
    · simp
    · split
      · split
        · rename_i c' _ e
          have := admitEntry_channels c (.traffic h x) 3 (trafficTargets c h) trafficLimit
          rw [e] at this
          simpa using this
        · rename_i c' e
          have := admitEntry_channels c (.traffic h x) 3 (trafficTargets c h) trafficLimit
          rw [e] at this
          exact this
      · rfl

@[simp] theorem testTraffic_dir : (testTraffic c).dir = c.dir := by
  simp [testTraffic]
@[simp] theorem testTraffic_builder : (testTraffic c).builder = c.builder := by
  simp [testTraffic]
@[simp] theorem testTraffic_table : (testTraffic c).table = c.table := by
  simp [testTraffic]
@[simp] theorem testTraffic_alloc : (testTraffic c).alloc = c.alloc := by
  simp [testTraffic]
@[simp] theorem testTraffic_part : (testTraffic c).ports.part = c.ports.part := by
  simp [testTraffic]
@[simp] theorem testTraffic_relay : (testTraffic c).ports.relay = c.ports.relay := by
  simp [testTraffic]
@[simp] theorem testTraffic_liteNumber : (testTraffic c).ports.liteNumber = c.ports.liteNumber := by
  simp [testTraffic]
@[simp] theorem testTraffic_status : (testTraffic c).ports.status = c.ports.status := by
  simp [testTraffic]
@[simp] theorem testTraffic_response : (testTraffic c).ports.response = c.ports.response := by
  simp [testTraffic]
@[simp] theorem testTraffic_canceller : (testTraffic c).calls.canceller = c.calls.canceller := by
  simp [testTraffic]
@[simp] theorem testTraffic_uplinkGain : (testTraffic c).calls.uplinkGain = c.calls.uplinkGain := by
  simp [testTraffic]
@[simp] theorem testTraffic_uplinkLevel : (testTraffic c).calls.uplinkLevel = c.calls.uplinkLevel := by
  simp [testTraffic]
@[simp] theorem testTraffic_phoneUl : (testTraffic c).calls.phoneUl = c.calls.phoneUl := by
  simp [testTraffic]
@[simp] theorem testTraffic_patterns : (testTraffic c).queue.patterns = c.queue.patterns := by
  simp [testTraffic]
@[simp] theorem testTraffic_ignored : (testTraffic c).queue.ignored = c.queue.ignored := by
  simp [testTraffic]
@[simp] theorem testTraffic_channels : (testTraffic c).mix.channels = c.mix.channels := by
  simp [testTraffic]

@[simp] theorem testStation_dir (h : StationId) : (testStation h c).dir = c.dir := by
  unfold testStation
  split
  · rfl
  · dsimp only
    split <;> simp
@[simp] theorem testStation_builder (h : StationId) : (testStation h c).builder = c.builder := by
  unfold testStation
  split
  · rfl
  · dsimp only
    split <;> simp
@[simp] theorem testStation_table (h : StationId) : (testStation h c).table = c.table := by
  unfold testStation
  split
  · rfl
  · dsimp only
    split <;> simp
@[simp] theorem testStation_alloc (h : StationId) : (testStation h c).alloc = c.alloc := by
  unfold testStation
  split
  · rfl
  · dsimp only
    split <;> simp
@[simp] theorem testStation_part (h : StationId) : (testStation h c).ports.part = c.ports.part := by
  unfold testStation
  split
  · rfl
  · dsimp only
    split <;> simp
@[simp] theorem testStation_relay (h : StationId) : (testStation h c).ports.relay = c.ports.relay := by
  unfold testStation
  split
  · rfl
  · dsimp only
    split <;> simp
@[simp] theorem testStation_liteNumber (h : StationId) : (testStation h c).ports.liteNumber = c.ports.liteNumber := by
  unfold testStation
  split
  · rfl
  · dsimp only
    split <;> simp
@[simp] theorem testStation_status (h : StationId) : (testStation h c).ports.status = c.ports.status := by
  unfold testStation
  split
  · rfl
  · dsimp only
    split <;> simp
@[simp] theorem testStation_response (h : StationId) : (testStation h c).ports.response = c.ports.response := by
  unfold testStation
  split
  · rfl
  · dsimp only
    split <;> simp
@[simp] theorem testStation_canceller (h : StationId) : (testStation h c).calls.canceller = c.calls.canceller := by
  unfold testStation
  split
  · rfl
  · dsimp only
    split <;> simp
@[simp] theorem testStation_uplinkGain (h : StationId) : (testStation h c).calls.uplinkGain = c.calls.uplinkGain := by
  unfold testStation
  split
  · rfl
  · dsimp only
    split <;> simp
@[simp] theorem testStation_uplinkLevel (h : StationId) : (testStation h c).calls.uplinkLevel = c.calls.uplinkLevel := by
  unfold testStation
  split
  · rfl
  · dsimp only
    split <;> simp
@[simp] theorem testStation_phoneUl (h : StationId) : (testStation h c).calls.phoneUl = c.calls.phoneUl := by
  unfold testStation
  split
  · rfl
  · dsimp only
    split <;> simp
@[simp] theorem testStation_patterns (h : StationId) : (testStation h c).queue.patterns = c.queue.patterns := by
  unfold testStation
  split
  · rfl
  · dsimp only
    split <;> simp
@[simp] theorem testStation_ignored (h : StationId) : (testStation h c).queue.ignored = c.queue.ignored := by
  unfold testStation
  split
  · rfl
  · dsimp only
    split <;> simp
@[simp] theorem testStation_channels (h : StationId) : (testStation h c).mix.channels = c.mix.channels := by
  unfold testStation
  split
  · rfl
  · dsimp only
    split <;> simp

@[simp] theorem settleEnding_dir : (settleEnding c).dir = c.dir := by
  simp [settleEnding]
@[simp] theorem settleEnding_builder : (settleEnding c).builder = c.builder := by
  simp [settleEnding]
@[simp] theorem settleEnding_table : (settleEnding c).table = c.table := by
  simp [settleEnding]
@[simp] theorem settleEnding_alloc : (settleEnding c).alloc = c.alloc := by
  simp [settleEnding]
@[simp] theorem settleEnding_part : (settleEnding c).ports.part = c.ports.part := by
  simp [settleEnding]
@[simp] theorem settleEnding_relay : (settleEnding c).ports.relay = c.ports.relay := by
  simp [settleEnding]
@[simp] theorem settleEnding_liteNumber : (settleEnding c).ports.liteNumber = c.ports.liteNumber := by
  simp [settleEnding]
@[simp] theorem settleEnding_status : (settleEnding c).ports.status = c.ports.status := by
  simp [settleEnding]
@[simp] theorem settleEnding_response : (settleEnding c).ports.response = c.ports.response := by
  simp [settleEnding]
@[simp] theorem settleEnding_canceller : (settleEnding c).calls.canceller = c.calls.canceller := by
  simp [settleEnding]
@[simp] theorem settleEnding_uplinkGain : (settleEnding c).calls.uplinkGain = c.calls.uplinkGain := by
  simp [settleEnding]
@[simp] theorem settleEnding_uplinkLevel : (settleEnding c).calls.uplinkLevel = c.calls.uplinkLevel := by
  simp [settleEnding]
@[simp] theorem settleEnding_phoneUl : (settleEnding c).calls.phoneUl = c.calls.phoneUl := by
  simp [settleEnding]
@[simp] theorem settleEnding_patterns : (settleEnding c).queue.patterns = c.queue.patterns := by
  simp [settleEnding]
@[simp] theorem settleEnding_ignored : (settleEnding c).queue.ignored = c.queue.ignored := by
  simp [settleEnding]
@[simp] theorem settleEnding_channels : (settleEnding c).mix.channels = c.mix.channels := by
  simp [settleEnding]

@[simp] theorem endEntry_dir (i : Fin 8) (r : EndReason) : (endEntry i r c).dir = c.dir := by
  unfold endEntry; split <;> simp
@[simp] theorem endEntry_builder (i : Fin 8) (r : EndReason) : (endEntry i r c).builder = c.builder := by
  unfold endEntry; split <;> simp
@[simp] theorem endEntry_table (i : Fin 8) (r : EndReason) : (endEntry i r c).table = c.table := by
  unfold endEntry; split <;> simp
@[simp] theorem endEntry_alloc (i : Fin 8) (r : EndReason) : (endEntry i r c).alloc = c.alloc := by
  unfold endEntry; split <;> simp
@[simp] theorem endEntry_part (i : Fin 8) (r : EndReason) : (endEntry i r c).ports.part = c.ports.part := by
  unfold endEntry; split <;> simp
@[simp] theorem endEntry_relay (i : Fin 8) (r : EndReason) : (endEntry i r c).ports.relay = c.ports.relay := by
  unfold endEntry; split <;> simp
@[simp] theorem endEntry_liteNumber (i : Fin 8) (r : EndReason) : (endEntry i r c).ports.liteNumber = c.ports.liteNumber := by
  unfold endEntry; split <;> simp
@[simp] theorem endEntry_status (i : Fin 8) (r : EndReason) : (endEntry i r c).ports.status = c.ports.status := by
  unfold endEntry; split <;> simp
@[simp] theorem endEntry_response (i : Fin 8) (r : EndReason) : (endEntry i r c).ports.response = c.ports.response := by
  unfold endEntry; split <;> simp
@[simp] theorem endEntry_canceller (i : Fin 8) (r : EndReason) : (endEntry i r c).calls.canceller = c.calls.canceller := by
  unfold endEntry; split <;> simp
@[simp] theorem endEntry_uplinkGain (i : Fin 8) (r : EndReason) : (endEntry i r c).calls.uplinkGain = c.calls.uplinkGain := by
  unfold endEntry; split <;> simp
@[simp] theorem endEntry_uplinkLevel (i : Fin 8) (r : EndReason) : (endEntry i r c).calls.uplinkLevel = c.calls.uplinkLevel := by
  unfold endEntry; split <;> simp
@[simp] theorem endEntry_phoneUl (i : Fin 8) (r : EndReason) : (endEntry i r c).calls.phoneUl = c.calls.phoneUl := by
  unfold endEntry; split <;> simp
@[simp] theorem endEntry_patterns (i : Fin 8) (r : EndReason) : (endEntry i r c).queue.patterns = c.queue.patterns := by
  unfold endEntry; split <;> simp
@[simp] theorem endEntry_ignored (i : Fin 8) (r : EndReason) : (endEntry i r c).queue.ignored = c.queue.ignored := by
  unfold endEntry; split <;> simp
@[simp] theorem endEntry_channels (i : Fin 8) (r : EndReason) : (endEntry i r c).mix.channels = c.mix.channels := by
  unfold endEntry; split <;> simp

@[simp] theorem queueEntry_dir (k : EntryKind) (pr : Nat) (t : ZoneSet) (ms : Nat) : ((queueEntry k pr t ms c).1).dir = c.dir := by
  unfold queueEntry; split <;> simp
@[simp] theorem queueEntry_builder (k : EntryKind) (pr : Nat) (t : ZoneSet) (ms : Nat) : ((queueEntry k pr t ms c).1).builder = c.builder := by
  unfold queueEntry; split <;> simp
@[simp] theorem queueEntry_table (k : EntryKind) (pr : Nat) (t : ZoneSet) (ms : Nat) : ((queueEntry k pr t ms c).1).table = c.table := by
  unfold queueEntry; split <;> simp
@[simp] theorem queueEntry_alloc (k : EntryKind) (pr : Nat) (t : ZoneSet) (ms : Nat) : ((queueEntry k pr t ms c).1).alloc = c.alloc := by
  unfold queueEntry; split <;> simp
@[simp] theorem queueEntry_part (k : EntryKind) (pr : Nat) (t : ZoneSet) (ms : Nat) : ((queueEntry k pr t ms c).1).ports.part = c.ports.part := by
  unfold queueEntry; split <;> simp
@[simp] theorem queueEntry_relay (k : EntryKind) (pr : Nat) (t : ZoneSet) (ms : Nat) : ((queueEntry k pr t ms c).1).ports.relay = c.ports.relay := by
  unfold queueEntry; split <;> simp
@[simp] theorem queueEntry_liteNumber (k : EntryKind) (pr : Nat) (t : ZoneSet) (ms : Nat) : ((queueEntry k pr t ms c).1).ports.liteNumber = c.ports.liteNumber := by
  unfold queueEntry; split <;> simp
@[simp] theorem queueEntry_status (k : EntryKind) (pr : Nat) (t : ZoneSet) (ms : Nat) : ((queueEntry k pr t ms c).1).ports.status = c.ports.status := by
  unfold queueEntry; split <;> simp
@[simp] theorem queueEntry_response (k : EntryKind) (pr : Nat) (t : ZoneSet) (ms : Nat) : ((queueEntry k pr t ms c).1).ports.response = c.ports.response := by
  unfold queueEntry; split <;> simp
@[simp] theorem queueEntry_canceller (k : EntryKind) (pr : Nat) (t : ZoneSet) (ms : Nat) : ((queueEntry k pr t ms c).1).calls.canceller = c.calls.canceller := by
  unfold queueEntry; split <;> simp
@[simp] theorem queueEntry_uplinkGain (k : EntryKind) (pr : Nat) (t : ZoneSet) (ms : Nat) : ((queueEntry k pr t ms c).1).calls.uplinkGain = c.calls.uplinkGain := by
  unfold queueEntry; split <;> simp
@[simp] theorem queueEntry_uplinkLevel (k : EntryKind) (pr : Nat) (t : ZoneSet) (ms : Nat) : ((queueEntry k pr t ms c).1).calls.uplinkLevel = c.calls.uplinkLevel := by
  unfold queueEntry; split <;> simp
@[simp] theorem queueEntry_phoneUl (k : EntryKind) (pr : Nat) (t : ZoneSet) (ms : Nat) : ((queueEntry k pr t ms c).1).calls.phoneUl = c.calls.phoneUl := by
  unfold queueEntry; split <;> simp
@[simp] theorem queueEntry_patterns (k : EntryKind) (pr : Nat) (t : ZoneSet) (ms : Nat) : ((queueEntry k pr t ms c).1).queue.patterns = c.queue.patterns := by
  unfold queueEntry; split <;> simp
@[simp] theorem queueEntry_ignored (k : EntryKind) (pr : Nat) (t : ZoneSet) (ms : Nat) : ((queueEntry k pr t ms c).1).queue.ignored = c.queue.ignored := by
  unfold queueEntry; split <;> simp
@[simp] theorem queueEntry_channels (k : EntryKind) (pr : Nat) (t : ZoneSet) (ms : Nat) : ((queueEntry k pr t ms c).1).mix.channels = c.mix.channels := by
  unfold queueEntry; split <;> simp

@[simp] theorem endUncarried_dir : (endUncarried c).dir = c.dir := by
  unfold endUncarried
  refine eachIdx_keeps (fun c : Cabin => c.dir) _ _ (fun i c => ?_) c
  split
  · rfl
  · split
    · split
      · rfl
      · exact endEntry_dir _ _ _
    · rfl
@[simp] theorem endUncarried_builder : (endUncarried c).builder = c.builder := by
  unfold endUncarried
  refine eachIdx_keeps (fun c : Cabin => c.builder) _ _ (fun i c => ?_) c
  split
  · rfl
  · split
    · split
      · rfl
      · exact endEntry_builder _ _ _
    · rfl
@[simp] theorem endUncarried_table : (endUncarried c).table = c.table := by
  unfold endUncarried
  refine eachIdx_keeps (fun c : Cabin => c.table) _ _ (fun i c => ?_) c
  split
  · rfl
  · split
    · split
      · rfl
      · exact endEntry_table _ _ _
    · rfl
@[simp] theorem endUncarried_alloc : (endUncarried c).alloc = c.alloc := by
  unfold endUncarried
  refine eachIdx_keeps (fun c : Cabin => c.alloc) _ _ (fun i c => ?_) c
  split
  · rfl
  · split
    · split
      · rfl
      · exact endEntry_alloc _ _ _
    · rfl
@[simp] theorem endUncarried_part : (endUncarried c).ports.part = c.ports.part := by
  unfold endUncarried
  refine eachIdx_keeps (fun c : Cabin => c.ports.part) _ _ (fun i c => ?_) c
  split
  · rfl
  · split
    · split
      · rfl
      · exact endEntry_part _ _ _
    · rfl
@[simp] theorem endUncarried_relay : (endUncarried c).ports.relay = c.ports.relay := by
  unfold endUncarried
  refine eachIdx_keeps (fun c : Cabin => c.ports.relay) _ _ (fun i c => ?_) c
  split
  · rfl
  · split
    · split
      · rfl
      · exact endEntry_relay _ _ _
    · rfl
@[simp] theorem endUncarried_liteNumber : (endUncarried c).ports.liteNumber = c.ports.liteNumber := by
  unfold endUncarried
  refine eachIdx_keeps (fun c : Cabin => c.ports.liteNumber) _ _ (fun i c => ?_) c
  split
  · rfl
  · split
    · split
      · rfl
      · exact endEntry_liteNumber _ _ _
    · rfl
@[simp] theorem endUncarried_status : (endUncarried c).ports.status = c.ports.status := by
  unfold endUncarried
  refine eachIdx_keeps (fun c : Cabin => c.ports.status) _ _ (fun i c => ?_) c
  split
  · rfl
  · split
    · split
      · rfl
      · exact endEntry_status _ _ _
    · rfl
@[simp] theorem endUncarried_response : (endUncarried c).ports.response = c.ports.response := by
  unfold endUncarried
  refine eachIdx_keeps (fun c : Cabin => c.ports.response) _ _ (fun i c => ?_) c
  split
  · rfl
  · split
    · split
      · rfl
      · exact endEntry_response _ _ _
    · rfl
@[simp] theorem endUncarried_canceller : (endUncarried c).calls.canceller = c.calls.canceller := by
  unfold endUncarried
  refine eachIdx_keeps (fun c : Cabin => c.calls.canceller) _ _ (fun i c => ?_) c
  split
  · rfl
  · split
    · split
      · rfl
      · exact endEntry_canceller _ _ _
    · rfl
@[simp] theorem endUncarried_uplinkGain : (endUncarried c).calls.uplinkGain = c.calls.uplinkGain := by
  unfold endUncarried
  refine eachIdx_keeps (fun c : Cabin => c.calls.uplinkGain) _ _ (fun i c => ?_) c
  split
  · rfl
  · split
    · split
      · rfl
      · exact endEntry_uplinkGain _ _ _
    · rfl
@[simp] theorem endUncarried_uplinkLevel : (endUncarried c).calls.uplinkLevel = c.calls.uplinkLevel := by
  unfold endUncarried
  refine eachIdx_keeps (fun c : Cabin => c.calls.uplinkLevel) _ _ (fun i c => ?_) c
  split
  · rfl
  · split
    · split
      · rfl
      · exact endEntry_uplinkLevel _ _ _
    · rfl
@[simp] theorem endUncarried_phoneUl : (endUncarried c).calls.phoneUl = c.calls.phoneUl := by
  unfold endUncarried
  refine eachIdx_keeps (fun c : Cabin => c.calls.phoneUl) _ _ (fun i c => ?_) c
  split
  · rfl
  · split
    · split
      · rfl
      · exact endEntry_phoneUl _ _ _
    · rfl
@[simp] theorem endUncarried_patterns : (endUncarried c).queue.patterns = c.queue.patterns := by
  unfold endUncarried
  refine eachIdx_keeps (fun c : Cabin => c.queue.patterns) _ _ (fun i c => ?_) c
  split
  · rfl
  · split
    · split
      · rfl
      · exact endEntry_patterns _ _ _
    · rfl
@[simp] theorem endUncarried_ignored : (endUncarried c).queue.ignored = c.queue.ignored := by
  unfold endUncarried
  refine eachIdx_keeps (fun c : Cabin => c.queue.ignored) _ _ (fun i c => ?_) c
  split
  · rfl
  · split
    · split
      · rfl
      · exact endEntry_ignored _ _ _
    · rfl
@[simp] theorem endUncarried_channels : (endUncarried c).mix.channels = c.mix.channels := by
  unfold endUncarried
  refine eachIdx_keeps (fun c : Cabin => c.mix.channels) _ _ (fun i c => ?_) c
  split
  · rfl
  · split
    · split
      · rfl
      · exact endEntry_channels _ _ _
    · rfl

@[simp] theorem endAndIgnore_dir (i : Fin 8) (r : EndReason) : (endAndIgnore i r c).dir = c.dir := by
  unfold endAndIgnore
  repeat' split
  all_goals simp
@[simp] theorem endAndIgnore_builder (i : Fin 8) (r : EndReason) : (endAndIgnore i r c).builder = c.builder := by
  unfold endAndIgnore
  repeat' split
  all_goals simp
@[simp] theorem endAndIgnore_table (i : Fin 8) (r : EndReason) : (endAndIgnore i r c).table = c.table := by
  unfold endAndIgnore
  repeat' split
  all_goals simp
@[simp] theorem endAndIgnore_alloc (i : Fin 8) (r : EndReason) : (endAndIgnore i r c).alloc = c.alloc := by
  unfold endAndIgnore
  repeat' split
  all_goals simp
@[simp] theorem endAndIgnore_part (i : Fin 8) (r : EndReason) : (endAndIgnore i r c).ports.part = c.ports.part := by
  unfold endAndIgnore
  repeat' split
  all_goals simp
@[simp] theorem endAndIgnore_relay (i : Fin 8) (r : EndReason) : (endAndIgnore i r c).ports.relay = c.ports.relay := by
  unfold endAndIgnore
  repeat' split
  all_goals simp
@[simp] theorem endAndIgnore_liteNumber (i : Fin 8) (r : EndReason) : (endAndIgnore i r c).ports.liteNumber = c.ports.liteNumber := by
  unfold endAndIgnore
  repeat' split
  all_goals simp
@[simp] theorem endAndIgnore_status (i : Fin 8) (r : EndReason) : (endAndIgnore i r c).ports.status = c.ports.status := by
  unfold endAndIgnore
  repeat' split
  all_goals simp
@[simp] theorem endAndIgnore_response (i : Fin 8) (r : EndReason) : (endAndIgnore i r c).ports.response = c.ports.response := by
  unfold endAndIgnore
  repeat' split
  all_goals simp
@[simp] theorem endAndIgnore_canceller (i : Fin 8) (r : EndReason) : (endAndIgnore i r c).calls.canceller = c.calls.canceller := by
  unfold endAndIgnore
  repeat' split
  all_goals simp
@[simp] theorem endAndIgnore_uplinkGain (i : Fin 8) (r : EndReason) : (endAndIgnore i r c).calls.uplinkGain = c.calls.uplinkGain := by
  unfold endAndIgnore
  repeat' split
  all_goals simp
@[simp] theorem endAndIgnore_uplinkLevel (i : Fin 8) (r : EndReason) : (endAndIgnore i r c).calls.uplinkLevel = c.calls.uplinkLevel := by
  unfold endAndIgnore
  repeat' split
  all_goals simp
@[simp] theorem endAndIgnore_phoneUl (i : Fin 8) (r : EndReason) : (endAndIgnore i r c).calls.phoneUl = c.calls.phoneUl := by
  unfold endAndIgnore
  repeat' split
  all_goals simp
@[simp] theorem endAndIgnore_patterns (i : Fin 8) (r : EndReason) : (endAndIgnore i r c).queue.patterns = c.queue.patterns := by
  unfold endAndIgnore
  repeat' split
  all_goals simp
@[simp] theorem endAndIgnore_channels (i : Fin 8) (r : EndReason) : (endAndIgnore i r c).mix.channels = c.mix.channels := by
  unfold endAndIgnore
  repeat' split
  all_goals simp

/-! ## The plan builder (03) -/

@[simp] theorem startBuild_ports : (startBuild c).ports = c.ports := by
  unfold startBuild
  repeat' split
  all_goals rfl
@[simp] theorem startBuild_dir : (startBuild c).dir = c.dir := by
  unfold startBuild
  repeat' split
  all_goals rfl
@[simp] theorem startBuild_mix : (startBuild c).mix = c.mix := by
  unfold startBuild
  repeat' split
  all_goals rfl
@[simp] theorem startBuild_table : (startBuild c).table = c.table := by
  unfold startBuild
  repeat' split
  all_goals rfl
@[simp] theorem startBuild_alloc : (startBuild c).alloc = c.alloc := by
  unfold startBuild
  repeat' split
  all_goals rfl
@[simp] theorem startBuild_queue : (startBuild c).queue = c.queue := by
  unfold startBuild
  repeat' split
  all_goals rfl
@[simp] theorem startBuild_calls : (startBuild c).calls = c.calls := by
  unfold startBuild
  repeat' split
  all_goals rfl
@[simp] theorem startBuild_hold : (startBuild c).builder.hold = c.builder.hold := by
  unfold startBuild
  repeat' split
  all_goals rfl

@[simp] theorem settleHold_dir : (settleHold c).dir = c.dir := by
  unfold settleHold; split <;> simp
@[simp] theorem settleHold_mix : (settleHold c).mix = c.mix := by
  unfold settleHold; split <;> simp
@[simp] theorem settleHold_table : (settleHold c).table = c.table := by
  unfold settleHold; split <;> simp
@[simp] theorem settleHold_alloc : (settleHold c).alloc = c.alloc := by
  unfold settleHold; split <;> simp
@[simp] theorem settleHold_queue : (settleHold c).queue = c.queue := by
  unfold settleHold; split <;> simp
@[simp] theorem settleHold_calls : (settleHold c).calls = c.calls := by
  unfold settleHold; split <;> simp
@[simp] theorem settleHold_part : (settleHold c).ports.part = c.ports.part := by
  unfold settleHold; split <;> simp
@[simp] theorem settleHold_relay : (settleHold c).ports.relay = c.ports.relay := by
  unfold settleHold; split <;> simp
@[simp] theorem settleHold_liteNumber : (settleHold c).ports.liteNumber = c.ports.liteNumber := by
  unfold settleHold; split <;> simp
@[simp] theorem settleHold_status : (settleHold c).ports.status = c.ports.status := by
  unfold settleHold; split <;> simp
@[simp] theorem settleHold_response : (settleHold c).ports.response = c.ports.response := by
  unfold settleHold; split <;> simp
@[simp] theorem settleHold_stale : (settleHold c).builder.stale = c.builder.stale := by
  unfold settleHold; split <;> simp
@[simp] theorem settleHold_position : (settleHold c).builder.position = c.builder.position := by
  unfold settleHold; split <;> simp
@[simp] theorem settleHold_job : (settleHold c).builder.job = c.builder.job := by
  unfold settleHold; split <;> simp

@[simp] theorem orphanRoute_ports (h : RouteId) : (orphanRoute h c).ports = c.ports := by
  rfl
@[simp] theorem orphanRoute_dir (h : RouteId) : (orphanRoute h c).dir = c.dir := by
  rfl
@[simp] theorem orphanRoute_table (h : RouteId) : (orphanRoute h c).table = c.table := by
  rfl
@[simp] theorem orphanRoute_alloc (h : RouteId) : (orphanRoute h c).alloc = c.alloc := by
  rfl
@[simp] theorem orphanRoute_queue (h : RouteId) : (orphanRoute h c).queue = c.queue := by
  rfl
@[simp] theorem orphanRoute_calls (h : RouteId) : (orphanRoute h c).calls = c.calls := by
  rfl
@[simp] theorem orphanRoute_stale (h : RouteId) : (orphanRoute h c).builder.stale = c.builder.stale := by
  rfl
@[simp] theorem orphanRoute_position (h : RouteId) : (orphanRoute h c).builder.position = c.builder.position := by
  rfl
@[simp] theorem orphanRoute_hold (h : RouteId) : (orphanRoute h c).builder.hold = c.builder.hold := by
  rfl
@[simp] theorem orphanRoute_channels (h : RouteId) : (orphanRoute h c).mix.channels = c.mix.channels := by
  rfl

/-! ## Route states (01 R7) -/

@[simp] theorem rederiveAt_mix (l : Fin 8) (k : Fin 6) : (rederiveAt l k c).mix = c.mix := by
  unfold rederiveAt
  repeat' split
  all_goals simp
@[simp] theorem rederiveAt_builder (l : Fin 8) (k : Fin 6) : (rederiveAt l k c).builder = c.builder := by
  unfold rederiveAt
  repeat' split
  all_goals simp
@[simp] theorem rederiveAt_table (l : Fin 8) (k : Fin 6) : (rederiveAt l k c).table = c.table := by
  unfold rederiveAt
  repeat' split
  all_goals simp
@[simp] theorem rederiveAt_alloc (l : Fin 8) (k : Fin 6) : (rederiveAt l k c).alloc = c.alloc := by
  unfold rederiveAt
  repeat' split
  all_goals simp
@[simp] theorem rederiveAt_queue (l : Fin 8) (k : Fin 6) : (rederiveAt l k c).queue = c.queue := by
  unfold rederiveAt
  repeat' split
  all_goals simp
@[simp] theorem rederiveAt_calls (l : Fin 8) (k : Fin 6) : (rederiveAt l k c).calls = c.calls := by
  unfold rederiveAt
  repeat' split
  all_goals simp
@[simp] theorem rederiveAt_part (l : Fin 8) (k : Fin 6) : (rederiveAt l k c).ports.part = c.ports.part := by
  unfold rederiveAt
  repeat' split
  all_goals simp
@[simp] theorem rederiveAt_relay (l : Fin 8) (k : Fin 6) : (rederiveAt l k c).ports.relay = c.ports.relay := by
  unfold rederiveAt
  repeat' split
  all_goals simp
@[simp] theorem rederiveAt_liteNumber (l : Fin 8) (k : Fin 6) : (rederiveAt l k c).ports.liteNumber = c.ports.liteNumber := by
  unfold rederiveAt
  repeat' split
  all_goals simp
@[simp] theorem rederiveAt_status (l : Fin 8) (k : Fin 6) : (rederiveAt l k c).ports.status = c.ports.status := by
  unfold rederiveAt
  repeat' split
  all_goals simp
@[simp] theorem rederiveAt_response (l : Fin 8) (k : Fin 6) : (rederiveAt l k c).ports.response = c.ports.response := by
  unfold rederiveAt
  repeat' split
  all_goals simp
@[simp] theorem rederiveAt_zones (l : Fin 8) (k : Fin 6) : (rederiveAt l k c).dir.zones = c.dir.zones := by
  unfold rederiveAt
  repeat' split
  all_goals simp
@[simp] theorem rederiveAt_rearControl (l : Fin 8) (k : Fin 6) : (rederiveAt l k c).dir.rearControl = c.dir.rearControl := by
  unfold rederiveAt
  repeat' split
  all_goals simp
@[simp] theorem rederiveAt_media (l : Fin 8) (k : Fin 6) : (rederiveAt l k c).dir.media = c.dir.media := by
  unfold rederiveAt
  repeat' split
  all_goals simp

@[simp] theorem breakIntervals_ports : (breakIntervals c).ports = c.ports := by
  rfl
@[simp] theorem breakIntervals_dir : (breakIntervals c).dir = c.dir := by
  rfl
@[simp] theorem breakIntervals_builder : (breakIntervals c).builder = c.builder := by
  rfl
@[simp] theorem breakIntervals_table : (breakIntervals c).table = c.table := by
  rfl
@[simp] theorem breakIntervals_alloc : (breakIntervals c).alloc = c.alloc := by
  rfl
@[simp] theorem breakIntervals_queue : (breakIntervals c).queue = c.queue := by
  rfl
@[simp] theorem breakIntervals_calls : (breakIntervals c).calls = c.calls := by
  rfl
@[simp] theorem breakIntervals_channels : (breakIntervals c).mix.channels = c.mix.channels := by
  rfl

@[simp] theorem rederiveRoutes_builder : (rederiveRoutes c).builder = c.builder := by
  refine Eq.trans (breakIntervals_builder _) ?_
  exact foldl_keeps (fun c : Cabin => c.builder) _ (fun c x => by simp) _ c
@[simp] theorem rederiveRoutes_table : (rederiveRoutes c).table = c.table := by
  refine Eq.trans (breakIntervals_table _) ?_
  exact foldl_keeps (fun c : Cabin => c.table) _ (fun c x => by simp) _ c
@[simp] theorem rederiveRoutes_alloc : (rederiveRoutes c).alloc = c.alloc := by
  refine Eq.trans (breakIntervals_alloc _) ?_
  exact foldl_keeps (fun c : Cabin => c.alloc) _ (fun c x => by simp) _ c
@[simp] theorem rederiveRoutes_queue : (rederiveRoutes c).queue = c.queue := by
  refine Eq.trans (breakIntervals_queue _) ?_
  exact foldl_keeps (fun c : Cabin => c.queue) _ (fun c x => by simp) _ c
@[simp] theorem rederiveRoutes_calls : (rederiveRoutes c).calls = c.calls := by
  refine Eq.trans (breakIntervals_calls _) ?_
  exact foldl_keeps (fun c : Cabin => c.calls) _ (fun c x => by simp) _ c
@[simp] theorem rederiveRoutes_part : (rederiveRoutes c).ports.part = c.ports.part := by
  refine Eq.trans (congrArg (fun b : Ports => b.part) (breakIntervals_ports _)) ?_
  exact foldl_keeps (fun c : Cabin => c.ports.part) _ (fun c x => by simp) _ c
@[simp] theorem rederiveRoutes_relay : (rederiveRoutes c).ports.relay = c.ports.relay := by
  refine Eq.trans (congrArg (fun b : Ports => b.relay) (breakIntervals_ports _)) ?_
  exact foldl_keeps (fun c : Cabin => c.ports.relay) _ (fun c x => by simp) _ c
@[simp] theorem rederiveRoutes_liteNumber : (rederiveRoutes c).ports.liteNumber = c.ports.liteNumber := by
  refine Eq.trans (congrArg (fun b : Ports => b.liteNumber) (breakIntervals_ports _)) ?_
  exact foldl_keeps (fun c : Cabin => c.ports.liteNumber) _ (fun c x => by simp) _ c
@[simp] theorem rederiveRoutes_status : (rederiveRoutes c).ports.status = c.ports.status := by
  refine Eq.trans (congrArg (fun b : Ports => b.status) (breakIntervals_ports _)) ?_
  exact foldl_keeps (fun c : Cabin => c.ports.status) _ (fun c x => by simp) _ c
@[simp] theorem rederiveRoutes_response : (rederiveRoutes c).ports.response = c.ports.response := by
  refine Eq.trans (congrArg (fun b : Ports => b.response) (breakIntervals_ports _)) ?_
  exact foldl_keeps (fun c : Cabin => c.ports.response) _ (fun c x => by simp) _ c
@[simp] theorem rederiveRoutes_zones : (rederiveRoutes c).dir.zones = c.dir.zones := by
  refine Eq.trans (congrArg (fun b => b.zones) (breakIntervals_dir _)) ?_
  exact foldl_keeps (fun c : Cabin => c.dir.zones) _ (fun c x => by simp) _ c
@[simp] theorem rederiveRoutes_rearControl : (rederiveRoutes c).dir.rearControl = c.dir.rearControl := by
  refine Eq.trans (congrArg (fun b => b.rearControl) (breakIntervals_dir _)) ?_
  exact foldl_keeps (fun c : Cabin => c.dir.rearControl) _ (fun c x => by simp) _ c
@[simp] theorem rederiveRoutes_media : (rederiveRoutes c).dir.media = c.dir.media := by
  refine Eq.trans (congrArg (fun b => b.media) (breakIntervals_dir _)) ?_
  exact foldl_keeps (fun c : Cabin => c.dir.media) _ (fun c x => by simp) _ c
@[simp] theorem rederiveRoutes_channels : (rederiveRoutes c).mix.channels = c.mix.channels := by
  refine Eq.trans (breakIntervals_channels _) ?_
  exact foldl_keeps (fun c : Cabin => c.mix.channels) _ (fun c x => by simp) _ c

@[simp] theorem settleRoutes_table : (settleRoutes c).table = c.table := by
  simp [settleRoutes]
@[simp] theorem settleRoutes_alloc : (settleRoutes c).alloc = c.alloc := by
  simp [settleRoutes]
@[simp] theorem settleRoutes_calls : (settleRoutes c).calls = c.calls := by
  simp [settleRoutes]
@[simp] theorem settleRoutes_part : (settleRoutes c).ports.part = c.ports.part := by
  simp [settleRoutes]
@[simp] theorem settleRoutes_relay : (settleRoutes c).ports.relay = c.ports.relay := by
  simp [settleRoutes]
@[simp] theorem settleRoutes_liteNumber : (settleRoutes c).ports.liteNumber = c.ports.liteNumber := by
  simp [settleRoutes]
@[simp] theorem settleRoutes_status : (settleRoutes c).ports.status = c.ports.status := by
  simp [settleRoutes]
@[simp] theorem settleRoutes_response : (settleRoutes c).ports.response = c.ports.response := by
  simp [settleRoutes]
@[simp] theorem settleRoutes_zones : (settleRoutes c).dir.zones = c.dir.zones := by
  simp [settleRoutes]
@[simp] theorem settleRoutes_rearControl : (settleRoutes c).dir.rearControl = c.dir.rearControl := by
  simp [settleRoutes]
@[simp] theorem settleRoutes_media : (settleRoutes c).dir.media = c.dir.media := by
  simp [settleRoutes]
@[simp] theorem settleRoutes_channels : (settleRoutes c).mix.channels = c.mix.channels := by
  simp [settleRoutes]
@[simp] theorem settleRoutes_patterns : (settleRoutes c).queue.patterns = c.queue.patterns := by
  simp [settleRoutes]
@[simp] theorem settleRoutes_ignored : (settleRoutes c).queue.ignored = c.queue.ignored := by
  simp [settleRoutes]
@[simp] theorem settleRoutes_slots : (settleRoutes c).queue.slots = c.queue.slots := by
  simp [settleRoutes]
@[simp] theorem settleRoutes_ends : (settleRoutes c).queue.ends = c.queue.ends := by
  simp [settleRoutes]
@[simp] theorem settleRoutes_endNumber : (settleRoutes c).queue.endNumber = c.queue.endNumber := by
  simp [settleRoutes]
@[simp] theorem settleRoutes_order : (settleRoutes c).queue.order = c.queue.order := by
  simp [settleRoutes]
@[simp] theorem settleRoutes_hold : (settleRoutes c).builder.hold = c.builder.hold := by
  simp [settleRoutes]

@[simp] theorem settleStates_table : (settleStates c).table = c.table := by
  simp [settleStates]
@[simp] theorem settleStates_alloc : (settleStates c).alloc = c.alloc := by
  simp [settleStates]
@[simp] theorem settleStates_queue : (settleStates c).queue = c.queue := by
  simp [settleStates]
@[simp] theorem settleStates_calls : (settleStates c).calls = c.calls := by
  simp [settleStates]
@[simp] theorem settleStates_part : (settleStates c).ports.part = c.ports.part := by
  simp [settleStates]
@[simp] theorem settleStates_relay : (settleStates c).ports.relay = c.ports.relay := by
  simp [settleStates]
@[simp] theorem settleStates_liteNumber : (settleStates c).ports.liteNumber = c.ports.liteNumber := by
  simp [settleStates]
@[simp] theorem settleStates_status : (settleStates c).ports.status = c.ports.status := by
  simp [settleStates]
@[simp] theorem settleStates_response : (settleStates c).ports.response = c.ports.response := by
  simp [settleStates]
@[simp] theorem settleStates_zones : (settleStates c).dir.zones = c.dir.zones := by
  simp [settleStates]
@[simp] theorem settleStates_rearControl : (settleStates c).dir.rearControl = c.dir.rearControl := by
  simp [settleStates]
@[simp] theorem settleStates_media : (settleStates c).dir.media = c.dir.media := by
  simp [settleStates]
@[simp] theorem settleStates_channels : (settleStates c).mix.channels = c.mix.channels := by
  simp [settleStates]
@[simp] theorem settleStates_hold : (settleStates c).builder.hold = c.builder.hold := by
  simp [settleStates]

/-! ## Tuners and programme channels (05) -/

@[simp] theorem endDiversity_ports (x : Chan) : (endDiversity x c).ports = c.ports := by
  rfl
@[simp] theorem endDiversity_dir (x : Chan) : (endDiversity x c).dir = c.dir := by
  rfl
@[simp] theorem endDiversity_mix (x : Chan) : (endDiversity x c).mix = c.mix := by
  rfl
@[simp] theorem endDiversity_builder (x : Chan) : (endDiversity x c).builder = c.builder := by
  rfl
@[simp] theorem endDiversity_table (x : Chan) : (endDiversity x c).table = c.table := by
  rfl
@[simp] theorem endDiversity_queue (x : Chan) : (endDiversity x c).queue = c.queue := by
  rfl
@[simp] theorem endDiversity_calls (x : Chan) : (endDiversity x c).calls = c.calls := by
  rfl
@[simp] theorem endDiversity_tuners (x : Chan) : (endDiversity x c).alloc.tuners = c.alloc.tuners := by
  rfl
@[simp] theorem endDiversity_stopped (x : Chan) : (endDiversity x c).alloc.stopped = c.alloc.stopped := by
  rfl

@[simp] theorem endExcursion_ports (x : Chan) : (endExcursion x c).ports = c.ports := by
  unfold endExcursion
  repeat' split
  all_goals simp
@[simp] theorem endExcursion_dir (x : Chan) : (endExcursion x c).dir = c.dir := by
  unfold endExcursion
  repeat' split
  all_goals simp
@[simp] theorem endExcursion_mix (x : Chan) : (endExcursion x c).mix = c.mix := by
  unfold endExcursion
  repeat' split
  all_goals simp
@[simp] theorem endExcursion_builder (x : Chan) : (endExcursion x c).builder = c.builder := by
  unfold endExcursion
  repeat' split
  all_goals simp
@[simp] theorem endExcursion_table (x : Chan) : (endExcursion x c).table = c.table := by
  unfold endExcursion
  repeat' split
  all_goals simp
@[simp] theorem endExcursion_queue (x : Chan) : (endExcursion x c).queue = c.queue := by
  unfold endExcursion
  repeat' split
  all_goals simp
@[simp] theorem endExcursion_calls (x : Chan) : (endExcursion x c).calls = c.calls := by
  unfold endExcursion
  repeat' split
  all_goals simp
@[simp] theorem endExcursion_chans (x : Chan) : (endExcursion x c).alloc.chans = c.alloc.chans := by
  unfold endExcursion
  repeat' split
  all_goals simp
@[simp] theorem endExcursion_stopped (x : Chan) : (endExcursion x c).alloc.stopped = c.alloc.stopped := by
  unfold endExcursion
  repeat' split
  all_goals simp

@[simp] theorem abandonFollow_ports (x : Chan) : (abandonFollow x c).ports = c.ports := by
  unfold abandonFollow
  repeat' split
  all_goals simp
@[simp] theorem abandonFollow_dir (x : Chan) : (abandonFollow x c).dir = c.dir := by
  unfold abandonFollow
  repeat' split
  all_goals simp
@[simp] theorem abandonFollow_mix (x : Chan) : (abandonFollow x c).mix = c.mix := by
  unfold abandonFollow
  repeat' split
  all_goals simp
@[simp] theorem abandonFollow_builder (x : Chan) : (abandonFollow x c).builder = c.builder := by
  unfold abandonFollow
  repeat' split
  all_goals simp
@[simp] theorem abandonFollow_table (x : Chan) : (abandonFollow x c).table = c.table := by
  unfold abandonFollow
  repeat' split
  all_goals simp
@[simp] theorem abandonFollow_queue (x : Chan) : (abandonFollow x c).queue = c.queue := by
  unfold abandonFollow
  repeat' split
  all_goals simp
@[simp] theorem abandonFollow_calls (x : Chan) : (abandonFollow x c).calls = c.calls := by
  unfold abandonFollow
  repeat' split
  all_goals simp
@[simp] theorem abandonFollow_stopped (x : Chan) : (abandonFollow x c).alloc.stopped = c.alloc.stopped := by
  unfold abandonFollow
  repeat' split
  all_goals simp

@[simp] theorem setRole_ports (t : TunerId) (r : Role) : (setRole t r c).ports = c.ports := by
  unfold setRole
  repeat' split
  all_goals simp
@[simp] theorem setRole_dir (t : TunerId) (r : Role) : (setRole t r c).dir = c.dir := by
  unfold setRole
  repeat' split
  all_goals simp
@[simp] theorem setRole_mix (t : TunerId) (r : Role) : (setRole t r c).mix = c.mix := by
  unfold setRole
  repeat' split
  all_goals simp
@[simp] theorem setRole_builder (t : TunerId) (r : Role) : (setRole t r c).builder = c.builder := by
  unfold setRole
  repeat' split
  all_goals simp
@[simp] theorem setRole_queue (t : TunerId) (r : Role) : (setRole t r c).queue = c.queue := by
  unfold setRole
  repeat' split
  all_goals simp
@[simp] theorem setRole_calls (t : TunerId) (r : Role) : (setRole t r c).calls = c.calls := by
  unfold setRole
  repeat' split
  all_goals simp
@[simp] theorem setRole_slots (t : TunerId) (r : Role) : (setRole t r c).table.slots = c.table.slots := by
  unfold setRole
  repeat' split
  all_goals simp
@[simp] theorem setRole_watch (t : TunerId) (r : Role) : (setRole t r c).table.watch = c.table.watch := by
  unfold setRole
  repeat' split
  all_goals simp
@[simp] theorem setRole_scanPosition (t : TunerId) (r : Role) : (setRole t r c).table.position = c.table.position := by
  unfold setRole
  repeat' split
  all_goals simp
@[simp] theorem setRole_tableFull (t : TunerId) (r : Role) : (setRole t r c).table.tableFull = c.table.tableFull := by
  unfold setRole
  repeat' split
  all_goals simp
@[simp] theorem setRole_cursor (t : TunerId) (r : Role) : (setRole t r c).table.cursor = c.table.cursor := by
  unfold setRole
  repeat' split
  all_goals simp
@[simp] theorem setRole_chans (t : TunerId) (r : Role) : (setRole t r c).alloc.chans = c.alloc.chans := by
  unfold setRole
  repeat' split
  all_goals simp
@[simp] theorem setRole_stopped (t : TunerId) (r : Role) : (setRole t r c).alloc.stopped = c.alloc.stopped := by
  unfold setRole
  repeat' split
  all_goals simp

@[simp] theorem settleRoles_ports : (settleRoles c).ports = c.ports := by
  simp [settleRoles]
@[simp] theorem settleRoles_dir : (settleRoles c).dir = c.dir := by
  simp [settleRoles]
@[simp] theorem settleRoles_mix : (settleRoles c).mix = c.mix := by
  simp [settleRoles]
@[simp] theorem settleRoles_builder : (settleRoles c).builder = c.builder := by
  simp [settleRoles]
@[simp] theorem settleRoles_queue : (settleRoles c).queue = c.queue := by
  simp [settleRoles]
@[simp] theorem settleRoles_calls : (settleRoles c).calls = c.calls := by
  simp [settleRoles]
@[simp] theorem settleRoles_slots : (settleRoles c).table.slots = c.table.slots := by
  simp [settleRoles]
@[simp] theorem settleRoles_watch : (settleRoles c).table.watch = c.table.watch := by
  simp [settleRoles]
@[simp] theorem settleRoles_scanPosition : (settleRoles c).table.position = c.table.position := by
  simp [settleRoles]
@[simp] theorem settleRoles_tableFull : (settleRoles c).table.tableFull = c.table.tableFull := by
  simp [settleRoles]
@[simp] theorem settleRoles_cursor : (settleRoles c).table.cursor = c.table.cursor := by
  simp [settleRoles]
@[simp] theorem settleRoles_chans : (settleRoles c).alloc.chans = c.alloc.chans := by
  simp [settleRoles]
@[simp] theorem settleRoles_stopped : (settleRoles c).alloc.stopped = c.alloc.stopped := by
  simp [settleRoles]

@[simp] theorem beginRetune_ports (x : Chan) : (beginRetune x c).ports = c.ports := by
  unfold beginRetune
  repeat' split
  all_goals simp
@[simp] theorem beginRetune_dir (x : Chan) : (beginRetune x c).dir = c.dir := by
  unfold beginRetune
  repeat' split
  all_goals simp
@[simp] theorem beginRetune_mix (x : Chan) : (beginRetune x c).mix = c.mix := by
  unfold beginRetune
  repeat' split
  all_goals simp
@[simp] theorem beginRetune_builder (x : Chan) : (beginRetune x c).builder = c.builder := by
  unfold beginRetune
  repeat' split
  all_goals simp
@[simp] theorem beginRetune_table (x : Chan) : (beginRetune x c).table = c.table := by
  unfold beginRetune
  repeat' split
  all_goals simp
@[simp] theorem beginRetune_queue (x : Chan) : (beginRetune x c).queue = c.queue := by
  unfold beginRetune
  repeat' split
  all_goals simp
@[simp] theorem beginRetune_calls (x : Chan) : (beginRetune x c).calls = c.calls := by
  unfold beginRetune
  repeat' split
  all_goals simp
@[simp] theorem beginRetune_stopped (x : Chan) : (beginRetune x c).alloc.stopped = c.alloc.stopped := by
  unfold beginRetune
  repeat' split
  all_goals simp

@[simp] theorem assignChan_ports (x : Chan) (n : Option StationId) (t : Option TunerId) : (assignChan x n t c).ports = c.ports := by
  unfold assignChan; split <;> simp
@[simp] theorem assignChan_dir (x : Chan) (n : Option StationId) (t : Option TunerId) : (assignChan x n t c).dir = c.dir := by
  unfold assignChan; split <;> simp
@[simp] theorem assignChan_mix (x : Chan) (n : Option StationId) (t : Option TunerId) : (assignChan x n t c).mix = c.mix := by
  unfold assignChan; split <;> simp
@[simp] theorem assignChan_builder (x : Chan) (n : Option StationId) (t : Option TunerId) : (assignChan x n t c).builder = c.builder := by
  unfold assignChan; split <;> simp
@[simp] theorem assignChan_table (x : Chan) (n : Option StationId) (t : Option TunerId) : (assignChan x n t c).table = c.table := by
  unfold assignChan; split <;> simp
@[simp] theorem assignChan_queue (x : Chan) (n : Option StationId) (t : Option TunerId) : (assignChan x n t c).queue = c.queue := by
  unfold assignChan; split <;> simp
@[simp] theorem assignChan_calls (x : Chan) (n : Option StationId) (t : Option TunerId) : (assignChan x n t c).calls = c.calls := by
  unfold assignChan; split <;> simp
@[simp] theorem assignChan_tuners (x : Chan) (n : Option StationId) (t : Option TunerId) : (assignChan x n t c).alloc.tuners = c.alloc.tuners := by
  unfold assignChan; split <;> simp
@[simp] theorem assignChan_stopped (x : Chan) (n : Option StationId) (t : Option TunerId) : (assignChan x n t c).alloc.stopped = c.alloc.stopped := by
  unfold assignChan; split <;> simp

@[simp] theorem loseSupport_ports (x : Chan) : (loseSupport x c).ports = c.ports := by
  unfold loseSupport
  split
  · dsimp only
    split <;> simp
  · rfl
@[simp] theorem loseSupport_dir (x : Chan) : (loseSupport x c).dir = c.dir := by
  unfold loseSupport
  split
  · dsimp only
    split <;> simp
  · rfl
@[simp] theorem loseSupport_mix (x : Chan) : (loseSupport x c).mix = c.mix := by
  unfold loseSupport
  split
  · dsimp only
    split <;> simp
  · rfl
@[simp] theorem loseSupport_builder (x : Chan) : (loseSupport x c).builder = c.builder := by
  unfold loseSupport
  split
  · dsimp only
    split <;> simp
  · rfl
@[simp] theorem loseSupport_table (x : Chan) : (loseSupport x c).table = c.table := by
  unfold loseSupport
  split
  · dsimp only
    split <;> simp
  · rfl
@[simp] theorem loseSupport_queue (x : Chan) : (loseSupport x c).queue = c.queue := by
  unfold loseSupport
  split
  · dsimp only
    split <;> simp
  · rfl
@[simp] theorem loseSupport_calls (x : Chan) : (loseSupport x c).calls = c.calls := by
  unfold loseSupport
  split
  · dsimp only
    split <;> simp
  · rfl
@[simp] theorem loseSupport_stopped (x : Chan) : (loseSupport x c).alloc.stopped = c.alloc.stopped := by
  unfold loseSupport
  split
  · dsimp only
    split <;> simp
  · rfl

@[simp] theorem retuneIfGained_ports (old : Cabin) (x : Chan) : (retuneIfGained old x c).ports = c.ports := by
  unfold retuneIfGained; split <;> simp
@[simp] theorem retuneIfGained_dir (old : Cabin) (x : Chan) : (retuneIfGained old x c).dir = c.dir := by
  unfold retuneIfGained; split <;> simp
@[simp] theorem retuneIfGained_mix (old : Cabin) (x : Chan) : (retuneIfGained old x c).mix = c.mix := by
  unfold retuneIfGained; split <;> simp
@[simp] theorem retuneIfGained_builder (old : Cabin) (x : Chan) : (retuneIfGained old x c).builder = c.builder := by
  unfold retuneIfGained; split <;> simp
@[simp] theorem retuneIfGained_table (old : Cabin) (x : Chan) : (retuneIfGained old x c).table = c.table := by
  unfold retuneIfGained; split <;> simp
@[simp] theorem retuneIfGained_queue (old : Cabin) (x : Chan) : (retuneIfGained old x c).queue = c.queue := by
  unfold retuneIfGained; split <;> simp
@[simp] theorem retuneIfGained_calls (old : Cabin) (x : Chan) : (retuneIfGained old x c).calls = c.calls := by
  unfold retuneIfGained; split <;> simp
@[simp] theorem retuneIfGained_stopped (old : Cabin) (x : Chan) : (retuneIfGained old x c).alloc.stopped = c.alloc.stopped := by
  unfold retuneIfGained; split <;> simp

@[simp] theorem staleIfMoved_ports (old : Cabin) (h : Option StationId) : (staleIfMoved old h c).ports = c.ports := by
  unfold staleIfMoved
  repeat' split
  all_goals simp
@[simp] theorem staleIfMoved_dir (old : Cabin) (h : Option StationId) : (staleIfMoved old h c).dir = c.dir := by
  unfold staleIfMoved
  repeat' split
  all_goals simp
@[simp] theorem staleIfMoved_mix (old : Cabin) (h : Option StationId) : (staleIfMoved old h c).mix = c.mix := by
  unfold staleIfMoved
  repeat' split
  all_goals simp
@[simp] theorem staleIfMoved_table (old : Cabin) (h : Option StationId) : (staleIfMoved old h c).table = c.table := by
  unfold staleIfMoved
  repeat' split
  all_goals simp
@[simp] theorem staleIfMoved_alloc (old : Cabin) (h : Option StationId) : (staleIfMoved old h c).alloc = c.alloc := by
  unfold staleIfMoved
  repeat' split
  all_goals simp
@[simp] theorem staleIfMoved_queue (old : Cabin) (h : Option StationId) : (staleIfMoved old h c).queue = c.queue := by
  unfold staleIfMoved
  repeat' split
  all_goals simp
@[simp] theorem staleIfMoved_calls (old : Cabin) (h : Option StationId) : (staleIfMoved old h c).calls = c.calls := by
  unfold staleIfMoved
  repeat' split
  all_goals simp
@[simp] theorem staleIfMoved_hold (old : Cabin) (h : Option StationId) : (staleIfMoved old h c).builder.hold = c.builder.hold := by
  unfold staleIfMoved
  repeat' split
  all_goals simp
@[simp] theorem staleIfMoved_position (old : Cabin) (h : Option StationId) : (staleIfMoved old h c).builder.position = c.builder.position := by
  unfold staleIfMoved
  repeat' split
  all_goals simp
@[simp] theorem staleIfMoved_job (old : Cabin) (h : Option StationId) : (staleIfMoved old h c).builder.job = c.builder.job := by
  unfold staleIfMoved
  repeat' split
  all_goals simp

@[simp] theorem applyAssignment_dir (n : Option StationId × Option StationId) : (applyAssignment n c).dir = c.dir := by
  simp [applyAssignment]
@[simp] theorem applyAssignment_part (n : Option StationId × Option StationId) : (applyAssignment n c).ports.part = c.ports.part := by
  simp [applyAssignment]
@[simp] theorem applyAssignment_relay (n : Option StationId × Option StationId) : (applyAssignment n c).ports.relay = c.ports.relay := by
  simp [applyAssignment]
@[simp] theorem applyAssignment_liteNumber (n : Option StationId × Option StationId) : (applyAssignment n c).ports.liteNumber = c.ports.liteNumber := by
  simp [applyAssignment]
@[simp] theorem applyAssignment_status (n : Option StationId × Option StationId) : (applyAssignment n c).ports.status = c.ports.status := by
  simp [applyAssignment]
@[simp] theorem applyAssignment_response (n : Option StationId × Option StationId) : (applyAssignment n c).ports.response = c.ports.response := by
  simp [applyAssignment]
@[simp] theorem applyAssignment_slots (n : Option StationId × Option StationId) : (applyAssignment n c).table.slots = c.table.slots := by
  simp [applyAssignment]
@[simp] theorem applyAssignment_watch (n : Option StationId × Option StationId) : (applyAssignment n c).table.watch = c.table.watch := by
  simp [applyAssignment]
@[simp] theorem applyAssignment_scanPosition (n : Option StationId × Option StationId) : (applyAssignment n c).table.position = c.table.position := by
  simp [applyAssignment]
@[simp] theorem applyAssignment_tableFull (n : Option StationId × Option StationId) : (applyAssignment n c).table.tableFull = c.table.tableFull := by
  simp [applyAssignment]
@[simp] theorem applyAssignment_cursor (n : Option StationId × Option StationId) : (applyAssignment n c).table.cursor = c.table.cursor := by
  simp [applyAssignment]
@[simp] theorem applyAssignment_stopped (n : Option StationId × Option StationId) : (applyAssignment n c).alloc.stopped = c.alloc.stopped := by
  simp [applyAssignment]
@[simp] theorem applyAssignment_canceller (n : Option StationId × Option StationId) : (applyAssignment n c).calls.canceller = c.calls.canceller := by
  simp [applyAssignment]
@[simp] theorem applyAssignment_uplinkGain (n : Option StationId × Option StationId) : (applyAssignment n c).calls.uplinkGain = c.calls.uplinkGain := by
  simp [applyAssignment]
@[simp] theorem applyAssignment_uplinkLevel (n : Option StationId × Option StationId) : (applyAssignment n c).calls.uplinkLevel = c.calls.uplinkLevel := by
  simp [applyAssignment]
@[simp] theorem applyAssignment_phoneUl (n : Option StationId × Option StationId) : (applyAssignment n c).calls.phoneUl = c.calls.phoneUl := by
  simp [applyAssignment]
@[simp] theorem applyAssignment_patterns (n : Option StationId × Option StationId) : (applyAssignment n c).queue.patterns = c.queue.patterns := by
  simp [applyAssignment]
@[simp] theorem applyAssignment_ignored (n : Option StationId × Option StationId) : (applyAssignment n c).queue.ignored = c.queue.ignored := by
  simp [applyAssignment]
@[simp] theorem applyAssignment_hold (n : Option StationId × Option StationId) : (applyAssignment n c).builder.hold = c.builder.hold := by
  simp [applyAssignment]
@[simp] theorem applyAssignment_buildPosition (n : Option StationId × Option StationId) : (applyAssignment n c).builder.position = c.builder.position := by
  simp [applyAssignment]
@[simp] theorem applyAssignment_job (n : Option StationId × Option StationId) : (applyAssignment n c).builder.job = c.builder.job := by
  simp [applyAssignment]
@[simp] theorem applyAssignment_channels (n : Option StationId × Option StationId) : (applyAssignment n c).mix.channels = c.mix.channels := by
  simp [applyAssignment]

@[simp] theorem arbitrate_dir : (arbitrate c).dir = c.dir := by
  unfold arbitrate
  repeat' split
  all_goals simp
@[simp] theorem arbitrate_part : (arbitrate c).ports.part = c.ports.part := by
  unfold arbitrate
  repeat' split
  all_goals simp
@[simp] theorem arbitrate_relay : (arbitrate c).ports.relay = c.ports.relay := by
  unfold arbitrate
  repeat' split
  all_goals simp
@[simp] theorem arbitrate_liteNumber : (arbitrate c).ports.liteNumber = c.ports.liteNumber := by
  unfold arbitrate
  repeat' split
  all_goals simp
@[simp] theorem arbitrate_status : (arbitrate c).ports.status = c.ports.status := by
  unfold arbitrate
  repeat' split
  all_goals simp
@[simp] theorem arbitrate_response : (arbitrate c).ports.response = c.ports.response := by
  unfold arbitrate
  repeat' split
  all_goals simp
@[simp] theorem arbitrate_slots : (arbitrate c).table.slots = c.table.slots := by
  unfold arbitrate
  repeat' split
  all_goals simp
@[simp] theorem arbitrate_watch : (arbitrate c).table.watch = c.table.watch := by
  unfold arbitrate
  repeat' split
  all_goals simp
@[simp] theorem arbitrate_scanPosition : (arbitrate c).table.position = c.table.position := by
  unfold arbitrate
  repeat' split
  all_goals simp
@[simp] theorem arbitrate_tableFull : (arbitrate c).table.tableFull = c.table.tableFull := by
  unfold arbitrate
  repeat' split
  all_goals simp
@[simp] theorem arbitrate_cursor : (arbitrate c).table.cursor = c.table.cursor := by
  unfold arbitrate
  repeat' split
  all_goals simp
@[simp] theorem arbitrate_stopped : (arbitrate c).alloc.stopped = c.alloc.stopped := by
  unfold arbitrate
  repeat' split
  all_goals simp
@[simp] theorem arbitrate_canceller : (arbitrate c).calls.canceller = c.calls.canceller := by
  unfold arbitrate
  repeat' split
  all_goals simp
@[simp] theorem arbitrate_uplinkGain : (arbitrate c).calls.uplinkGain = c.calls.uplinkGain := by
  unfold arbitrate
  repeat' split
  all_goals simp
@[simp] theorem arbitrate_uplinkLevel : (arbitrate c).calls.uplinkLevel = c.calls.uplinkLevel := by
  unfold arbitrate
  repeat' split
  all_goals simp
@[simp] theorem arbitrate_phoneUl : (arbitrate c).calls.phoneUl = c.calls.phoneUl := by
  unfold arbitrate
  repeat' split
  all_goals simp
@[simp] theorem arbitrate_patterns : (arbitrate c).queue.patterns = c.queue.patterns := by
  unfold arbitrate
  repeat' split
  all_goals simp
@[simp] theorem arbitrate_ignored : (arbitrate c).queue.ignored = c.queue.ignored := by
  unfold arbitrate
  repeat' split
  all_goals simp
@[simp] theorem arbitrate_hold : (arbitrate c).builder.hold = c.builder.hold := by
  unfold arbitrate
  repeat' split
  all_goals simp
@[simp] theorem arbitrate_buildPosition : (arbitrate c).builder.position = c.builder.position := by
  unfold arbitrate
  repeat' split
  all_goals simp
@[simp] theorem arbitrate_job : (arbitrate c).builder.job = c.builder.job := by
  unfold arbitrate
  repeat' split
  all_goals simp
@[simp] theorem arbitrate_channels : (arbitrate c).mix.channels = c.mix.channels := by
  unfold arbitrate
  repeat' split
  all_goals simp

end Sys2Proof.Machine
end

