-- ==== Sys2Proof/WellFormed.lean ====
section
/-! DEFINITION. The commands that the part can meet: operands fit the words of a request body, a bad
request is really bad, and the figures of an event lie in the ranges the spec gives them. -/

namespace Sys2Proof

/-! ## Requests: every field fits its word (10 R167) -/

def fitsWord (n : Nat) : Bool := decide (n < 65536)

/-- A signed field fits its word. -/
def fitsSigned (v : Int) : Bool := decide (-32768 ≤ v) && decide (v ≤ 32767)

/-- An unsigned number fits its word. -/
def fitsCount (v : Int) : Bool := decide (0 ≤ v) && decide (v ≤ 65535)

/-- A number beside a named alternative is not the alternative's word. -/
def fitsOpt : Option Nat → Bool
  | none => true
  | some n => decide (n < 65535)

def optAll {α : Type} (f : α → Bool) : Option α → Bool
  | none => true
  | some v => f v

/-- A handle's fields fit: slot 8 bits, generation 4 bits, list 4 bits in a route handle and 0 otherwise. -/
def Handle.wf (route : Bool) (h : Handle) : Bool :=
  decide (h.slot < 256) && decide (h.gen < 16) && (if route then decide (h.list < 16) else decide (h.list = 0))

def RawSource.wf (r : RawSource) : Bool :=
  decide (r.kind < 256) && decide (r.medium < 256) && r.station.wf false

def PlaceArgs.wf (a : PlaceArgs) : Bool :=
  fitsWord a.list && fitsOpt a.slot && a.source.wf && fitsSigned a.gain && fitsCount a.priority &&
  fitsWord a.duck && fitsWord a.shared && fitsWord a.pinned && fitsWord a.present

def AlterArgs.wf (a : AlterArgs) : Bool :=
  optAll RawSource.wf a.source && optAll fitsSigned a.gain && optAll fitsCount a.priority &&
  optAll fitsWord a.duck && optAll fitsWord a.shared && optAll fitsWord a.pinned

/-- The four announcement levels are one field: named together or not at all (10 R167; log 12). -/
def ZoneArgs.levelsTogether (a : ZoneArgs) : Bool :=
  [a.nav, a.chime, a.ring].all fun v => decide (v.isSome = a.traffic.isSome)

def ZoneArgs.wf (a : ZoneArgs) : Bool :=
  a.levelsTogether &&
  optAll fitsWord a.present && optAll fitsSigned a.volume && optAll fitsSigned a.ceiling &&
  optAll fitsSigned a.duckDepth && optAll fitsSigned a.callDuckDepth && optAll fitsSigned a.traffic &&
  optAll fitsSigned a.nav && optAll fitsSigned a.chime && optAll fitsSigned a.ring &&
  optAll fitsWord a.accept && optAll fitsWord a.userMute

def PatternArgs.wf (a : PatternArgs) : Bool :=
  optAll fitsCount a.tone && optAll fitsCount a.on && optAll fitsCount a.off && optAll fitsCount a.repeats &&
  optAll fitsCount a.priority && optAll fitsWord a.targets

def OpenArgs.wf (a : OpenArgs) : Bool :=
  fitsOpt a.listeners && optAll fitsSigned a.level && fitsOpt a.talker && fitsOpt a.joinable

def CallArgs.wf (a : CallArgs) : Bool :=
  optAll fitsSigned a.level && optAll fitsWord a.talker && optAll fitsWord a.uplinkMute &&
  optAll fitsWord a.privacy && optAll fitsWord a.joinable

/-! ## Bad requests (10 R160, R167) -/

/-- The body lengths that the fields of a request allow; none where the number is 0 or above 51. -/
def allowedLengths (number : Nat) : Option (List Nat) :=
  if number = 0 then none
  else if number = 1 then some [10]
  else if number = 2 then some [2, 3, 4, 5, 6, 7, 8, 9]
  else if number = 8 then some [2, 3, 4, 5, 6, 7, 8, 9, 10, 11, 12, 13]
  else if number = 13 then some [1, 2, 3, 4, 5]
  else if number = 29 then some [2, 3, 4, 5, 6, 7, 8]
  else if number = 32 then some [0, 1, 2, 3, 4]
  else if number = 38 then some [2, 3, 4, 5, 6, 7]
  else if [14, 15, 23, 27, 28, 31, 43, 47, 48, 50, 51].contains number then some [0]
  else if [10, 17, 18, 22, 24, 37, 40, 41].contains number then some [2]
  else if number ≤ 51 then some [1]
  else none

/-- The requests whose body begins with a selection word: such a body may also be bad for its selection (10 R167). -/
def selects (number : Nat) : Bool := [2, 8, 13, 29, 38].contains number

/-- The header names no request, a length no body of it has, or a body that a selection can spoil. -/
def badRequest (number length : Nat) : Bool :=
  match allowedLengths number with
  | none => true
  | some ls => !ls.contains length || selects number

/-! ## Figures of events -/

/-- Field strength 0 to 90, multipath and adjacent 0 to 100 (05 R86). -/
def Figures.wf (f : Figures) : Bool :=
  decide (f.fs ≤ 90) && decide (f.multipath ≤ 100) && decide (f.adjacent ≤ 100)

/-- An identity code is one word (04 R58). -/
def DataGroup.wf (g : DataGroup) : Bool := fitsWord g.code

/-- A node channel that a page describes, and a channel count, are single octets (08 R141; log 25). -/
def AbilityPage.wf (p : AbilityPage) : Bool :=
  match p.kind with
  | .base _ channels _ => decide (channels < 256)
  | .channel n => decide (n < 256)

/-- The words of an image that was read: the length and at least one more (09 R155). -/
def EepromRead.wf : EepromRead → Bool
  | .noAnswer => true
  | .failed => true
  | .read _ others _ _ => decide (others ≠ [])

/-! ## Commands -/

/-- A command is well formed. -/
def Instr.wf : Instr → Bool
  | .portSelect _ => true
  | .transactionAbandoned _ => true
  | .unknownRequest _ number length => decide (number < 256) && decide (length < 256) && badRequest number length
  | .placeRoute _ a => a.wf
  | .alterRoute _ h a => h.wf true && a.wf
  | .park _ h => h.wf true
  | .unpark _ h => h.wf true
  | .retireRoute _ h => h.wf true
  | .readRoute _ h => h.wf true
  | .clearMarks _ h => h.wf true
  | .setZone _ zone a => fitsWord zone && a.wf
  | .readZone _ zone => fitsWord zone
  | .linkList _ zone list => fitsWord zone && fitsOpt list
  | .grantRearControl _ value => fitsWord value
  | .clearZoneRoutes _ zones => fitsWord zones
  | .mediaState _ m0 m1 m2 m3 => optAll fitsWord m0 && optAll fitsWord m1 && optAll fitsWord m2 && optAll fitsWord m3
  | .enterHold _ => true
  | .releaseHold _ => true
  | .readStation _ h => h.wf false
  | .walkStations _ count mode => fitsCount count && fitsWord mode
  | .addStation _ band channel => fitsWord band && fitsCount channel
  | .keep _ h => h.wf false
  | .unkeep _ h => h.wf false
  | .retireStation _ h => h.wf false
  | .setTrafficWatch _ h priority => optAll (Handle.wf false) h && fitsCount priority
  | .readReception _ => true
  | .startChime _ pattern targets => fitsWord pattern && fitsOpt targets
  | .cancelAnnouncement _ h => h.wf false
  | .startNav _ targets => fitsWord targets
  | .keepNav _ => true
  | .endNav _ => true
  | .setPattern _ pattern a => fitsWord pattern && a.wf
  | .readPattern _ pattern => fitsWord pattern
  | .readAnnouncements _ => true
  | .openCall _ a => a.wf
  | .answer _ h => h.wf false
  | .holdCall _ h => h.wf false
  | .resume _ h => h.wf false
  | .endCall _ h => h.wf false
  | .setListeners _ h zones => h.wf false && fitsWord zones
  | .setCall _ h a => h.wf false && a.wf
  | .setUplinkGain _ gain => fitsSigned gain
  | .joinCall _ h zone => h.wf false && fitsWord zone
  | .leaveCall _ h zone => h.wf false && fitsWord zone
  | .readCall _ h => h.wf false
  | .readRing _ => true
  | .readNode _ position => fitsWord position
  | .restartNode _ position => fitsWord position
  | .systemMute _ value => fitsWord value
  | .expectDip _ => true
  | .readEvents _ => true
  | .relaySend _ _ => true
  | .relayTake _ => true
  | .liteReset _ => true
  | .liteResetEnd => true
  | .powerOnReset => true
  | .imageLoadEnd e => e.wf
  | .supplySample _ => true
  | .settleTimerExpiry => true
  | .recoverStep => true
  | .expectWindowExpiry => true
  | .rampTick => true
  | .mixSample _ => true
  | .planBuildComplete => true
  | .measurement _ f => f.wf
  | .diversityOff _ => true
  | .diversityTuneComplete => true
  | .retuneComplete _ => true
  | .followStart _ => true
  | .followProbeComplete f => f.wf
  | .followWinnerTuned => true
  | .excursionStart _ => true
  | .excursionEnd _ f => f.wf
  | .scanMeasurement f => f.wf
  | .dwellTimeout => true
  | .dataGroup _ g => g.wf
  | .cadenceTick => true
  | .chimeCompleted _ => true
  | .navTimeout => true
  | .trafficTimeout _ => true
  | .echoBlockEnd => true
  | .doubleTalkTimeout => true
  | .returnFrame _ => true
  | .ringUp => true
  | .ringDown => true
  | .nodeLost _ => true
  | .discoveryPoll => true
  | .pollAnswer _ => true
  | .abilityPage _ p => p.wf
  | .pageTimerExpiry _ => true
  | .configPageAnswer _ _ => true
  | .configTimeout _ => true
  | .statusReport _ _ => true
  | .muteLineChange _ => true
  | .startUp mv _ => decide (5000 ≤ mv)

end Sys2Proof
end

