-- ==== Sys2Proof/Tests/Slice0.lean ====
section
/-! SUPPORT. The model's own tests: ill-formed commands that WellFormed refuses, words of the spec's layouts,
worked figures of the spec run one step at a time, and for every statement of Certificates/Slice0 that has
hypotheses a state that meets them. -/

namespace Sys2Proof.Tests

open Sys2Proof.Machine

/-! One theorem at a time: the kernel's evaluations below otherwise wait on each other in many threads. -/
set_option Elab.async false

/-! ## Small states -/

/-- What a command leaves. -/
def after (i : Instr) (s : State) : State :=
  match exec i s with
  | .next t => t
  | _ => s

/-- Power-on reset with the part in another part state. -/
def inPart (p : PartState) : State := State.reset.onCab fun c => { c with ports := { c.ports with part := p } }

/-- The part in RUNNING, all else as power-on reset leaves it. -/
def up : State := inPart .running

/-- A LISTED record of an FM channel, of quality 40. -/
def fmStation (ch : Nat) : Station := newStation ⟨.fm, ch⟩ 40 .listed .scan none

def putStation (i : Fin 40) (r : Station) (s : State) : State := s.onCab (setStationSlot i ⟨0, some r⟩)

/-- A present route of the rear port at priority 4. -/
def aRoute (src : Source) : RouteRecord where
  present := true
  source := src
  gain := 0
  priority := 4
  duck := .duck
  owner := .rear
  shared := false
  pinned := false
  heard := false
  altered := false
  state := .playing

def putRoute (l : Fin 8) (k : Fin 6) (r : RouteRecord) (s : State) : State := s.onCab (setRouteRecord l k r)

def editChan (x : Chan) (f : ProgChan → ProgChan) (s : State) : State := s.onCab fun c => setChan x (f (c.chan x)) c

def editTuner (u : TunerId) (f : Tuner → Tuner) (s : State) : State := s.onCab fun c => setTuner u (f (c.tuner u)) c

def editZone (z : Zone) (f : ZoneEntry → ZoneEntry) (s : State) : State := s.onCab fun c => setZoneEntry z (f (c.zone z)) c

def editMix (z : Zone) (f : MixZone → MixZone) (s : State) : State := s.onCab fun c => setMixZone z (f (c.mixZone z)) c

def editTable (f : StationTable → StationTable) (s : State) : State := s.onCab fun c => { c with table := f c.table }

def editBuilder (f : Builder → Builder) (s : State) : State := s.onCab fun c => { c with builder := f c.builder }

def editQueue (f : Queue → Queue) (s : State) : State := s.onCab fun c => { c with queue := f c.queue }

def editCalls (f : Calls → Calls) (s : State) : State := s.onCab fun c => { c with calls := f c.calls }

def editPorts (f : Ports → Ports) (s : State) : State := s.onCab fun c => { c with ports := f c.ports }

def editNode (i : Fin 6) (f : Node → Node) (s : State) : State := writeNode i (f (s.node i)) s

def editRing (f : Ring → Ring) (s : State) : State := { s with ring := f s.ring }

def editSupply (f : Supply → Supply) (s : State) : State := { s with supply := f s.supply }

/-- Station slot `i` carried by the channel on FM channel `ch`, served by the tuner. -/
def carry (x : Chan) (u : TunerId) (i : Fin 40) (ch : Nat) (s : State) : State :=
  editTuner u (fun v => { v with role := .programme, tuned := some ⟨.fm, ch⟩ })
    (editChan x (fun v => { v with station := some ⟨i, 0⟩, serving := some u }) (putStation i (fmStation ch) s))

/-- S3 on FM channel 136, carried by PC0 on T0; T1 scans. -/
def onAir : State := editTuner .t1 (fun v => { v with role := .scan, tuned := some ⟨.fm, 0⟩ }) (carry .pc0 .t0 3 136 up)

def putEntry (i : Fin 8) (e : Entry) (s : State) : State := s.onCab (setEntrySlot i ⟨0, some e⟩)

def anEntry (k : EntryKind) (priority order : Nat) : Entry := ⟨k, priority, ZoneSet.of [.z0], order, 1000⟩

/-- A queue of eight CHIME entries of this priority; that of slot 0 was queued last. -/
def fullQueue (priority : Nat) (s : State) : State :=
  editQueue (fun q => { q with slots := Tab.build 8 fun i => ⟨0, some (anEntry (.chime i) priority (8 - i.val))⟩ }) s

def aCall (state : CallState) : CallRecord where
  state := state
  listeners := ZoneSet.of [.z0]
  privacy := false
  joinable := true
  level := -12
  talker := .driver
  uplinkMute := false
  ringUnplayed := false
  tone := none

def putCall0 (r : CallRecord) (s : State) : State := s.onCab (setCallSlot 0 ⟨0, some r⟩)

/-- An ACTIVE call in C0 with the canceller in this state. -/
def inCall (e : EchoState) : State :=
  editCalls (fun v => { v with canceller := { idleCanceller with state := e } }) (putCall0 (aCall .active) up)

/-- A position whose node is in this state. -/
def withNode (n : NodeState) : State := editNode 0 (fun v => { v with state := n }) (editRing (fun g => { g with state := .up }) up)

/-! ## From a computation to the predicates of Safety.lean -/

def eachStation (c : Cabin) (f : Station → Bool) : Bool := (List.finRange 40).all fun i => (c.stationSlot i).record.all f

theorem noDeferrals_of {c : Cabin} (h : eachStation c (fun r => decide (r.deferred = none)) = true) : NoDeferrals c := by
  intro i r hr
  have hi := List.all_eq_true.mp h i (List.mem_finRange i)
  rw [hr] at hi
  exact of_decide_eq_true hi

theorem trafficSettled_of {c : Cabin} (h : eachStation c (fun r => decide (r.ta ≠ some true)) = true)
    (h' : (List.finRange 8).all (fun i => (c.entrySlot i).entry.all fun e => match e.kind with
      | .traffic g _ => decide (e.targets = trafficTargets c g)
      | _ => true) = true) : TrafficSettled c := by
  refine ⟨fun x g _ ht => ?_, fun i e he g x hk => ?_⟩
  · unfold trafficCondition at ht
    split at ht
    · exact absurd ht (by simp)
    · rename_i r hr
      unfold Cabin.station at hr
      split at hr
      · have hi := List.all_eq_true.mp h g.slot (List.mem_finRange _)
        rw [hr] at hi
        have hn : r.ta ≠ some true := of_decide_eq_true hi
        simp [hn] at ht
      · exact absurd hr (by simp)
  · have hi := List.all_eq_true.mp h' i (List.mem_finRange i)
    rw [he] at hi
    simpa [hk] using hi

theorem prioritiesFit_of {c : Cabin} (h : (List.finRange 8).all (fun i => (c.entrySlot i).entry.all fun e =>
    decide (e.priority = match e.kind with
      | .chime n => (c.queue.patterns.get n).priority
      | .nav => 4
      | .traffic _ _ => 3
      | .ring _ => 6
      | .waiting _ => 6)) = true) : PrioritiesFit c := by
  intro i e he
  have hi := List.all_eq_true.mp h i (List.mem_finRange i)
  rw [he] at hi
  exact of_decide_eq_true hi

theorem running_of {s : State} (h : s.cab.ports.part = .running) : s.Running := h

def answersNext (i : Instr) (s : State) : Bool :=
  match exec i s with
  | .next _ => true
  | _ => false

theorem exec_after {i : Instr} {s : State} (h : answersNext i s = true) : exec i s = .next (after i s) := by
  unfold answersNext at h
  unfold after
  split at h
  · rename_i t ht
    rw [ht]
  · exact absurd h (by simp)


/-! ## Ill-formed commands are refused by the check -/

theorem test_wf_frame : (Instr.unknownRequest .front 256 0).wf = false ∧ (Instr.unknownRequest .front 0 256).wf = false ∧
    (Instr.unknownRequest .front 3 1).wf = false ∧ (Instr.unknownRequest .front 3 2).wf = true := by decide

theorem test_wf_handle : (Instr.park .front ⟨16, 0, 0⟩).wf = false ∧ (Instr.unpark .front ⟨0, 256, 0⟩).wf = false ∧
    (Instr.retireRoute .front ⟨0, 0, 16⟩).wf = false ∧ (Instr.readRoute .front ⟨16, 0, 0⟩).wf = false ∧
    (Instr.clearMarks .front ⟨16, 0, 0⟩).wf = false ∧ (Instr.readStation .front ⟨1, 0, 0⟩).wf = false ∧
    (Instr.keep .front ⟨1, 0, 0⟩).wf = false ∧ (Instr.unkeep .front ⟨0, 256, 0⟩).wf = false ∧
    (Instr.retireStation .front ⟨0, 0, 16⟩).wf = false ∧ (Instr.setTrafficWatch .front (some ⟨1, 0, 0⟩) 0).wf = false ∧
    (Instr.setTrafficWatch .front none 65536).wf = false ∧ (Instr.cancelAnnouncement .front ⟨1, 0, 0⟩).wf = false ∧
    (Instr.answer .front ⟨1, 0, 0⟩).wf = false ∧ (Instr.holdCall .front ⟨1, 0, 0⟩).wf = false ∧
    (Instr.resume .front ⟨1, 0, 0⟩).wf = false ∧ (Instr.endCall .front ⟨1, 0, 0⟩).wf = false ∧
    (Instr.readCall .front ⟨1, 0, 0⟩).wf = false ∧ (Instr.park .front ⟨15, 255, 15⟩).wf = true := by decide

def okSource : RawSource := ⟨1, 0, ⟨0, 0, 0⟩⟩
def okPlace : PlaceArgs := ⟨0, none, okSource, 0, 4, 0, 0, 0, 1⟩

theorem test_wf_place : (Instr.placeRoute .front okPlace).wf = true ∧
    (Instr.placeRoute .front { okPlace with list := 65536 }).wf = false ∧
    (Instr.placeRoute .front { okPlace with slot := some 65535 }).wf = false ∧
    (Instr.placeRoute .front { okPlace with source := { okSource with kind := 256 } }).wf = false ∧
    (Instr.placeRoute .front { okPlace with source := { okSource with medium := 256 } }).wf = false ∧
    (Instr.placeRoute .front { okPlace with gain := 32768 }).wf = false ∧
    (Instr.placeRoute .front { okPlace with priority := -1 }).wf = false ∧
    (Instr.placeRoute .front { okPlace with duck := 65536 }).wf = false ∧
    (Instr.placeRoute .front { okPlace with shared := 65536 }).wf = false ∧
    (Instr.placeRoute .front { okPlace with pinned := 65536 }).wf = false ∧
    (Instr.placeRoute .front { okPlace with present := 65536 }).wf = false := by decide

theorem test_wf_alter : (Instr.alterRoute .front ⟨16, 0, 0⟩ {}).wf = false ∧
    (Instr.alterRoute .front ⟨0, 0, 0⟩ { source := some { okSource with kind := 256 } }).wf = false ∧
    (Instr.alterRoute .front ⟨0, 0, 0⟩ { gain := some (-32769) }).wf = false ∧
    (Instr.alterRoute .front ⟨0, 0, 0⟩ { priority := some 65536 }).wf = false ∧
    (Instr.alterRoute .front ⟨0, 0, 0⟩ { duck := some 65536 }).wf = false ∧
    (Instr.alterRoute .front ⟨0, 0, 0⟩ { shared := some 65536 }).wf = false ∧
    (Instr.alterRoute .front ⟨0, 0, 0⟩ { pinned := some 65536 }).wf = false := by decide

theorem test_wf_zone : (Instr.setZone .front 65536 {}).wf = false ∧ (Instr.setZone .front 0 { present := some 65536 }).wf = false ∧
    (Instr.setZone .front 0 { volume := some 32768 }).wf = false ∧ (Instr.setZone .front 0 { ceiling := some 32768 }).wf = false ∧
    (Instr.setZone .front 0 { duckDepth := some 32768 }).wf = false ∧
    (Instr.setZone .front 0 { callDuckDepth := some 32768 }).wf = false ∧
    (Instr.setZone .front 0 { traffic := some 32768 }).wf = false ∧ (Instr.setZone .front 0 { nav := some 32768 }).wf = false ∧
    (Instr.setZone .front 0 { chime := some 32768 }).wf = false ∧ (Instr.setZone .front 0 { ring := some 32768 }).wf = false ∧
    (Instr.setZone .front 0 { accept := some 65536 }).wf = false ∧
    (Instr.setZone .front 0 { userMute := some 65536 }).wf = false ∧ (Instr.readZone .front 65536).wf = false ∧
    (Instr.linkList .front 65536 none).wf = false ∧ (Instr.linkList .front 0 (some 65535)).wf = false ∧
    (Instr.grantRearControl .front 65536).wf = false ∧ (Instr.clearZoneRoutes .front 65536).wf = false ∧
    (Instr.mediaState .front (some 65536) none none none).wf = false ∧
    (Instr.mediaState .front none (some 65536) none none).wf = false ∧
    (Instr.mediaState .front none none (some 65536) none).wf = false ∧
    (Instr.mediaState .front none none none (some 65536)).wf = false := by decide

theorem test_wf_numbers : (Instr.walkStations .front (-1) 0).wf = false ∧ (Instr.walkStations .front 1 65536).wf = false ∧
    (Instr.addStation .front 65536 0).wf = false ∧ (Instr.addStation .front 0 65536).wf = false ∧
    (Instr.startChime .front 65536 none).wf = false ∧ (Instr.startChime .front 0 (some 65535)).wf = false ∧
    (Instr.startNav .front 65536).wf = false ∧ (Instr.setPattern .front 65536 {}).wf = false ∧
    (Instr.setPattern .front 0 { tone := some (-1) }).wf = false ∧ (Instr.setPattern .front 0 { on := some (-1) }).wf = false ∧
    (Instr.setPattern .front 0 { off := some (-1) }).wf = false ∧
    (Instr.setPattern .front 0 { repeats := some (-1) }).wf = false ∧
    (Instr.setPattern .front 0 { priority := some (-1) }).wf = false ∧
    (Instr.setPattern .front 0 { targets := some 65536 }).wf = false ∧ (Instr.readPattern .front 65536).wf = false ∧
    (Instr.readNode .front 65536).wf = false ∧ (Instr.restartNode .front 65536).wf = false ∧
    (Instr.systemMute .front 65536).wf = false := by decide

theorem test_wf_calls : (Instr.openCall .front { listeners := some 65535 }).wf = false ∧
    (Instr.openCall .front { level := some 32768 }).wf = false ∧ (Instr.openCall .front { talker := some 65535 }).wf = false ∧
    (Instr.openCall .front { joinable := some 65535 }).wf = false ∧
    (Instr.setListeners .front ⟨1, 0, 0⟩ 0).wf = false ∧ (Instr.setListeners .front ⟨0, 0, 0⟩ 65536).wf = false ∧
    (Instr.setCall .front ⟨1, 0, 0⟩ {}).wf = false ∧ (Instr.setCall .front ⟨0, 0, 0⟩ { level := some 32768 }).wf = false ∧
    (Instr.setCall .front ⟨0, 0, 0⟩ { talker := some 65536 }).wf = false ∧
    (Instr.setCall .front ⟨0, 0, 0⟩ { uplinkMute := some 65536 }).wf = false ∧
    (Instr.setCall .front ⟨0, 0, 0⟩ { privacy := some 65536 }).wf = false ∧
    (Instr.setCall .front ⟨0, 0, 0⟩ { joinable := some 65536 }).wf = false ∧
    (Instr.setUplinkGain .front 32768).wf = false ∧ (Instr.joinCall .front ⟨1, 0, 0⟩ 3).wf = false ∧
    (Instr.joinCall .front ⟨0, 0, 0⟩ 65536).wf = false ∧ (Instr.leaveCall .front ⟨1, 0, 0⟩ 3).wf = false ∧
    (Instr.leaveCall .front ⟨0, 0, 0⟩ 65536).wf = false := by decide

theorem test_wf_events : (Instr.measurement .t0 ⟨91, 0, 0⟩).wf = false ∧ (Instr.followProbeComplete ⟨0, 101, 0⟩).wf = false ∧
    (Instr.excursionEnd .pc0 ⟨0, 0, 101⟩).wf = false ∧ (Instr.scanMeasurement ⟨91, 0, 0⟩).wf = false ∧
    (Instr.dataGroup .t0 ⟨65536, true, .ident true true⟩).wf = false ∧
    (Instr.abilityPage 0 ⟨false, true, .base none 256 0⟩).wf = false ∧
    (Instr.abilityPage 0 ⟨false, true, .channel 256⟩).wf = false ∧
    (Instr.imageLoadEnd (.read true [] 0 builtInImage)).wf = false ∧ (Instr.startUp 4999 false).wf = false ∧
    (Instr.startUp 5000 false).wf = true := by decide

/-! ## Frames written out from the layouts (10 R160, R167) -/

/-- Park, request 3 with one body word: the handle with generation 2 in bits 15 to 12, list 3 in bits 11 to 8, slot 5. -/
theorem test_decode_park : decodeFrame .rear [0x0301#16, 0x2305#16] = some (.park .rear ⟨3, 5, 2⟩) := by decide

/-- Relay Send, request 49 with one word. -/
theorem test_decode_relay : decodeFrame .front [0x3101#16, 0xBEEF#16] = some (.relaySend .front 0xBEEF#16) := by decide

/-- Set Zone, request 8: the selection, the zone, the values. Zone 3 and the volume (field 1) alone, −120 steps; and the
announcement levels (field 5), one field of four words: traffic, nav, chime, ring. -/
theorem test_decode_set_zone : decodeFrame .front [0x0803#16, 0x0002#16, 3#16, 0xFF88#16] =
      some (.setZone .front 3 { volume := some (-120) }) ∧
    decodeFrame .rear [0x0806#16, 0x0020#16, 4#16, 0xFFFF#16, 0xFFFE#16, 0xFFFD#16, 0xFFFC#16] =
      some (.setZone .rear 4 { traffic := some (-1), nav := some (-2), chime := some (-3), ring := some (-4) }) := by decide

/-- Alter Route, request 2: the gain (field 1) alone, −1 step, of L3.5/2. -/
theorem test_decode_alter : decodeFrame .rear [0x0203#16, 0x0002#16, 0x2305#16, 0xFFFF#16] =
    some (.alterRoute .rear ⟨3, 5, 2⟩ { gain := some (-1) }) := by decide

/-- Add Station, request 18: MW is 1. Set Traffic Watch, request 22: 65535 is none. Open Call, request 32, of no words. -/
theorem test_decode_stations : decodeFrame .rear [0x1202#16, 1#16, 76#16] = some (.addStation .rear 1 76) ∧
    decodeFrame .front [0x1602#16, 65535#16, 3#16] = some (.setTrafficWatch .front none 3) ∧
    decodeFrame .front [0x2000#16] = some (.openCall .front {}) := by decide

/-- A request number of 0 or above 51 names no request, and a frame whose body has not come in is not taken. -/
theorem test_decode_others : decodeFrame .front [0x0000#16] = some (.unknownRequest .front 0 0) ∧
    decodeFrame .front [0x3400#16] = some (.unknownRequest .front 52 0) ∧
    decodeFrame .front [0x0141#16] = none := by decide

/-! ## Worked figures and cases of the spec, one step at a time -/

/-- 05 R86: FS 48, offset +2, multipath 30, adjacent 20 give 29. 05 R87: from 40 with a steady 29. -/
theorem test_quality : rawQuality .fm 2 ⟨48, 30, 20⟩ = 29 ∧
    (List.range 7).map (fun n => (fun q => smooth (some q) 29)^[n + 1] 40) = [37, 35, 33, 32, 31, 30, 29] := by decide

/-- 02, worked example: F(−64), F(−24), and the three scaled samples. -/
theorem test_factor : factorOf (-64) = 26339 ∧ factorOf (-24) = 263390 ∧ scale 26339 3000000 = 75356 ∧
    scale 26339 (-2000000) = -50238 ∧ scale 263390 1200000 = 301426 := by decide +kernel

/-- 02 R37: the table of factors. -/
theorem test_factor_table : [0, -6, -12, -20, -24, -40, -64, -80, -120, -160, -192].map factorOf =
    [1048576, 742335, 525533, 331589, 263390, 104858, 26339, 10486, 1049, 105, 17] := by decide +kernel

/-- 07 R134: a ratio of 80 is 19.0 dB, 38 half-decibels. -/
theorem test_erle : erle { idleCanceller with micSquares := 80 * 500000000, residualSquares := 500000000 } = 38 := by
  decide +kernel

/-- The plan of the worked cases at the limits (02): Z0 with ceiling −10, duck depth −30, call duck depth −50. -/
def limitsZone (audible : Option Audible) (listened : Option CallId) : MixZone :=
  { emptyMixZone with recorded := some ⟨-10, false, -30, -50⟩, audible := audible, listened := listened }

def limitsShare (source : PlanSource) (d : DuckClass) (planned : Int) : RouteShare :=
  ⟨⟨0, 0, 0⟩, false, source, d, .steps planned, .steps planned, false, true⟩

def limitsTargets (audible : Option Audible) (listened : Option CallId) (crank : Int) : List Level :=
  [limitsShare (.media 0) .duck (-44), limitsShare (.chan .pc0) .mute (-40), limitsShare (.media 2) .ignore (-32)].map
    (routeTarget { (up.cab.zone .z0) with ceiling := -10 } crank (limitsZone audible listened))

/-- 02, worked cases at the limits, cases 1 to 4. -/
theorem test_limits : limitsTargets none none 0 = [.steps (-44), .steps (-40), .steps (-32)] ∧
    limitsTargets (some ⟨⟨0, 0⟩, .nav⟩) none 0 = [.steps (-74), .silent, .steps (-32)] ∧
    limitsTargets (some ⟨⟨0, 0⟩, .chime⟩) (some ⟨0, 0⟩) 0 = [.steps (-94), .silent, .steps (-32)] ∧
    limitsTargets (some ⟨⟨0, 0⟩, .chime⟩) (some ⟨0, 0⟩) (-36) = [.steps (-130), .silent, .steps (-68)] := by
  decide +kernel

/-- 06 R111: 10 ticks on, 5 off, 3 repeats end 450 ms after the first on-period began. -/
theorem test_cadence : let p : Pattern := ⟨1000, 10, 5, 3, 2, ZoneSet.of [.z0]⟩
    ((tickVoice true p)^[1] (newVoice 0)).cadence = .on 10 ∧
    ((tickVoice true p)^[45] (newVoice 0)).cadence ≠ .finished ∧
    ((tickVoice true p)^[46] (newVoice 0)).cadence = .finished := by decide +kernel

def placeMedia0 : PlaceArgs := ⟨0, none, ⟨1, 0, ⟨0, 0, 0⟩⟩, 0, 2, 0, 0, 0, 1⟩

/-- 01, worked example, step 1: MEDIA0 open, then placed into L0: L0.0/0, PLAYING (5). -/
theorem test_place_route : let t := after (.placeRoute .front placeMedia0) (after (.mediaState .front (some 0) none none none) up)
    t.answer .front = some ⟨.done, [0x0000#16, 5#16]⟩ ∧
    (t.cab.route 0 0).record.map (·.state) = some .playing := by decide +kernel

/-- 01, worked example, steps 3 and 4: the rear may link Z3 to L0, and may then not alter a shared route of L0. -/
theorem test_listen_along :
    let s := putRoute 0 1 { aRoute (.media 0) with owner := .front, shared := true } up
    let t := after (.linkList .rear 3 (some 0)) s
    t.answer .rear = some ⟨.done, []⟩ ∧ EventSet.has t.cab.ports.events.front .zone = true ∧
    EventSet.has t.cab.ports.events.rear .zone = true ∧
    (after (.alterRoute .rear ⟨0, 1, 0⟩ { gain := some (-10) }) t).answer .rear = some ⟨.denied, []⟩ := by
  decide +kernel

/-- 05, worked example, step 1: at priority 5 S21 takes PC1 from S9 at 2, S3 at 3 keeps PC0; the tuner retunes. -/
theorem test_arbitration :
    let s := putRoute 2 0 { aRoute (.station ⟨21, 0⟩) with priority := 5 } (putRoute 3 0 { aRoute (.station ⟨9, 0⟩) with
      priority := 2 } (putRoute 0 0 { aRoute (.station ⟨3, 0⟩) with priority := 3 } (carry .pc1 .t1 9 38 onAir)))
    let c := arbitrate ((editZone .z1 (fun e => { e with list := some 2 }) (editZone .z4 (fun e => { e with
      list := some 3 }) (putStation 21 (newStation ⟨.mw, 76⟩ 38 .listed .scan none) s))).cab)
    (c.chan .pc0).station = some ⟨3, 0⟩ ∧ (c.chan .pc1).station = some ⟨21, 0⟩ ∧ (c.chan .pc1).retuning = true ∧
    (c.tuner .t1).tuned = some ⟨.mw, 76⟩ := by decide +kernel

/-- 04, worked example: S17 merges into S3, which lists 101.10 (48), 104.85 (41) and 102.60 (35). -/
theorem test_merge :
    let a : Station := { fmStation 218 with identity := some 4101, alternates := [⟨272, some 48⟩, ⟨302, some 35⟩], refs := 1 }
    let b : Station := { fmStation 347 with quality := 41, refs := 1, miss := 1 }
    let c := mergeInto 17 3 (putStation 17 b (putStation 3 a up)).cab
    (c.stationSlot 3).record.map (·.alternates) = some [⟨272, some 48⟩, ⟨347, some 41⟩, ⟨302, some 35⟩] ∧
    (c.stationSlot 3).record.map (·.refs) = some 2 ∧ c.stationSlot 17 = ⟨1, none⟩ := by decide +kernel

/-- 04, worked example: 1440 kHz at raw 33 (FS 36 gives 32.5, rounded up) makes a CANDIDATE in the lowest free slot. -/
theorem test_scan_mw :
    let s := editTable (fun v => { v with position := ⟨.mw, 101⟩ }) (editTuner .t1 (fun v => { v with role := .scan }) up)
    let t := after (.scanMeasurement ⟨36, 0, 0⟩) s
    (t.cab.stationSlot 0).record.map (fun r => (r.state, r.quality, r.isNew)) = some (.candidate, 33, true) ∧
    t.cab.table.position = ⟨.mw, 102⟩ := by decide +kernel

/-- 06, worked example, step 1: Start Nav with targets Z0 and Z2 takes slot 0, order 1, and is audible in both. -/
theorem test_start_nav : let t := after (.startNav .front 5) up
    t.answer .front = some ⟨.done, [0#16]⟩ ∧ (t.cab.entrySlot 0).entry.map (fun e => (e.priority, e.order)) = some (4, 1) ∧
    (t.cab.mixZone .z0).audible = some ⟨⟨0, 0⟩, .nav⟩ ∧ (t.cab.mixZone .z1).audible = none := by decide +kernel

/-- 06, worked example, step 3: pattern 4 beside the prompt has priority 6, outranks it, and takes voice 0. -/
theorem test_start_chime : let t := after (.startChime .front 4 none) (after (.startNav .front 5) up)
    t.answer .front = some ⟨.done, [1#16, 0#16]⟩ ∧ (t.cab.mixZone .z0).audible = some ⟨⟨1, 0⟩, .chime⟩ ∧
    voiceOf t.cab 1 = some 0 ∧ t.cab.entrySlot 0 = (after (.startNav .front 5) up).cab.entrySlot 0 := by decide +kernel

/-- 07, worked example, steps 1 to 3: Open Call rings in Z0 and Z2; Join Call adds Z3 to the tone; Answer ends it. -/
theorem test_open_call : let t := after (.openCall .front { joinable := some 1 }) up
    (t.cab.entrySlot 0).entry.map (fun e => (e.kind, e.targets)) = some (.ring ⟨0, 0⟩, ZoneSet.of [.z0, .z2]) ∧
    ((after (.joinCall .rear ⟨0, 0, 0⟩ 3) t).cab.entrySlot 0).entry.map (·.targets) =
      some (ZoneSet.of [.z0, .z2, .z3]) := by decide +kernel

theorem test_answer_call :
    let t := after (.answer .front ⟨0, 0, 0⟩) (after (.openCall .front { joinable := some 1 }) up)
    callState t.cab 0 = some .active ∧ t.cab.entrySlot 0 = ⟨1, none⟩ ∧ (t.cab.mixZone .z2).listened = some ⟨0, 0⟩ ∧
    t.cab.calls.canceller.state = .converging := by decide +kernel

/-- 08, worked example: the BASE page of a four-channel SPEAKER-AMP is accepted, and a repeat is acknowledged alone. -/
theorem test_ability_page :
    let t := after (.abilityPage 0 ⟨false, true, .base (some .speakerAmp) 4 2⟩) (withNode .discovered)
    (t.node 0).state = .exchanging ∧ (t.node 0).pages = 1 ∧ (t.node 0).toggle = true ∧
    after (.abilityPage 0 ⟨false, true, .channel 0⟩) t = t := by decide +kernel

/-- 09, worked example: 6.7 V in the window leaves an ordinary DIP, and 9.4 V after 8.8 V enters SETTLE. -/
theorem test_supply_sample :
    let s := after (.supplySample 6700) (after (.expectDip .front) (editSupply (fun v => { v with previous := some 12100 }) up))
    (s.supply.state, s.supply.window, s.supply.crank) = (.dip, false, -36) ∧
    (after (.supplySample 9400) (after (.supplySample 8800) s)).supply.state = .settle := by decide +kernel

/-- 10, worked example, steps 1 to 3: a second Relay Send is refused, and Read Events returns RELAY-IN (bit 10). -/
theorem test_relay : let s := after (.relaySend .front 0x0204#16) (after (.relaySend .front 0x0203#16) up)
    s.answer .front = some ⟨.wrongState, []⟩ ∧ s.cab.ports.relay.front = some 0x0203#16 ∧
    (after (.readEvents .rear) s).answer .rear = some ⟨.done, [0x0400#16, 0#16]⟩ := by decide +kernel

/-- 10, worked example, steps 4 to 7: lite reset empties the slot; at its end the number advances. -/
theorem test_lite_reset : let t := after (.liteReset .front) (after (.relaySend .front 0x0203#16) up)
    t.cab.ports.relay.front = none ∧ (after (.relayTake .rear) t).answer .rear = some ⟨.busy, []⟩ ∧
    (after .liteResetEnd t).cab.ports.liteNumber = 1#16 ∧
    (after (.relayTake .rear) (after .liteResetEnd t)).answer .rear = some ⟨.wrongState, []⟩ := by decide +kernel

/-- 09 R155, R156: an EEPROM that does not answer leaves the built-in values: Z2's ceiling is −20. -/
theorem test_image_load : let t := after (.imageLoadEnd .noAnswer) (inPart .starting)
    t.supply.imageAbsent = true ∧ t.cab.ports.part = .running ∧ (t.cab.zone .z2).ceiling = -20 ∧
    t.ring.state = .locking ∧ (t.cab.tuner .t0).role = .scan := by decide +kernel

/-- Z3 at tick 169 of the worked example of 02: L5.0/0 on MEDIA1 at −64, a CHIME overlay at −24. -/
def headphones : State :=
  editMix .z3 (fun m => { m with
    recorded := some ⟨-24, false, -40, -40⟩
    routes := [⟨⟨5, 0, 0⟩, false, .media 1, .duck, .steps (-24), .steps (-24), false, true⟩]
    audible := some ⟨⟨0, 0⟩, .chime⟩
    overlays := [⟨.entry ⟨⟨0, 0⟩, .chime⟩, .silent⟩] })
    (editZone .z3 (fun e => { e with ceiling := -24, duckDepth := -40, chime := -12, list := some 5 })
      (after (.mediaState .front none (some 0) none none) up))

/-- 02, worked example: the first tick takes the route to −25 and the overlay to −192. -/
theorem test_ramp_tick : let m := (after .rampTick headphones).cab.mixZone .z3
    m.routes.map (·.current) = [.steps (-25)] ∧ m.overlays.map (·.current) = [.steps (-192)] := by decide +kernel

/-- Only MEDIA1 sounds, 3,000,000 on the left and −2,000,000 on the right. -/
def loudMedia1 : SampleIn where
  media := ⟨[⟨0, 0⟩, ⟨BitVec.ofInt 24 3000000, BitVec.ofInt 24 (-2000000)⟩, ⟨0, 0⟩, ⟨0, 0⟩], rfl⟩
  tuner := ⟨⟨0, 0⟩, ⟨0, 0⟩⟩
  nav := 0
  phoneDl := 0
  driver := 0
  passenger := 0

/-- 02, worked example: the route alone after its fall: 75,356 and −50,238 on Z3 L and R. -/
theorem test_mix_sample :
    let s := editMix .z3 (fun m => { m with overlays := [], routes := m.routes.map fun x => { x with current := .steps (-64) } })
      headphones
    let t := after (.mixSample loudMedia1) s
    t.cab.mix.channels.get 10 = 75356 ∧ t.cab.mix.channels.get 11 = -50238 := by decide +kernel

/-- 08 R143: a zone channel is heard on its node channel while it is CARRIED, and on none while it is PENDING. -/
theorem test_frame_audio :
    let s (v : PlaceStatus) := editRing (fun g => { g with
        state := .up, placement := g.placement.set 10 ⟨some (2, 0), v⟩ })
      (editMix .z3 (fun m => { m with overlays := [], routes := m.routes.map fun x => { x with current := .steps (-64) } })
        headphones)
    (((after (.mixSample loudMedia1) (s .carried)).ring.frame.get 2).get 0) = some 75356 ∧
    (((after (.mixSample loudMedia1) (s .pending)).ring.frame.get 2).get 0) = none := by decide +kernel

/-- 05 R95: the channel's samples are those of the selected tuner. -/
theorem test_selected_tuner :
    let x : SampleIn := { loudMedia1 with tuner := ⟨⟨1000, 2000⟩, ⟨3000, 4000⟩⟩ }
    sourceSample onAir.cab x (.chan .pc0) = (1000, 2000) ∧
    sourceSample (editChan .pc0 (fun v => { v with diversity := true, partner := true }) onAir).cab x (.chan .pc0) =
      (3000, 4000) := by decide +kernel

/-- 08 R141: a repeat of the last page arrives in CONFIGURING: it is acknowledged again, with its own toggle. -/
theorem test_repeat_acknowledged :
    ((after (.abilityPage 0 ⟨true, false, .channel 0⟩) (withNode .configuring)).node 0).echoed = some true := by
  decide +kernel

/-- A bulletin that a full queue refused: S3 watched, with both flags, and eight entries of priority 3 and above. -/
def refused : State :=
  editQueue (fun q => { q with slots := q.slots.set 7 ⟨0, some (anEntry .nav 4 1)⟩ })
    (fullQueue 6 (editTable (fun v => { v with watch := some ⟨⟨3, 0⟩, 4⟩ })
      (putStation 3 { fmStation 136 with watched := true, tp := some true, ta := some true } onAir)))

/-- 06 R116: the ending of an entry tests the condition again, and the bulletin takes the freed slot. -/
theorem test_bulletin_at_ending : let t := after (.endNav .front) refused
    (t.cab.entrySlot 7).entry.map (fun e => (e.kind, e.priority)) = some (.traffic ⟨3, 0⟩ .pc0, 3) ∧
    (t.cab.entrySlot 7).gen = 1 ∧ EventSet.has t.cab.ports.events.rear .traffic = true := by decide +kernel

/-! ## The statements' hypotheses are met -/

/-! ## States that meet the hypotheses of the statements

One theorem for each statement of Obligations.lean that has hypotheses, under the statement's name: its conjuncts
are the hypotheses of the statement's clauses, at concrete states and operands. -/

theorem witness_StepRunsTheFrontCommand : State.reset.pending = [] := rfl

theorem witness_BusyWhileStartingOrLiteReset : requestPort (.readEvents .rear) = some .rear ∧
    (inPart .starting).cab.ports.part = .starting ∧ (inPart .liteReset).cab.ports.part = .liteReset ∧
    (inPart .held).cab.ports.part = .held := by decide

/-- A refused request, and an abandoned transaction and an unknown frame in RUNNING. -/
theorem witness_RefusedRequestsChangeNothing : up.Running ∧ requestPort (.liteReset .rear) = some .rear ∧
    ((after (.liteReset .rear) up).answer .rear).any (·.result.refuses) = true := by
  refine ⟨rfl, ?_, ?_⟩ <;> decide +kernel

theorem witness_StatusWordIsCapturedAtSelect : (inPart .starting).cab.ports.part ≠ .held ∧
    exec (.readRing .front) up = .next (after (.readRing .front) up) ∧
    Instr.readRing .front ≠ .portSelect .front ∧ (after (.readRing .front) up).cab.ports.part ≠ .held := by
  refine ⟨?_, exec_after ?_, ?_, ?_⟩ <;> decide +kernel

theorem witness_EventSetsAttentionAndReadEvents : up.cab.ports.part.posts = true ∧ up.Running ∧
    ((inPart .starting).cab.ports.part = .starting ∧
      exec .rampTick (inPart .starting) = .next (after .rampTick (inPart .starting)) ∧
      (after .rampTick (inPart .starting)).cab.ports.part = .starting) ∧
    (exec .liteResetEnd (inPart .liteReset) = .next (after .liteResetEnd (inPart .liteReset)) ∧
      (after .liteResetEnd (inPart .liteReset)).cab.ports.part ≠ .held ∧
      (after .liteResetEnd (inPart .liteReset)).cab.ports.liteNumber = 1) ∧
    ¬ up.shows .front .route := by
  refine ⟨?_, rfl, ⟨?_, exec_after ?_, ?_⟩, ⟨exec_after ?_, ?_, ?_⟩, ?_⟩ <;>
    first | decide +kernel | (unfold State.shows; decide +kernel)

/-- A slot that holds a word, and one that holds none. -/
theorem witness_TheConsoleRelay : up.Running ∧ up.cab.ports.relay.get .front = none ∧
    (editPorts (fun v => { v with relay := ⟨some 0xFFFF#16, none⟩ }) up).Running ∧
    (editPorts (fun v => { v with relay := ⟨some 0xFFFF#16, none⟩ }) up).cab.ports.relay.get .front = some 0xFFFF#16 := by
  refine ⟨rfl, ?_, rfl, ?_⟩ <;> decide

theorem witness_LiteResetStartsAndEnds : up.Running ∧ (inPart .liteReset).cab.ports.part = .liteReset ∧
    up.cab.ports.part ≠ .liteReset ∧ (onAir.cab.stationSlot 3).record = some (fmStation 136) := by
  refine ⟨rfl, ?_, ?_, ?_⟩ <;> decide +kernel

/-- The front places MEDIA0 first free into L0; the rear places a station into the last slot of L3. -/
theorem witness_PlaceRouteCreatesTheRecord :
    (up.Running ∧ NoDeferrals up.cab ∧ PrioritiesFit up.cab ∧ placeForm? okPlace = some ⟨0, none, .media 0, .duck, false, false, true⟩ ∧
      resolveSource up.cab (.media 0) = some (.media 0) ∧ listNames up.cab 0 (.media 0) = false ∧
      placeSlot up.cab ⟨0, none, .media 0, .duck, false, false, true⟩ = some 0) ∧
    (onAir.Running ∧ NoDeferrals onAir.cab ∧ PrioritiesFit onAir.cab ∧
      placeForm? { okPlace with list := 3, slot := some 5, source := ⟨0, 0, ⟨0, 3, 0⟩⟩ } =
        some ⟨3, some 5, .station 3 ⟨0, 3, 0⟩, .duck, false, false, true⟩ ∧
      resolveSource onAir.cab (.station 3 ⟨0, 3, 0⟩) = some (.station ⟨3, 0⟩) ∧
      rearMayChangeList onAir.cab 3 = true ∧ listNames onAir.cab 3 (.station ⟨3, 0⟩) = false ∧
      placeSlot onAir.cab ⟨3, some 5, .station 3 ⟨0, 3, 0⟩, .duck, false, false, true⟩ = some 5) := by
  with_reducible and_intros <;> first
    | exact running_of (by decide +kernel) | exact noDeferrals_of (by decide +kernel)
    | exact prioritiesFit_of (by decide +kernel) | decide +kernel

/-- L3.5/0, the rear's, names MEDIA0; S3 is on the air. -/
def routed : State := putRoute 3 5 (aRoute (.media 0)) onAir

/-- The front alters the rear's route: another source and a gain beyond its range; the rear alters its own. -/
theorem witness_AlterRouteChangesTheNamedFields :
    (routed.Running ∧ NoDeferrals routed.cab ∧ PrioritiesFit routed.cab ∧ routeKey? ⟨3, 5, 0⟩ = some (3, 5) ∧
      routeOf routed.cab 3 5 ⟨3, 5, 0⟩ = some (aRoute (.media 0))) ∧
    (alterForm { source := some ⟨0, 0, ⟨0, 3, 0⟩⟩, gain := some 25 } = true ∧
      optSource routed.cab (.media 0) (some ⟨0, 0, ⟨0, 3, 0⟩⟩) = some (.station ⟨3, 0⟩) ∧
      alterDenied routed.cab .front 3 (aRoute (.media 0)) { source := some ⟨0, 0, ⟨0, 3, 0⟩⟩, gain := some 25 } = false ∧
      duplicateIn routed.cab 3 (some 5) (.station ⟨3, 0⟩) = false ∧
      alteredRecord (aRoute (.media 0)) (.station ⟨3, 0⟩) { source := some ⟨0, 0, ⟨0, 3, 0⟩⟩, gain := some 25 } ≠
        aRoute (.media 0)) ∧
    (alterForm { gain := some (-48) } = true ∧ optSource routed.cab (.media 0) none = some (.media 0) ∧
      alterDenied routed.cab .rear 3 (aRoute (.media 0)) { gain := some (-48) } = false ∧
      alteredRecord (aRoute (.media 0)) (.media 0) { gain := some (-48) } ≠ aRoute (.media 0)) := by
  with_reducible and_intros <;> first
    | exact running_of (by decide +kernel) | exact noDeferrals_of (by decide +kernel)
    | exact prioritiesFit_of (by decide +kernel) | decide +kernel

/-- A present route to park, and a parked one that no present route of its list duplicates. -/
theorem witness_ParkAndUnparkSetPresent :
    (routed.Running ∧ NoDeferrals routed.cab ∧ PrioritiesFit routed.cab ∧ routeKey? ⟨3, 5, 0⟩ = some (3, 5) ∧
      routeOf routed.cab 3 5 ⟨3, 5, 0⟩ = some (aRoute (.media 0)) ∧
      mayChangeRoute routed.cab .rear 3 (aRoute (.media 0)) = true ∧ (aRoute (.media 0)).present = true) ∧
    (let r := { aRoute (.media 0) with present := false }
     let s := putRoute 3 5 r onAir
     s.Running ∧ NoDeferrals s.cab ∧ routeOf s.cab 3 5 ⟨3, 5, 0⟩ = some r ∧ mayChangeRoute s.cab .front 3 r = true ∧
     duplicateIn s.cab 3 (some 5) (.media 0) = false) := by
  with_reducible and_intros <;> first
    | exact running_of (by decide +kernel) | exact noDeferrals_of (by decide +kernel)
    | exact prioritiesFit_of (by decide +kernel) | decide +kernel

/-- A route the rear may retire, and zones Z0 to Z4 all named. -/
theorem witness_RetiringFreesTheSlots : routed.Running ∧ NoDeferrals routed.cab ∧ PrioritiesFit routed.cab ∧ routeKey? ⟨3, 5, 0⟩ = some (3, 5) ∧
    routeOf routed.cab 3 5 ⟨3, 5, 0⟩ = some (aRoute (.media 0)) ∧
    mayChangeRoute routed.cab .rear 3 (aRoute (.media 0)) = true ∧
    zoneSet? 31 = some (PerZone.fill true) := by
  with_reducible and_intros <;> first
    | exact running_of (by decide +kernel) | exact noDeferrals_of (by decide +kernel)
    | exact prioritiesFit_of (by decide +kernel) | decide +kernel

theorem witness_DirectoryReadsAndMarks : routed.Running ∧ routeKey? ⟨3, 5, 0⟩ = some (3, 5) ∧
    routeOf routed.cab 3 5 ⟨3, 5, 0⟩ = some (aRoute (.media 0)) ∧ Zone.ofNat? 4 = some .z4 := by
  refine ⟨rfl, ?_, ?_, ?_⟩ <;> decide +kernel

/-- The front on Z0 with a ceiling above 0; the rear on Z3 below and above its present ceiling of −40; an accept set that is
new, and one that is not. -/
theorem witness_SetZoneSettlesTheEntry : up.Running ∧ NoDeferrals up.cab ∧ PrioritiesFit up.cab ∧
    (let t := after (.setZone .front 0 { accept := some 0 }) up
     (t.cab.zone .z0).accept ≠ (up.cab.zone .z0).accept) ∧
    (let t := after (.setZone .front 0 { ceiling := some (-41) }) up
     (t.cab.zone .z0).accept = (up.cab.zone .z0).accept ∧ t.cab.alloc.chans = up.cab.alloc.chans) ∧
    (Zone.ofNat? 0 = some .z0 ∧ zoneForm { present := some 0, ceiling := some 1 } = true ∧
      mayChangeZone up.cab .front .z0 = true) ∧
    (Zone.ofNat? 3 = some .z3 ∧ zoneForm { ceiling := some (-41) } = true ∧ zoneForm { ceiling := some (-39) } = true ∧
      mayChangeZone up.cab .rear .z3 = true ∧ (up.cab.zone .z3).ceiling = -40) := by
  with_reducible and_intros <;> first
    | exact running_of (by decide +kernel) | exact noDeferrals_of (by decide +kernel)
    | exact prioritiesFit_of (by decide +kernel) | decide +kernel

/-- Z3 linked to L7, which is a change, or to none, which is not; grant and revoke; MEDIA3 open. -/
theorem witness_LinksGrantsAndStreams : up.Running ∧ NoDeferrals up.cab ∧ PrioritiesFit up.cab ∧ Zone.ofNat? 3 = some .z3 ∧
    listForm (some 7) = some (some 7) ∧ listForm none = some none ∧ mayChangeZone up.cab .rear .z3 = true ∧
    (up.cab.zone .z3).list = none ∧ firstOfTwo? 0 = some true ∧ firstOfTwo? 1 = some false ∧
    mediaForm none none none (some 0) = true := by
  with_reducible and_intros <;> first
    | exact running_of (by decide +kernel) | exact noDeferrals_of (by decide +kernel)
    | exact prioritiesFit_of (by decide +kernel) | decide +kernel

/-- Z0 with one route contribution that is settling. -/
def settling : State := editMix .z0 (fun m => { m with
  recorded := some ⟨-6, false, -24, -40⟩
  routes := [⟨⟨0, 0, 0⟩, false, .media 0, .duck, .steps (-60), .silent, true, false⟩] }) up

def inHold (h : HoldState) (s : State) : State := editBuilder (fun b => { b with hold := h }) s

/-- Enter Hold with and without a settling contribution; Release Hold from HOLDING. -/
theorem witness_EnterAndReleaseHold :
    (up.Running ∧ up.cab.builder.hold = .running ∧ anySettling up.cab = false) ∧
    (settling.Running ∧ settling.cab.builder.hold = .running ∧ anySettling settling.cab = true) ∧
    ((inHold .holding up).Running ∧ (inHold .holding up).cab.builder.hold ≠ .running ∧
      NoDeferrals (inHold .holding up).cab) := by
  with_reducible and_intros <;> first
    | exact running_of (by decide +kernel) | exact noDeferrals_of (by decide +kernel)
    | exact prioritiesFit_of (by decide +kernel) | decide +kernel

theorem witness_HoldKeepsPlansAndAssignment : HoldFits (inHold .holding onAir).cab ∧
    (inHold .holding onAir).cab.builder.hold ≠ .running ∧ NoDeferrals (inHold .holding onAir).cab ∧
    exec .rampTick (inHold .holding onAir) = .next (after .rampTick (inHold .holding onAir)) ∧
    (after .rampTick (inHold .holding onAir)).cab.builder.hold ≠ .running ∧
    ∀ u g, Instr.rampTick ≠ .dataGroup u g := by
  refine ⟨fun _ => rfl, ?_, noDeferrals_of ?_, exec_after ?_, ?_, ?_⟩ <;> first | decide +kernel | (intro u g h; cases h)

/-- Targets and levels at both ends, and a zone state for every row of the table of R29. -/
theorem witness_TargetsAndRamps : (-192 : Int) ≤ -192 ∧ (-192 : Int) ≤ 0 ∧ (0 : Int) ≤ 0 ∧
    (limitsZone none none).recorded = some ⟨-10, false, -30, -50⟩ ∧
    bulletinOn (limitsZone (some ⟨⟨0, 0⟩, .traffic .pc0⟩) none) (.chan .pc0) = true ∧
    bulletinOn (limitsZone (some ⟨⟨0, 0⟩, .nav⟩) (some ⟨0, 0⟩)) (.chan .pc0) = false ∧
    (limitsZone (some ⟨⟨0, 0⟩, .nav⟩) none).audible ≠ none ∧ (limitsZone none (some ⟨0, 0⟩)).listened ≠ none := by
  decide

/-- The second clause's route, PLAYING, with a contribution of it; HOLD-PENDING with and without settling. -/
theorem witness_RampTickMovesLevelsAndMarks :
    ((putRoute 0 0 (aRoute (.media 0)) settling).cab.route 0 0).record = some (aRoute (.media 0)) ∧
    ((inHold .pending up).cab.builder.hold = .pending ∧ (inHold .pending up).cab.builder.job = none ∧
      anySettling (after .rampTick (inHold .pending up)).cab = false) ∧
    ((inHold .pending settling).cab.builder.hold = .pending ∧
      anySettling (after .rampTick (inHold .pending settling)).cab = true) ∧
    up.cab.builder.hold ≠ .pending := by decide +kernel

/-- Levels at both ends of the range; figures whose raw quality is 29 by R86's example; a rising and a falling smoothing. -/
theorem witness_FactorsAndQualities : (-192 : Int) ≤ -192 ∧ (-192 : Int) ≤ 24 ∧ (24 : Int) ≤ 24 ∧ 2 ^ 20 ≤ 2 ^ 20 ∧
    (let v : Int := 25 * ((48 : Int) + 2 - 10) - 10 * 30 - 6 * 20
     20 * 29 - 10 ≤ v ∧ v < 20 * 29 + 10) ∧
    (let v : Int := 25 * ((36 : Int) + 0 - 10) - 6 * 0
     20 * 33 - 10 ≤ v ∧ v < 20 * 33 + 10) ∧ 29 ≤ 40 ∧ 70 < 73 ∧ 40 - 29 ≤ 11 ∧ 73 - 70 ≤ 3 := by decide

/-- A call that mutes its uplink, no call, and the three states of the canceller with a block not evaluated and one in
progress; Z3 L CARRIED on a node channel; PC0's station on T0, and retuning; and the overlays of each kind, a tone's with
a voice and without. -/
theorem witness_MixSampleSumsAndSaturates : activeCall up.cab = none ∧
    activeCall (putCall0 { aCall .active with uplinkMute := true } up).cab = some 0 ∧
    ((putCall0 { aCall .active with uplinkMute := true } up).cab.callSlot 0).record =
      some { aCall .active with uplinkMute := true } ∧ up.cab.ports.part.posts = true ∧
    (let v := (editCalls (fun v => { v with canceller := { v.canceller with samples := 3072 } })
        (inCall .doubleTalk)).cab.calls.canceller
     v.state ≠ .idle ∧ v.state = .doubleTalk ∧ 3072 ≤ v.samples) ∧
    ((inCall .converging).cab.calls.canceller.state ≠ .idle ∧ (inCall .converging).cab.calls.canceller.samples < 3072) ∧
    (soundsOn (editRing (fun g => { g with
        state := .up, placement := g.placement.set 10 ⟨some (2, 0), .carried⟩ }) up).ring 2 0 10 = true) ∧
    ((onAir.cab.chan .pc0).station = some ⟨3, 0⟩ ∧ onAir.cab.station ⟨3, 0⟩ = some (fmStation 136) ∧
      (onAir.cab.chan .pc0).serving = some .t0 ∧ (onAir.cab.chan .pc0).retuning = false ∧
      selfProbing (onAir.cab.chan .pc0) = false ∧ onAir.cab.alloc.stopped = false ∧ (onAir.cab.chan .pc1).station = none) ∧
    (let s := editQueue (fun q => { q with voices := q.voices.set 0 (some { newVoice 0 with cadence := .on 3 }) })
       (putEntry 0 (anEntry (.chime 0) 2 1) up)
     s.cab.entryId 0 = ⟨0, 0⟩ ∧ voiceOf s.cab 0 = some 0 ∧
     s.cab.queue.voices.get 0 = some { newVoice 0 with cadence := .on 3 } ∧
     voiceOf (putEntry 0 (anEntry (.chime 0) 2 1) up).cab 0 = none) := by decide +kernel

/-- A build of Z0 in flight that keeps nothing of the plan, with Z3 stale. -/
def building : State := editBuilder (fun b => { b with
  job := some ⟨.z0, [⟨⟨0, 1, 0⟩, false, .media 1, .duck, .steps (-70)⟩], ⟨-6, false, -24, -40⟩⟩
  position := .z0
  stale := b.stale.set .z3 true }) settling

theorem witness_PlanBuildCompleteInstalls : building.cab.builder.job = some ⟨.z0,
      [⟨⟨0, 1, 0⟩, false, .media 1, .duck, .steps (-70)⟩], ⟨-6, false, -24, -40⟩⟩ ∧
    building.cab.builder.hold = .running ∧ building.Running ∧
    (zonesFrom building.cab.builder.position).find? (building.cab.builder.stale.get ·) = some .z3 ∧
    (zonesFrom settling.cab.builder.position).find? (settling.cab.builder.stale.get ·) = none ∧
    (building.cab.mixZone .z0).routes.length = 1 ∧ settling.cab.builder.job = none := by
  with_reducible and_intros <;> first | exact running_of (by decide +kernel) | decide +kernel

/-- S3 named by its handle; the watch set and lifted, with a priority at the end of its range. -/
theorem witness_KeepUnkeepAndTrafficWatch : onAir.Running ∧ finOf? 40 3 = some (3 : Fin 40) ∧
    stationOf onAir.cab 3 ⟨0, 3, 0⟩ = some (fmStation 136) ∧ NoDeferrals onAir.cab ∧ PrioritiesFit onAir.cab ∧
    onAir.cab.table.watch = none ∧ (∀ a, some (⟨0, 3, 0⟩ : Handle) = some a → finOf? 40 a.slot = some (3 : Fin 40) ∧
      (stationOf onAir.cab 3 a).isSome = true) ∧
    (∀ a : Handle, none = some a → finOf? 40 a.slot = some (3 : Fin 40) ∧ (stationOf onAir.cab 3 a).isSome = true) := by
  refine ⟨rfl, ?_, ?_, noDeferrals_of ?_, prioritiesFit_of ?_, ?_, ?_, ?_⟩ <;> decide +kernel

/-- The table with every slot taken by a CANDIDATE that nothing holds, the qualities falling with the slot. -/
def fullTable : State := editTable (fun v => { v with
  slots := Tab.build 40 fun i => ⟨0, some (newStation ⟨.fm, 100 + i.val⟩ (60 - i.val) .candidate .scan none)⟩
  position := ⟨.fm, 50⟩, dwell := some 40 }) up

/-- A frequency found at the end of its band (limited), one that is not with a slot free, and a full table; a record
that is held by its channel, and one that is not held. -/
theorem witness_AddAndRetireStation :
    (onAir.Running ∧ band? 0 = some .fm ∧ stationAtFreq onAir.cab ⟨.fm, 136⟩ = some 3) ∧
    (((410 : Nat) : Int) = max 0 (min 410 411) ∧ stationAtFreq onAir.cab ⟨.fm, 410⟩ = none ∧
      freeStationSlot onAir.cab = some 0) ∧
    (fullTable.Running ∧ band? 1 = some .mw ∧ ((119 : Nat) : Int) = max 0 (min 119 119) ∧
      stationAtFreq fullTable.cab ⟨.mw, 119⟩ = none ∧ freeStationSlot fullTable.cab = none) ∧
    (finOf? 40 3 = some (3 : Fin 40) ∧ stationOf onAir.cab 3 ⟨0, 3, 0⟩ = some (fmStation 136) ∧
      (onAir.cab.chan .pc0).station = some (onAir.cab.stationId 3)) ∧
    (let r := newStation ⟨.fm, 139⟩ 21 .candidate .scan none
     finOf? 40 39 = some (39 : Fin 40) ∧ stationOf fullTable.cab 39 ⟨0, 39, 0⟩ = some r ∧
     ¬ (0 < r.refs ∨ r.kept.front = true ∨ r.kept.rear = true ∨ r.watched = true ∨
      (fullTable.cab.chan .pc0).station = some (fullTable.cab.stationId 39) ∨
      (fullTable.cab.chan .pc1).station = some (fullTable.cab.stationId 39))) := by
  with_reducible and_intros <;> first | exact running_of (by decide +kernel) | decide +kernel

theorem witness_WalkStationsReturnsTheNextRecords : onAir.Running ∧ firstOfTwo? 0 = some true ∧
    firstOfTwo? 1 = some false := by
  refine ⟨rfl, ?_, ?_⟩ <;> decide

/-- A scanning part at a position. -/
def scanAt (f : Freq) (s : State) : State :=
  editTable (fun v => { v with position := f, dwell := none }) (editTuner .t1 (fun v => { v with role := .scan }) s)

/-- On S3's own channel; on a free FM and a free MW channel at 30 and below. -/
theorem witness_ScanMeasurementOutcome :
    (scanTuner (scanAt ⟨.fm, 136⟩ onAir).cab = some .t1 ∧ (scanAt ⟨.fm, 136⟩ onAir).cab.table.dwell = none ∧
      stationAtFreq (scanAt ⟨.fm, 136⟩ onAir).cab ⟨.fm, 136⟩ = some 3 ∧
      (nextFreq ⟨.fm, 136⟩).isSome = true ∧ (⟨.fm, 136⟩ : Freq) ≠ ⟨.mw, 119⟩) ∧
    (scanTuner (scanAt ⟨.fm, 410⟩ up).cab = some .t1 ∧ stationAtFreq (scanAt ⟨.fm, 410⟩ up).cab ⟨.fm, 410⟩ = none ∧
      (nextFreq ⟨.fm, 410⟩).isSome = true ∧ rawQuality .fm 0 ⟨34, 0, 0⟩ = 30 ∧ rawQuality .fm 0 ⟨33, 0, 0⟩ = 29) ∧
    (scanTuner (scanAt ⟨.mw, 118⟩ up).cab = some .t1 ∧ stationAtFreq (scanAt ⟨.mw, 118⟩ up).cab ⟨.mw, 118⟩ = none ∧
      (nextFreq ⟨.mw, 118⟩).isSome = true ∧ freeStationSlot (scanAt ⟨.mw, 118⟩ up).cab = some 0 ∧
      (⟨.mw, 118⟩ : Freq) ≠ ⟨.mw, 119⟩ ∧ rawQuality .mw 0 ⟨34, 0, 0⟩ = 30) := by decide +kernel

/-- The five ways to age a record, in slots 0 to 4, at the last channel of a pass. -/
def ageing : State :=
  scanAt ⟨.mw, 119⟩ (putStation 0 { fmStation 10 with isNew := true } (putStation 1 { fmStation 11 with isNew := false, received := true }
    (putStation 2 { fmStation 12 with isNew := false, miss := 1 } (putStation 3 { fmStation 13 with isNew := false, miss := 2, kept := ⟨true, false⟩ }
      (putStation 4 { fmStation 14 with isNew := false, miss := 2 } up)))))

/-- A full table in which slot 39 may be replaced, and one of quality 40 and above in which none may. -/
theorem witness_PassEndAndDwellEnd :
    (scanTuner ageing.cab = some .t1 ∧ ageing.cab.table.dwell = none ∧ ageing.cab.table.position = ⟨.mw, 119⟩ ∧
      stationAtFreq ageing.cab ⟨.mw, 119⟩ = none ∧ rawQuality .mw 0 ⟨33, 0, 0⟩ < 30) ∧
    ((ageing.cab.stationSlot 0).record.map (·.isNew) = some true ∧
      (ageing.cab.stationSlot 1).record.map (fun r => (r.isNew, r.received)) = some (false, true) ∧
      (ageing.cab.stationSlot 2).record.map (fun r => (r.isNew, r.received, r.miss + 1)) = some (false, false, 2) ∧
      (ageing.cab.stationSlot 3).record.map (fun r => (r.isNew, r.received, r.miss + 1)) = some (false, false, 3) ∧
      held ageing.cab 3 = true ∧
      (ageing.cab.stationSlot 4).record.map (fun r => (r.isNew, r.received, r.miss + 1)) = some (false, false, 3) ∧
      held ageing.cab 4 = false) ∧
    (fullTable.cab.table.dwell = some 40 ∧ NoDeferrals fullTable.cab ∧ fullTable.cab.table.position.band = .fm ∧
      stationAtFreq fullTable.cab ⟨.fm, 50⟩ = none ∧ freeStationSlot fullTable.cab = none ∧
      eachStation fullTable.cab (fun q => decide (q.state = .candidate)) = true ∧
      (List.finRange 40).all (fun j => !held fullTable.cab j &&
        (fullTable.cab.stationSlot j).record.all fun q => decide (j = 39) || decide (21 < q.quality)) = true ∧
      (fullTable.cab.stationSlot 39).record.map (·.quality) = some 21) ∧
    (let s := editTable (fun v => { v with dwell := some 21 }) fullTable
     s.cab.table.dwell = some 21 ∧ NoDeferrals s.cab ∧ freeStationSlot s.cab = none ∧
     eachStation s.cab (fun q => decide (21 ≤ q.quality)) = true) ∧
    up.cab.table.dwell = none := by
  with_reducible and_intros <;> first | exact noDeferrals_of (by decide +kernel) | decide +kernel

/-- T0 on PC0, with this acceptance state and this identity in S3's record. -/
def decodes (acc : Acceptance) (identity : Option Nat) : State :=
  editTuner .t0 (fun v => { v with acc := acc })
    (editChan .pc0 (fun v => { v with measured := true }) (putStation 3 { fmStation 136 with identity := identity, watched := true }
      (editTable (fun v => { v with watch := some ⟨⟨3, 0⟩, 4⟩ }) onAir)))

/-- An accepted code with segment 3 and flags received once; no code accepted; a run of one group of the code. -/
theorem witness_DataGroupsReachTheRecord :
    (let s := decodes { emptyAcceptance with accepted := some 4101,
                                             segments := emptyAcceptance.segments.set 3 (some (65#8, 66#8)),
                                             traffic := some ((true, false), false) } (some 4101)
     decoding s.cab .t0 = .onChan .pc0 ∧ (s.cab.chan .pc0).station = some ⟨3, 0⟩ ∧ (s.cab.stationSlot 3).gen = 0 ∧
     (s.cab.stationSlot 3).record.map (·.identity) = some (some 4101) ∧ NoDeferrals s.cab ∧ Settled s.cab ∧
     (s.cab.tuner .t0).acc.accepted = some 4101 ∧ (4101 : Nat) ≠ 0) ∧
    (let s := decodes emptyAcceptance none
     decoding s.cab .t0 = .onChan .pc0 ∧ NoDeferrals s.cab ∧ Settled s.cab ∧ (s.cab.tuner .t0).acc.accepted ≠ some 65535 ∧
     (s.cab.tuner .t0).acc.run.map (·.1) ≠ some 65535) ∧
    (let s := decodes { emptyAcceptance with run := some (1, false) } none
     decoding s.cab .t0 = .onChan .pc0 ∧ NoDeferrals s.cab ∧ Settled s.cab ∧ (s.cab.tuner .t0).acc.run.map (·.1) = some 1 ∧
     (s.cab.tuner .t0).acc.accepted ≠ some 1 ∧ (s.cab.stationSlot 3).record.map (·.identity) = some none ∧
     otherWithIdentity s.cab 3 1 = none) ∧
    decoding up.cab .t0 = .off ∧
    (let s := decodes { emptyAcceptance with accepted := some 4101, traffic := some ((true, true), false) } (some 4101)
     s.cab.station ⟨3, 0⟩ = some { fmStation 136 with identity := some 4101, watched := true } ∧
     chanOf s.cab ⟨3, 0⟩ = some .pc0 ∧ trafficEntry s.cab ⟨3, 0⟩ = none ∧ s.cab.queue.ignored = [] ∧
     (trafficTargets s.cab ⟨3, 0⟩).get .z0 = true ∧ (s.cab.entrySlot 0).entry = none ∧ NoDeferrals s.cab ∧ Settled s.cab) ∧
    (let s0 := decodes { emptyAcceptance with accepted := some 4101, traffic := some ((true, false), false) } (some 4101)
     let s := putEntry 0 { anEntry (.traffic ⟨3, 0⟩ .pc0) 3 1 with targets := trafficTargets s0.cab ⟨3, 0⟩ } s0
     trafficEntry s.cab ⟨3, 0⟩ = some 0 ∧ TrafficSettled s.cab ∧ NoDeferrals s.cab ∧ Settled s.cab) := by
  with_reducible and_intros <;> first
    | exact noDeferrals_of (by decide +kernel)
    | exact trafficSettled_of (by decide +kernel) (by decide +kernel) | (unfold Settled; decide +kernel) | decide +kernel

theorem routesDiffer_of {c : Cabin} (h : (List.finRange 8).all (fun l => (List.finRange 6).all fun j =>
    (List.finRange 6).all fun k => decide (j = k) || match (c.route l j).record, (c.route l k).record with
      | some a, some b => !a.present || !b.present || decide (a.source ≠ b.source)
      | _, _ => true) = true) : RoutesDiffer c := by
  intro l j k a b hjk ha hb pa pb
  have h1 := List.all_eq_true.mp (List.all_eq_true.mp (List.all_eq_true.mp h l (List.mem_finRange l)) j
    (List.mem_finRange j)) k (List.mem_finRange k)
  rw [ha, hb] at h1
  simpa [hjk, pa, pb] using h1

theorem alternatesFit_of {c : Cabin} (h : eachStation c (fun r => decide (r.alternates.length ≤ 6 ∧
    (r.alternates.map (·.chan)).Nodup ∧ r.freq.chan ∉ r.alternates.map (·.chan) ∧
    r.alternates.Pairwise fun a b => altBefore b a = false)) = true) : AlternatesFit c := by
  intro i r hr
  have hi := List.all_eq_true.mp h i (List.mem_finRange i)
  rw [hr] at hi
  exact of_decide_eq_true hi

theorem rolesFit_of {c : Cabin} (h : decide ((c.chan .pc0).serving.isSome = (c.chan .pc0).station.isSome ∧
      (c.chan .pc1).serving.isSome = (c.chan .pc1).station.isSome ∧
      ((c.chan .pc0).serving = none ∨ (c.chan .pc0).serving ≠ (c.chan .pc1).serving) ∧
      ((c.chan .pc0).diversity = true ∨ borrowing (c.chan .pc0) = true → (c.chan .pc1).station = none) ∧
      ((c.chan .pc1).diversity = true ∨ borrowing (c.chan .pc1) = true → (c.chan .pc0).station = none) ∧
      (c.tuner .t0).role = desiredRole c .t0 ∧ (c.tuner .t1).role = desiredRole c .t1 ∧
      ((c.tuner .t0).role = .scan → (c.tuner .t1).role ≠ .scan)) = true) : RolesFit c := by
  obtain ⟨a, b, d, e, f, g, i, j⟩ := of_decide_eq_true h
  refine ⟨fun x => by cases x <;> assumption, fun u hu hv => ?_, fun x => by cases x <;> assumption,
    fun u => by cases u <;> assumption, j⟩
  rcases d with d | d
  · exact absurd (hu.symm.trans d) (by simp)
  · exact d (hu.trans hv.symm)

/-- S7 is to merge into S3: S3 carried with six alternates, S7 not, and a route of L4 naming S7. -/
def mergeable : State :=
  putRoute 4 0 (aRoute (.station ⟨7, 0⟩)) (putStation 7 (fmStation 347) (putStation 3 { fmStation 136 with
    identity := some 4101, alternates := [⟨1, some 50⟩, ⟨2, some 40⟩, ⟨3, some 30⟩, ⟨4, none⟩, ⟨5, none⟩, ⟨6, none⟩] } onAir))

/-- S7 into S3 and S3 into S7, so that the record that goes is carried; and both carried. -/
theorem witness_IdentityMergeJoinsTwoRecords :
    ((mergeable.cab.stationSlot 7).record = some (fmStation 347) ∧ (fmStation 347).identity ≠ some 4101 ∧
      otherWithIdentity mergeable.cab 7 4101 = some 3 ∧
      (carried mergeable.cab (mergeable.cab.stationId 7) && carried mergeable.cab (mergeable.cab.stationId 3)) = false) ∧
    (let s := carry .pc1 .t1 7 347 mergeable
     (s.cab.stationSlot 7).record = some (fmStation 347) ∧ otherWithIdentity s.cab 7 4101 = some 3 ∧
     carried s.cab (s.cab.stationId 7) = true ∧ carried s.cab (s.cab.stationId 3) = true) ∧
    ((mergeable.cab.stationSlot 3).record.map (fun r => (r.freq, r.alternates.length)) = some (⟨.fm, 136⟩, 6) ∧
      (fmStation 347).freq = ⟨.fm, 347⟩ ∧ RoutesDiffer mergeable.cab ∧ AlternatesFit mergeable.cab ∧
      RolesFit mergeable.cab) ∧
    (carried mergeable.cab (mergeable.cab.stationId 7) = false ∧ carried mergeable.cab (mergeable.cab.stationId 3) = true) ∧
    (∀ x, (mergeable.cab.chan x).follow = none) ∧
    (mergeable.cab.route 4 0).record = some (aRoute (.station ⟨7, 0⟩)) ∧ mergeable.cab.ports.part.posts = true ∧
    PrioritiesFit mergeable.cab := by
  refine ⟨?_, ?_, ⟨?_, ?_, routesDiffer_of ?_, alternatesFit_of ?_, rolesFit_of ?_⟩, ?_, ?_, ?_, ?_, prioritiesFit_of ?_⟩ <;>
    first | decide +kernel | (intro x; cases x <;> decide +kernel)

/-- T0 on PC0 has received the code 4101 once on S3, and S7 holds it. -/
def receiving : State :=
  putStation 7 { fmStation 347 with identity := some 4101 } (decodes { emptyAcceptance with run := some (4101, false) } none)

/-- The scan, on T1, dwells on the channel of S3, having received the code once; S7 holds it. -/
def dwelling : State :=
  editTuner .t1 (fun v => { v with acc := { emptyAcceptance with run := some (4101, false) } })
    (editTable (fun v => { v with position := ⟨.fm, 136⟩, dwell := some 40 })
      (putStation 7 { fmStation 347 with identity := some 4101 } onAir))

/-- HOLDING; S3, carried and demanded by nothing, defers the identity that S7 holds. -/
def deferring : State :=
  inHold .holding (putStation 7 { fmStation 347 with identity := some 4101 }
    (putStation 3 { fmStation 136 with deferred := some 4101 } onAir))

/-- The commands that bring a merge about: S7 not carried, and carried; a dwell's end; the end of a deferral. -/
theorem witness_IdentityMergeJoinsTwoRecords_commands :
    (decoding receiving.cab .t0 = .onChan .pc0 ∧ (receiving.cab.chan .pc0).station = some ⟨3, 0⟩ ∧
      (receiving.cab.stationSlot 3).gen = 0 ∧ NoDeferrals receiving.cab ∧
      (receiving.cab.tuner .t0).acc.run.map (·.1) = some 4101 ∧ (receiving.cab.tuner .t0).acc.accepted ≠ some 4101 ∧
      (receiving.cab.stationSlot 3).record.map (·.identity) = some none ∧
      otherWithIdentity receiving.cab 3 4101 = some 7 ∧ carried receiving.cab (receiving.cab.stationId 7) = false) ∧
    (let s := putRoute 0 1 (aRoute (.station ⟨7, 0⟩)) (editTuner .t1 (fun v => { v with role := .programme })
        (editChan .pc1 (fun v => { v with station := some ⟨7, 0⟩, serving := some .t1 }) receiving))
     decoding s.cab .t0 = .onChan .pc0 ∧ NoDeferrals s.cab ∧ otherWithIdentity s.cab 3 4101 = some 7 ∧
     carried s.cab (s.cab.stationId 7) = true ∧ Settled s.cab) ∧
    (decoding dwelling.cab .t1 = .dwelling ∧ NoDeferrals dwelling.cab ∧
      (dwelling.cab.tuner .t1).acc.run.map (·.1) = some 4101 ∧ (dwelling.cab.tuner .t1).acc.accepted ≠ some 4101 ∧
      dwelling.cab.table.position.band = .fm ∧ stationAtFreq dwelling.cab dwelling.cab.table.position = some 3 ∧
      (dwelling.cab.stationSlot 3).record.map (·.identity) = some none ∧ otherWithIdentity dwelling.cab 3 4101 = some 7 ∧
      (carried dwelling.cab (dwelling.cab.stationId 3) && carried dwelling.cab (dwelling.cab.stationId 7)) = false) ∧
    (deferring.Running ∧ deferring.cab.builder.hold ≠ .running ∧
      (deferring.cab.stationSlot 3).record.map (fun r => (r.deferred, r.identity)) = some (some 4101, none) ∧
      (List.finRange 40).all (fun i => decide (i = 3) ||
        (deferring.cab.stationSlot i).record.all fun r => decide (r.deferred = none)) = true ∧
      otherWithIdentity deferring.cab 3 4101 = some 7 ∧
      (let c := arbitrate (markAllStale (setHold .running deferring.cab))
       (carried c (c.stationId 3) && carried c (c.stationId 7)) = false)) := by
  with_reducible and_intros <;> first
    | exact running_of (by decide +kernel) | exact noDeferrals_of (by decide +kernel)
    | (unfold Settled; decide +kernel) | decide +kernel

/-- S3 on T0 measured as the selected tuner, without diversity; and T1 measured as the DIVERSITY tuner. -/
theorem witness_MeasurementOfAChannel :
    (measuredChan onAir.cab .t0 = some .pc0 ∧ (onAir.cab.chan .pc0).station = some ⟨3, 0⟩ ∧
      onAir.cab.station ⟨3, 0⟩ = some (fmStation 136) ∧ selectedTuner (onAir.cab.chan .pc0) = some .t0 ∧
      (onAir.cab.chan .pc0).diversity = false ∧ (onAir.cab.chan .pc1).station = none ∧ (onAir.cab.chan .pc1).serving = none ∧
      (onAir.cab.chan .pc0).retuning = false ∧ smooth none (rawQuality .fm 0 ⟨57, 0, 0⟩) = 59 ∧
      (onAir.cab.tuner .t0).role = .programme ∧ (onAir.cab.tuner .t1).role ≠ .diversity) ∧
    (let s := editTuner .t1 (fun v => { v with role := .diversity }) (editChan .pc0 (fun v => { v with diversity := true }) onAir)
     measuredChan s.cab .t1 = some .pc0 ∧ (s.cab.chan .pc0).station = some ⟨3, 0⟩ ∧
     s.cab.station ⟨3, 0⟩ = some (fmStation 136) ∧ selectedTuner (s.cab.chan .pc0) = some .t0) := by decide +kernel

/-- S3 on the air and demanded at 4 through L0 beside S21 at 5 and S9 at 7, neither on the air; the arbitration gives
both a channel and S3 none. -/
def contested : State :=
  putStation 9 (fmStation 38) (putStation 21 (fmStation 40) (putEntry 0 (anEntry (.traffic ⟨3, 0⟩ .pc0) 3 1)
    (putRoute 0 0 (aRoute (.station ⟨3, 0⟩)) (putRoute 0 1 { aRoute (.station ⟨21, 0⟩) with priority := 5 }
      (putRoute 0 2 { aRoute (.station ⟨9, 0⟩) with priority := 7 } onAir)))))

theorem channelsDiffer_of {c : Cabin} (h : (c.chan .pc0).station = none ∨ (c.chan .pc0).station ≠ (c.chan .pc1).station) :
    ChannelsDiffer c := by
  intro x h0 h1
  rcases h with h | h
  · exact absurd (h0.symm.trans h) (by simp)
  · exact h (h0.trans h1.symm)

theorem witness_ArbitrationAssignsTheWinners :
    (contested.cab.builder.hold = .running ∧ contested.cab.ports.part ≠ .liteReset ∧ ChannelsDiffer contested.cab ∧ RolesFit contested.cab) ∧
    (carried (arbitrate contested.cab) ⟨9, 0⟩ = true ∧ carried (arbitrate contested.cab) ⟨21, 0⟩ = true ∧
      carried (arbitrate contested.cab) ⟨3, 0⟩ = false ∧ (contested.cab.station ⟨3, 0⟩).isSome = true ∧
      demand contested.cab ⟨3, 0⟩ = some 4 ∧ demand contested.cab ⟨21, 0⟩ = some 5 ∧ demand contested.cab ⟨9, 0⟩ = some 7) ∧
    (((arbitrate contested.cab).chan .pc0).station = some ⟨9, 0⟩ ∧ ((arbitrate contested.cab).chan .pc1).station = some ⟨21, 0⟩ ∧
      carried contested.cab ⟨9, 0⟩ = false ∧ carried contested.cab ⟨21, 0⟩ = false ∧
      (contested.cab.chan .pc0).station ≠ some ⟨9, 0⟩) ∧
    (chanOf (arbitrate contested.cab) ⟨9, 0⟩ ≠ chanOf contested.cab ⟨9, 0⟩ ∧ (contested.cab.zone .z0).list = some 0 ∧
      (contested.cab.route 0 2).record = some { aRoute (.station ⟨9, 0⟩) with priority := 7 }) ∧
    ((contested.cab.entrySlot 0).entry = some (anEntry (.traffic ⟨3, 0⟩ .pc0) 3 1) ∧
      carried contested.cab ⟨3, 0⟩ = true) ∧
    ((onAir.cab.chan .pc0).station ≠ none ∧ ((arbitrate onAir.cab).chan .pc0).station = none) ∧
    (let s := putRoute 0 0 (aRoute (.station ⟨3, 0⟩)) onAir
     (s.cab.chan .pc0).station = some ⟨3, 0⟩ ∧ carried (arbitrate s.cab) ⟨3, 0⟩ = true) ∧
    (inHold .pending onAir).cab.builder.hold ≠ .running ∧
    (newAssignment contested.cab ≠ ((contested.cab.chan .pc0).station, (contested.cab.chan .pc1).station) ∧
      PrioritiesFit contested.cab) := by
  with_reducible and_intros <;>
    first | exact prioritiesFit_of (by decide +kernel) | exact channelsDiffer_of (by decide +kernel) | exact rolesFit_of (by decide +kernel) | decide +kernel

/-- A retune in flight, and in LOW; diversity with the DIVERSITY tuner selected after 500 measurements, and after 499. -/
theorem witness_RetuneAndDiversityEnd :
    (let s := editChan .pc0 (fun v => { v with retuning := true }) onAir
     (s.cab.chan .pc0).retuning = true ∧ s.cab.alloc.stopped = false) ∧
    (onAir.cab.chan .pc0).retuning = false ∧
    (let s := editTuner .t1 (fun v => { v with role := .diversity })
       (editChan .pc0 (fun v => { v with diversity := true, partner := true, highRun := 500 }) onAir)
     (s.cab.chan .pc0).diversity = true ∧ 500 ≤ (s.cab.chan .pc0).highRun ∧ selectedTuner (s.cab.chan .pc0) = some .t1 ∧
     (s.cab.chan .pc1).serving = none ∧ (s.cab.chan .pc0).follow = none ∧ s.cab.ports.part.posts = true ∧
     (s.cab.tuner .t0).role ≠ .scan) ∧
    (let s := editChan .pc0 (fun v => { v with diversity := true, highRun := 499 }) onAir
     (s.cab.chan .pc0).highRun < 500) := by decide +kernel

/-- S3 with the alternates 7, 9 and 12 after 200 measurements below 25; another record has channel 7. -/
def failing : State :=
  editChan .pc0 (fun v => { v with followCount := 200, quality := 20 }) (putStation 8 (fmStation 7)
    (putStation 3 { fmStation 136 with alternates := [⟨7, none⟩, ⟨9, none⟩, ⟨12, none⟩] } onAir))

/-- A free second tuner and one that serves PC1; the first alternate skipped; and every alternate skipped. -/
theorem witness_FollowStartsOnAnAlternate :
    ((failing.cab.chan .pc0).station = some ⟨3, 0⟩ ∧ (failing.cab.station ⟨3, 0⟩).map (·.alternates.length) = some 3 ∧
      (failing.cab.chan .pc0).serving = some .t0 ∧ 200 ≤ (failing.cab.chan .pc0).followCount ∧
      (failing.cab.chan .pc0).follow = none ∧ (failing.cab.chan .pc0).retuning = false ∧ failing.cab.alloc.stopped = false ∧
      failing.cab.ports.part.posts = true ∧ (failing.cab.chan .pc1).serving ≠ some .t0 ∧
      (failing.cab.chan .pc1).serving = none) ∧
    (otherAtFreq failing.cab 3 ⟨.fm, 7⟩ = true ∧ otherAtFreq failing.cab 3 ⟨.fm, 9⟩ = false) ∧
    ((carry .pc1 .t1 5 60 failing).cab.chan .pc1).serving = some .t1 ∧
    (let s := putStation 9 (fmStation 9) (putStation 10 (fmStation 12) failing)
     otherAtFreq s.cab 3 ⟨.fm, 7⟩ = true ∧ otherAtFreq s.cab 3 ⟨.fm, 9⟩ = true ∧ otherAtFreq s.cab 3 ⟨.fm, 12⟩ = true) ∧
    (onAir.cab.chan .pc0).followCount < 200 := by decide +kernel

/-- A follow of PC0 on S3 at this place, in this phase, T1 tuned to the frequency it probes. -/
def following (borrows : Bool) (pos : Nat) (measured : List (Nat × Nat)) (phase : FollowPhase) (ch : Nat) : State :=
  editTuner .t1 (fun v => { v with role := if borrows then .followCheck else v.role, tuned := some ⟨.fm, ch⟩ })
    (editChan .pc0 (fun v => { v with follow := some ⟨borrows, [7, 9, 12], pos, measured, phase, 20⟩ }) failing)

/-- A probe with another to come; a last probe that wins, one beaten by an earlier one, and one too weak; a winner still
eligible and one that another record has; and no borrowing follow. -/
theorem witness_BorrowingFollowProbesAndDecides :
    (let s := following true 1 [] .probing 9
     borrowingChan s.cab = some .pc0 ∧ (s.cab.chan .pc0).station = some ⟨3, 0⟩ ∧ (s.cab.chan .pc0).serving = some .t0 ∧
     (s.cab.chan .pc0).follow = some ⟨true, [7, 9, 12], 1, [], .probing, 20⟩ ∧
     probeable (noteProbe ⟨3, 0⟩ 9 30 s.cab) ⟨3, 0⟩ 12 = true) ∧
    (let s := following true 2 [(9, 39)] .probing 12
     borrowingChan s.cab = some .pc0 ∧ (s.cab.tuner .t1).tuned = some ⟨.fm, 12⟩ ∧
     followWinner (noteProbe ⟨3, 0⟩ 12 40 s.cab) ⟨3, 0⟩ (s.cab.chan .pc0).quality [(9, 39), (12, 40)] = some (12, 40) ∧
     followWinner (noteProbe ⟨3, 0⟩ 12 39 s.cab) ⟨3, 0⟩ (s.cab.chan .pc0).quality [(9, 39), (12, 39)] = none) ∧
    (let s := following true 2 [(9, 41)] .probing 12
     followWinner (noteProbe ⟨3, 0⟩ 12 40 s.cab) ⟨3, 0⟩ (s.cab.chan .pc0).quality [(9, 41), (12, 40)] = some (9, 41)) ∧
    (let s := following true 3 [(9, 41), (12, 40)] (.tuningWinner 9) 9
     borrowingChan s.cab = some .pc0 ∧ probeable s.cab ⟨3, 0⟩ 9 = true ∧ probeable s.cab ⟨3, 0⟩ 7 = false ∧
     (s.cab.chan .pc1).serving = none) ∧
    borrowingChan failing.cab = none := by decide +kernel

/-- Between excursions with the first alternate skipped; an excursion with another to come; a last one that wins, and
one that does not; and no follow. -/
theorem witness_SelfProbingFollowMakesExcursions :
    (let s := following false 0 [] .serving 0
     (s.cab.chan .pc0).follow = some ⟨false, [7, 9, 12], 0, [], .serving, 20⟩ ∧ s.cab.alloc.stopped = false ∧
     probeable s.cab ⟨3, 0⟩ 9 = true ∧ probeable s.cab ⟨3, 0⟩ 7 = false) ∧
    (let s := following false 1 [] .away 0
     (s.cab.chan .pc0).follow = some ⟨false, [7, 9, 12], 1, [], .away, 20⟩ ∧ 1 + 1 < [7, 9, 12].length ∧
     (s.cab.station ⟨3, 0⟩).isSome = true ∧ (s.cab.chan .pc0).serving = some .t0) ∧
    (let s := following false 2 [(9, 39)] .away 0
     [7, 9, 12].length ≤ 2 + 1 ∧ s.cab.alloc.stopped = false ∧
     followWinner (noteProbe ⟨3, 0⟩ 12 40 s.cab) ⟨3, 0⟩ (s.cab.chan .pc0).quality [(9, 39), (12, 40)] = some (12, 40) ∧
     followWinner (noteProbe ⟨3, 0⟩ 12 39 s.cab) ⟨3, 0⟩ (s.cab.chan .pc0).quality [(9, 39), (12, 39)] = none) ∧
    (failing.cab.chan .pc0).follow = none := by decide +kernel

/-- An empty queue; full queues whose lowest entry is below and not below pattern 5's priority of 7; and a queue with
pattern 5 in it. -/
theorem witness_StartChimeQueuesOrRestarts :
    (up.Running ∧ finOf? 8 5 = some (5 : Fin 8) ∧ chimeTargets up.cab 5 none = some (ZoneSet.of Zone.all) ∧
      chimeTargets up.cab 5 (some 31) = some (PerZone.fill true) ∧ chimeEntry up.cab 5 = none ∧ TrafficSettled up.cab ∧
      (up.cab.entrySlot 0).entry = none) ∧
    (let s := fullQueue 6 (putEntry 0 (anEntry .nav 6 9) up)
     let q := editQueue (fun q => { q with slots := q.slots.set 5 ⟨0, some (anEntry .nav 6 3)⟩ }) s
     q.Running ∧ chimeEntry q.cab 5 = none ∧ TrafficSettled q.cab ∧
     (q.cab.entrySlot 0).entry = some (anEntry (.chime 0) 6 8) ∧ (q.cab.queue.patterns.get 5).priority = 7 ∧
     (List.finRange 8).all (fun j => (q.cab.entrySlot j).entry.any fun f => decide (j = 0 ∨ f.order < 8)) = true) ∧
    (let s := editQueue (fun q => { q with slots := q.slots.set 5 ⟨0, some (anEntry .nav 7 3)⟩ }) (fullQueue 7 up)
     s.Running ∧ chimeEntry s.cab 5 = none ∧ TrafficSettled s.cab ∧ (s.cab.queue.patterns.get 5).priority = 7 ∧
     (s.cab.entrySlot 0).entry = some (anEntry (.chime 0) 7 8)) ∧
    (chimeEntry (fullQueue 6 up).cab 5 = some 5 ∧
      ((fullQueue 6 up).cab.entrySlot 5).entry = some (anEntry (.chime 5) 6 3)) := by
  with_reducible and_intros <;> first
    | exact running_of (by decide +kernel) | exact trafficSettled_of (by decide +kernel) (by decide +kernel) | decide +kernel

theorem witness_NavPromptsAndPatterns :
    (up.Running ∧ zoneSet? 31 = some (PerZone.fill true) ∧ TrafficSettled up.cab ∧ navEntry up.cab = none ∧
      freeEntrySlot up.cab = some 0) ∧
    (let s := putEntry 7 (anEntry .nav 4 1) up
     s.Running ∧ TrafficSettled s.cab ∧ navEntry s.cab = some 7 ∧ (s.cab.entrySlot 7).entry = some (anEntry .nav 4 1)) ∧
    (finOf? 8 7 = some (7 : Fin 8) ∧ optOk zoneSet? (some 31) = true ∧ optOk zoneSet? none = true ∧
      chimeEntry (fullQueue 6 up).cab 7 = some 7) := by
  with_reducible and_intros <;> first
    | exact running_of (by decide +kernel) | exact trafficSettled_of (by decide +kernel) (by decide +kernel) | decide +kernel

/-- `refused` with every pattern of priority 6, as its CHIME entries are. -/
def waiting : State := editQueue (fun q => { q with
  patterns := Tab.build 8 fun n => { q.patterns.get n with priority := 6 } }) refused

/-- A prompt timed out or ended, a chime finished or cancelled, and a bulletin timed out; end lists of 0 and of 8 records; and
a bulletin that waits for an ending. -/
theorem witness_EndingAnEntry :
    (let s := putEntry 7 (anEntry .nav 4 1) up
     s.Running ∧ (s.cab.entrySlot 7).entry = some (anEntry .nav 4 1) ∧ TrafficSettled s.cab ∧ navEntry s.cab = some 7 ∧
     (anEntry .nav 4 1).kind.ofCall = false ∧ s.cab.queue.ends.length < 8) ∧
    (let s := editQueue (fun q => { q with voices := q.voices.set 1 (some { newVoice 0 with cadence := .finished }) })
       (putEntry 0 (anEntry (.chime 0) 2 1) up)
     (s.cab.entrySlot 0).entry = some (anEntry (.chime 0) 2 1) ∧ TrafficSettled s.cab ∧
     s.cab.queue.voices.get 1 = some { newVoice 0 with cadence := .finished }) ∧
    (let s := editQueue (fun q => { q with ends := List.replicate 8 ⟨⟨0, 0⟩, .nav, .requested, 0⟩ })
       (putEntry 0 { anEntry (.traffic ⟨3, 0⟩ .pc0) 3 1 with targets := trafficTargets onAir.cab ⟨3, 0⟩ } onAir)
     (s.cab.entrySlot 0).entry.map (·.kind) = some (.traffic ⟨3, 0⟩ .pc0) ∧ TrafficSettled s.cab ∧ s.cab.queue.ends.length = 8) ∧
    navEntry up.cab = none ∧ (up.cab.entrySlot 0).entry = none ∧ up.cab.queue.voices.get 0 = none ∧
    ((waiting.cab.entrySlot 7).entry = some (anEntry .nav 4 1) ∧ PrioritiesFit waiting.cab ∧
      EndsEntry waiting .navTimeout 7 (anEntry .nav 4 1) .timedOut ∧
      (waiting.cab.chan .pc0).station = some ⟨3, 0⟩ ∧ trafficCondition waiting.cab ⟨3, 0⟩ = true ∧
      trafficEntry waiting.cab ⟨3, 0⟩ = none ∧
      (List.finRange 8).all (fun j => decide ((waiting.cab.entrySlot j).entry ≠ none)) = true) := by
  with_reducible and_intros <;> first
    | exact prioritiesFit_of (by decide +kernel) | (unfold EndsEntry; exact Or.inl ⟨rfl, by decide +kernel, rfl⟩)
    | exact running_of (by decide +kernel) | exact trafficSettled_of (by decide +kernel) (by decide +kernel) | decide +kernel

/-- Periods at their least, 1 tick on, 0 off, and 1 and 0 repeats; an on-period with 2 ticks left. -/
theorem witness_CadencePlaysCycles : let p : Pattern := ⟨200, 1, 0, 1, 0, ZoneSet.none⟩
    1 ≤ p.on ∧ 1 ≤ p.repeats ∧ { p with repeats := 0 }.repeats = 0 ∧ 1 < 2 ∧
    up.cab.queue.voices.get 0 = none ∧
    (let s := editQueue (fun q => { q with voices := q.voices.set 0 (some (newVoice 0)) }) (putEntry 0 (anEntry (.chime 0) 2 1) up)
     s.cab.queue.voices.get 0 = some (newVoice 0) ∧ entryPattern (EntryKind.chime 0) = some 0 ∧
     (s.cab.entrySlot 0).entry = some (anEntry (.chime 0) 2 1)) := by decide +kernel

theorem callsFit_of {c : Cabin} (h : decide (¬ (callState c 0 = some .active ∧ callState c 1 = some .active) ∧
    (c.calls.canceller.state = .idle ↔ callState c 0 ≠ some .active ∧ callState c 1 ≠ some .active)) = true) :
    CallsFit c := by unfold CallsFit; exact of_decide_eq_true h

/-- No call and an empty queue; an ACTIVE call in C0; and a queue of eight entries at priority 6. -/
theorem witness_OpenCallRings :
    (up.Running ∧ openForm { listeners := some 31, level := some (-61), talker := some 2, joinable := some 1 } = true ∧
      openForm {} = true ∧ freeCallSlot up.cab = some 0 ∧ TrafficSettled up.cab ∧ CallsFit up.cab ∧
      freeEntrySlot up.cab = some 0) ∧
    ((inCall .tracking).Running ∧ freeCallSlot (inCall .tracking).cab = some 1 ∧ TrafficSettled (inCall .tracking).cab ∧
      CallsFit (inCall .tracking).cab ∧ callState (inCall .tracking).cab 0 = some .active) ∧
    (freeCallSlot (fullQueue 6 up).cab = some 0 ∧ TrafficSettled (fullQueue 6 up).cab ∧ CallsFit (fullQueue 6 up).cab ∧
      (List.finRange 8).all (fun j => ((fullQueue 6 up).cab.entrySlot j).entry.any fun e => decide (6 ≤ e.priority)) = true) := by
  with_reducible and_intros <;> first
    | exact running_of (by decide +kernel) | exact trafficSettled_of (by decide +kernel) (by decide +kernel)
    | exact callsFit_of (by decide +kernel) | decide +kernel

/-- C0 RINGING with its tone in A0 beside an ACTIVE C1; C0 ACTIVE; C0 HELD. -/
theorem witness_CallsMoveBetweenTheirStates :
    (let r := { aCall .ringing with tone := some ⟨0, 0⟩ }
     let s := putEntry 0 (anEntry (.ring ⟨0, 0⟩) 6 1) (putCall0 r (editCalls (fun v => { v with
       slots := v.slots.set 1 ⟨0, some (aCall .active)⟩, canceller := { idleCanceller with state := .tracking } }) up))
     s.Running ∧ finOf? 2 0 = some (0 : Fin 2) ∧ callOf s.cab 0 ⟨0, 0, 0⟩ = some r ∧ CallsFit s.cab ∧ r.state = .ringing ∧
     callState s.cab 1 = some .active ∧ (s.cab.entrySlot 0).gen = 0 ∧ (s.cab.entrySlot 0).entry.isSome = true ∧
     r.state ≠ .active ∧ r.state ≠ .held) ∧
    ((inCall .converging).Running ∧ callOf (inCall .converging).cab 0 ⟨0, 0, 0⟩ = some (aCall .active) ∧
      CallsFit (inCall .converging).cab ∧ (aCall .active).state = .active ∧ (aCall .active).state ≠ .ringing) ∧
    ((putCall0 (aCall .held) up).Running ∧ callOf (putCall0 (aCall .held) up).cab 0 ⟨0, 0, 0⟩ = some (aCall .held) ∧
      CallsFit (putCall0 (aCall .held) up).cab ∧ (aCall .held).state = .held ∧
      (putCall0 (aCall .held) up).cab.calls.canceller.state = .idle) := by
  with_reducible and_intros <;> first
    | exact running_of (by decide +kernel) | exact callsFit_of (by decide +kernel) | decide +kernel

/-- A joinable RINGING call with its tone in the queue; sets, levels and zones at the ends of their ranges. -/
theorem witness_CallSettingsTakeTheirValues :
    (let r := { aCall .ringing with tone := some ⟨7, 0⟩ }
     let s := putEntry 7 (anEntry (.ring ⟨0, 0⟩) 6 1) (putCall0 r up)
     s.Running ∧ finOf? 2 0 = some (0 : Fin 2) ∧ callOf s.cab 0 ⟨0, 0, 0⟩ = some r ∧
     zoneSet? 31 = some (PerZone.fill true) ∧ zoneSet? 0 = some ZoneSet.none ∧
     callForm { level := some 1, talker := some 2, uplinkMute := some 1, privacy := some 1, joinable := some 0 } = true ∧
     Zone.ofNat? 3 = some .z3 ∧ Zone.ofNat? 4 = some .z4 ∧ r.joinable = true ∧ r.privacy = false ∧
     (s.cab.entrySlot 7).entry = some (anEntry (.ring ⟨0, 0⟩) 6 1) ∧
     { r with listeners := PerZone.fill true } ≠ r ∧ concernsRear s.cab (some r) = true) := by
  with_reducible and_intros <;> first | exact running_of (by decide +kernel) | decide +kernel

/-- A canceller in this state at the end of a block with this run and these sums. -/
def blockEnd (e : EchoState) (run mic residual : Nat) : State :=
  editCalls (fun v => { v with canceller := { idleCanceller with
    state := e, run := run, samples := 3072, micSquares := mic, residualSquares := residual } }) (inCall e)

/-- ERLE of 36 and of 35 half-decibels in CONVERGING at the seventh and eighth run, of 12 in TRACKING, of 24 in
DOUBLE-TALK at the fourth; a quiet block; a block in progress; IDLE. -/
theorem witness_CancellerFollowsItsBlocks :
    (let v := (blockEnd .converging 7 (64 * 10 ^ 15) (10 ^ 15)).cab.calls.canceller
     v.state ≠ .idle ∧ 3072 ≤ v.samples ∧ 36 ≤ erle v ∧ 8 ≤ v.run + 1 ∧ ¬ v.micSquares * 10 ^ 7 < 3072 * 8388608 ^ 2) ∧
    (let v := (blockEnd .converging 6 (63 * 10 ^ 15) (10 ^ 15)).cab.calls.canceller
     erle v < 36 ∧ v.run + 1 < 8) ∧
    (let v := (blockEnd .tracking 0 (4 * 10 ^ 15) (10 ^ 15)).cab.calls.canceller
     12 ≤ erle v ∧ ¬ v.micSquares * 10 ^ 7 < 3072 * 8388608 ^ 2) ∧
    (erle (blockEnd .tracking 0 (3 * 10 ^ 15) (10 ^ 15)).cab.calls.canceller < 12) ∧
    (let v := (blockEnd .doubleTalk 3 (16 * 10 ^ 15) (10 ^ 15)).cab.calls.canceller
     24 ≤ erle v ∧ 4 ≤ v.run + 1) ∧
    (erle (blockEnd .doubleTalk 2 (15 * 10 ^ 15) (10 ^ 15)).cab.calls.canceller < 24) ∧
    (let v := (blockEnd .tracking 0 0 0).cab.calls.canceller
     v.residualSquares = 0 ∧ v.micSquares * 10 ^ 7 < 3072 * 8388608 ^ 2) ∧
    (inCall .tracking).cab.calls.canceller.samples < 3072 ∧ up.cab.calls.canceller.state = .idle := by decide +kernel

/-- On and off; a line seen asserted, and released with the after-LOW watch set; and a line seen as it was. -/
theorem witness_MuteLineAndItsCauses : up.Running ∧ firstOfTwo? 0 = some true ∧ firstOfTwo? 1 = some false ∧
    up.cab.ports.part.posts = true ∧ up.ring.lineSeen ≠ true ∧
    (let s := editSupply (fun v => { v with afterLow := true }) (editRing (fun g => { g with lineSeen := true }) up)
     s.cab.ports.part.posts = true ∧ s.ring.lineSeen ≠ false ∧ s.supply.afterLow = true) ∧
    up.ring.lineSeen = false ∧ (inPart .held).cab.ports.part = .held := by
  with_reducible and_intros <;> first | exact running_of (by decide +kernel) | decide +kernel

/-- LOCKING after 96 and after 95 good frames; UP after 4 and after 3 bad ones, with a node carrying Z0 FL and with none;
a position polled and one that is not ABSENT. -/
theorem witness_RingLocksPollsAndFalls :
    (let s := editRing (fun g => { g with state := .locking, goodFrames := 96 }) up
     s.ring.state = .locking ∧ 96 ≤ s.ring.goodFrames ∧ s.cab.ports.part.posts = true) ∧
    (editRing (fun g => { g with state := .locking, goodFrames := 95 }) up).ring.goodFrames < 96 ∧
    (let s := editRing (fun g => { g with badFrames := 4, placement := g.placement.set 0 ⟨some (0, 0), .carried⟩ }) (withNode .running)
     s.ring.state = .up ∧ 4 ≤ s.ring.badFrames ∧ s.cab.ports.part.posts = true ∧ (s.node 0).state = .running ∧
     carriedOn s.ring 0 0 = true) ∧
    (let s := editRing (fun g => { g with badFrames := 4 }) (withNode .running)
     (List.finRange 14).all (fun z => !carriedOn s.ring 0 z) = true ∧ 4 ≤ s.ring.badFrames) ∧
    (editRing (fun g => { g with badFrames := 3 }) (withNode .running)).ring.badFrames < 4 ∧
    (let s := editNode 5 (fun n => { n with sent := some .poll }) (withNode .running)
     s.ring.state = .up ∧ (s.node 5).state = .absent ∧ (s.node 5).sent = some .poll ∧ s.cab.ports.part.posts = true) ∧
    ((withNode .running).node 0).state ≠ .absent := by decide +kernel

/-- Eight and seven corrupt words; Restart Node of a RUNNING node and of an ABSENT one. -/
theorem witness_NodesAreLostAndRestarted :
    (let s := editRing (fun g => { g with placement := g.placement.set 0 ⟨some (0, 0), .carried⟩ })
       (editNode 0 (fun n => { n with corrupt := 8 }) (withNode .running))
     s.cab.ports.part.posts = true ∧ (s.node 0).state ≠ .absent ∧ 8 ≤ (s.node 0).corrupt ∧ (s.node 0).state = .running ∧
     carriedOn s.ring 0 0 = true) ∧
    ((withNode .fault).Running ∧ ((withNode .fault).node 0).state ≠ .absent ∧ ((withNode .fault).node 0).state ≠ .running) ∧
    ((editNode 0 (fun n => { n with corrupt := 7 }) (withNode .running)).node 0).corrupt < 8 ∧
    ((withNode .running).Running ∧ ((withNode .running).node 5).state = .absent) := by
  with_reducible and_intros <;> first | exact running_of (by decide +kernel) | decide +kernel

/-- A node that has sent its BASE page for one channel; and one that has sent none, with retries left and without. -/
theorem witness_AbilityExchangeTakesItsPages :
    (let n := (editNode 0 (fun n => { n with channels := some 1, pages := 1, toggle := true }) (withNode .exchanging)).node 0
     n.state = .exchanging ∧ (∃ m, PageKind.channel 0 = .channel m ∧ 1 ≤ n.pages ∧ m + 1 = n.pages ∧
       ((false : Bool) = true ↔ n.channels ≠ some n.pages)) ∧ n.retry < 3) ∧
    (let n := (editNode 0 (fun n => { n with channels := some 8, pages := 1, toggle := true }) (withNode .exchanging)).node 0
     (∃ m, PageKind.channel 0 = .channel m ∧ 1 ≤ n.pages ∧ m + 1 = n.pages ∧
       ((true : Bool) = true ↔ n.channels ≠ some n.pages))) ∧
    (let n := (withNode .discovered).node 0
     n.state = .discovered ∧ n.toggle = false ∧ (∃ k c l, PageKind.base (some .subAmp) 8 7 = .base (some k) c l ∧ n.pages = 0 ∧
       1 ≤ c ∧ c ≤ 8 ∧ (true : Bool) = true)) ∧
    ((editNode 0 (fun n => { n with retry := 3 }) (withNode .discovered)).node 0).retry = 3 := by
  refine ⟨⟨?_, ⟨0, ?_⟩, ?_⟩, ⟨0, ?_⟩, ⟨?_, ?_, ⟨.subAmp, 8, 7, ?_⟩⟩, ?_⟩ <;> decide +kernel

/-- CONFIGURING with a page out, with the final page out, with retries left and without; RUNNING with and without a
channel carried; FAULT by report; and a state out of each place. -/
theorem witness_ConfigurationAndStatusReports :
    (let n := (editNode 0 (fun n => { n with sent := some (.configPage 0), config := [some 0] }) (withNode .configuring)).node 0
     n.state = .configuring ∧ n.sent = some (.configPage 0) ∧ n.retry < 3) ∧
    (let n := (editNode 0 (fun n => { n with sent := some .finalPage, retry := 3 }) (withNode .configuring)).node 0
     n.state = .configuring ∧ n.sent = some .finalPage ∧ n.retry = 3) ∧
    ((withNode .running).node 0).state ≠ .configuring ∧
    ((withNode .running).cab.ports.part.posts = true ∧ ((withNode .running).node 0).state = .running ∧
      (List.finRange 14).all (fun z => !carriedOn (withNode .running).ring 0 z) = true) ∧
    carriedOn (editRing (fun g => { g with placement := g.placement.set 9 ⟨some (0, 7), .carried⟩ }) (withNode .running)).ring 0 9
      = true ∧
    (let n := (editNode 0 (fun n => { n with fault := some .reported }) (withNode .fault)).node 0
     n.state = .fault ∧ n.fault = some .reported) ∧
    (((withNode .fault).node 0).state ≠ .running ∧ ((withNode .fault).node 0).fault ≠ some .reported) ∧
    (((withNode .absent).node 0).state ≠ .discovered ∧ ((withNode .absent).node 0).state ≠ .exchanging) ∧
    ((withNode .configuring).node 0).toggle = false := by decide +kernel

/-- The part with this supply state and previous sample. -/
def supplied (v : SupplyState) (previous : Option Nat) (s : State) : State :=
  editSupply (fun x => { x with state := v, previous := previous }) s

/-- NORMAL at 5000, 5999, 6000 and 6999 mV; a crossing above 9000 mV from DIP and from LOW with S3 carried; the first
sample. -/
theorem witness_SupplySamplesMoveTheState :
    (let s := supplied .normal (some 12000) onAir
     s.cab.ports.part ≠ .held ∧ s.supply.previous = some 12000 ∧ 5000 ≤ 5000 ∧ 5999 < 6000 ∧ ¬ 6000 < 6000 ∧ 6999 < 7000 ∧
     s.supply.state ≠ .low) ∧
    (let s := supplied .dip (some 9000) onAir
     s.supply.previous = some 9000 ∧ 9000 < 9001 ∧ 9000 ≤ 9000 ∧ s.supply.state = .dip) ∧
    (let s := supplied .low (some 9000) onAir
     s.supply.state = .low ∧ (s.cab.chan .pc0).station = some ⟨3, 0⟩ ∧ s.cab.station ⟨3, 0⟩ = some (fmStation 136) ∧
     (s.cab.chan .pc0).serving = some .t0 ∧ (s.cab.chan .pc1).serving ≠ some .t0) ∧
    (up.cab.ports.part ≠ .held ∧ up.supply.previous = none ∧ up.supply.state = .normal ∧ 9000 ≤ 9000 ∧ ¬ 9000 ≤ 8999) := by
  decide +kernel

/-- Each supply state in which a timer does something, with a window over 9000 mV and under it. -/
theorem witness_SupplyTimersAndExpectDip :
    (supplied .settle none up).supply.state = .settle ∧ up.supply.state ≠ .settle ∧
    (let s := editSupply (fun v => { v with crank := -1 }) (supplied .recover none up)
     s.supply.state = .recover ∧ -1 ≤ s.supply.crank) ∧
    (let s := editSupply (fun v => { v with crank := -36 }) (supplied .recover none up)
     s.supply.state = .recover ∧ s.supply.crank = -36 ∧ s.supply.crank < -1 ∧ 36 ≤ 36) ∧
    up.supply.state ≠ .recover ∧
    (let s := editSupply (fun v => { v with window := true }) (supplied .dip (some 9000) up)
     s.supply.window = true ∧ s.supply.previous = some 9000 ∧ 9000 ≤ 9000 ∧ s.supply.state ≠ .settle) ∧
    (let s := editSupply (fun v => { v with window := true }) (supplied .dip (some 8999) up)
     s.supply.previous = some 8999 ∧ 8999 < 9000) ∧
    up.supply.window = false ∧ up.Running ∧ up.supply.state = .normal ∧ (supplied .dip none up).supply.state ≠ .normal := by
  with_reducible and_intros <;> first | exact running_of (by decide +kernel) | decide +kernel

/-- 4999 mV out of reset; held; 5000 mV in reset; STARTING with a valid image and with one whose check word is wrong. -/
theorem witness_ResetsAndStartUp : 4999 < 5000 ∧ up.cab.ports.part ≠ .held ∧ (inPart .held).cab.ports.part = .held ∧
    5000 ≤ 5000 ∧ (inPart .starting).cab.ports.part = .starting ∧
    ([2#16, 0xFFFF#16].foldl (· + ·) 0 = 1#16) ∧ ([2#16, 0xFFFF#16].foldl (· + ·) 0 ≠ 0#16) ∧
    (∀ x, ((inPart .starting).cab.chan x).serving = none) ∧ (∀ u, ((inPart .starting).cab.tuner u).role = .idle) ∧
    (inPart .starting).cab.alloc.stopped = false ∧ (inPart .starting).ring.state = .down ∧
    (inPart .starting).cab.builder.hold = .running ∧ up.cab.ports.part ≠ .starting := by
  refine ⟨?_, ?_, ?_, ?_, ?_, ?_, ?_, ?_, ?_, ?_, ?_, ?_, ?_⟩ <;>
    first | decide +kernel | (intro x; cases x <;> decide +kernel)

/-- A ramp tick waits in a part with S3 on the air. -/
def ticking : State := { onAir with pending := [.rampTick] }

theorem step_next {s t : State} {c : Instr} {rest : List Instr} (hp : s.pending = c :: rest)
    (h : exec c { s with pending := rest } = .next t) : step s = .next t := by
  unfold step
  rw [hp]
  exact h

theorem ticking_steps : step ticking = .next (after .rampTick { ticking with pending := [] }) :=
  step_next (c := .rampTick) (rest := []) rfl (exec_after (by decide +kernel))

/-- A step from a part whose channel 0 is carried, with every one of these invariants holding before it. -/
theorem witness_EveryStepKeepsTheModes : step ticking = .next (after .rampTick { ticking with pending := [] }) ∧
    SupplyFits ticking.supply ∧ MuteFits ticking.ring ∧ HoldFits ticking.cab ∧ CallsFit ticking.cab ∧
    ChannelsDiffer ticking.cab ∧ RolesFit ticking.cab := by
  refine ⟨ticking_steps, ⟨rfl, by decide⟩, rfl, fun _ => rfl, callsFit_of ?_, channelsDiffer_of ?_, rolesFit_of ?_⟩ <;>
    decide +kernel

/-- One record, with three alternates in order: measured, then not. -/
theorem witness_EveryStepKeepsTheStationTable : AlternatesFit failing.cab ∧
    (failing.cab.station ⟨3, 0⟩).map (·.alternates.length) = some 3 ∧ StationsDiffer onAir.cab := by
  refine ⟨alternatesFit_of ?_, ?_, ?_⟩
  · decide +kernel
  · decide +kernel
  · intro i j a b hij ha hb
    have key : ∀ k : Fin 40, (onAir.cab.stationSlot k).record.isSome = true → k = 3 := by decide +kernel
    exact absurd ((key i (by rw [ha]; rfl)).trans (key j (by rw [hb]; rfl)).symm) hij

/-- One route, that names S3, which has one reference. -/
def referenced : State :=
  putRoute 0 0 (aRoute (.station ⟨3, 0⟩)) (putStation 3 { fmStation 136 with refs := 1 } onAir)

theorem witness_EveryStepKeepsTheDirectory : RoutesDiffer referenced.cab ∧ RefsMatch referenced.cab := by
  refine ⟨routesDiffer_of (by decide +kernel), fun i r hr => ?_, fun l k r h hr hs => ?_⟩
  · have key : (List.finRange 40).all (fun i => (referenced.cab.stationSlot i).record.all fun r => decide (r.refs =
        routeKeys.countP fun x => decide ((referenced.cab.route x.1 x.2).record.map (·.source) =
          some (.station (referenced.cab.stationId i))))) = true := by decide +kernel
    have hi := List.all_eq_true.mp key i (List.mem_finRange i)
    rw [hr] at hi
    exact of_decide_eq_true hi
  · have key : (List.finRange 8).all (fun l => (List.finRange 6).all fun k => (referenced.cab.route l k).record.all fun r =>
        decide (r.source = .station ⟨3, 0⟩)) = true := by decide +kernel
    have hi := List.all_eq_true.mp (List.all_eq_true.mp key l (List.mem_finRange l)) k (List.mem_finRange k)
    rw [hr] at hi
    have hc : r.source = .station ⟨3, 0⟩ := of_decide_eq_true hi
    have hh : h = ⟨3, 0⟩ := by
      rw [hs] at hc
      exact Source.station.inj hc
    rw [hh]
    decide +kernel

/-- The route is PLAYING, as it is derived: its station is on the air and Z0 and Z1 are present. -/
theorem witness_EveryStepKeepsRouteStatesDerived : StatesDerived referenced.cab ∧
    ((referenced.cab.zone .z0).present = true ∧ (referenced.cab.zone .z0).list = some 0 ∧
      (referenced.cab.chan .pc0).station = some ⟨3, 0⟩ ∧ (referenced.cab.chan Chan.pc0.other).station ≠ some ⟨3, 0⟩) ∧
    (∀ x, (referenced.cab.chan x).station ≠ some ⟨4, 0⟩) ∧ (∀ z, (referenced.cab.zone z).list ≠ some 7) := by
  refine ⟨?_, by decide +kernel, fun x => by cases x <;> decide +kernel, fun z => by cases z <;> decide +kernel⟩
  intro l k r hr
  have key : (List.finRange 8).all (fun l => (List.finRange 6).all fun k => (referenced.cab.route l k).record.all fun r =>
      decide (r.state = routeState referenced.cab l r)) = true := by decide +kernel
  have hi := List.all_eq_true.mp (List.all_eq_true.mp key l (List.mem_finRange l)) k (List.mem_finRange k)
  rw [hr] at hi
  exact of_decide_eq_true hi

/-- A prompt in Z0 and Z2 and a chime above it, which holds voice 0. -/
def announcing : State := after (.startChime .front 4 none) (after (.startNav .front 5) up)

theorem witness_EveryStepKeepsTheMixWithinItsNumbers : MixFits settling.cab ∧ OverlaysDiffer announcing.cab ∧
    OverlaysDiffer settling.cab ∧ (settling.cab.mixZone .z0).routes.length = 1 := by
  refine ⟨⟨fun z => by cases z <;> decide +kernel, fun j hj => ?_⟩, fun z => by cases z <;> decide +kernel,
    fun z => by cases z <;> decide +kernel, ?_⟩
  · have h : settling.cab.builder.job = none := by decide +kernel
    rw [h] at hj
    exact absurd hj (by simp)
  · decide +kernel

theorem entry_key {c : Cabin} {f : Fin 8 → Entry → Bool}
    (h : (List.finRange 8).all (fun i => (c.entrySlot i).entry.all (f i)) = true) {i : Fin 8} {e : Entry}
    (he : (c.entrySlot i).entry = some e) : f i e = true := by
  have hi := List.all_eq_true.mp h i (List.mem_finRange i)
  rwa [he] at hi

/-- The queue of the worked example of 06 after its step 3, but for the bulletin. -/
theorem witness_EveryStepKeepsTheQueueAndItsSound : EntriesDiffer announcing.cab ∧ PrioritiesFit announcing.cab ∧
    AudibleFits announcing.cab ∧ VoicesFit announcing.cab := by
  refine ⟨fun i j a b hij ha hb => ?_, fun i e he => ?_, fun z => ?_, ?_, ?_, ?_⟩
  · have key : (List.finRange 8).all (fun i => (announcing.cab.entrySlot i).entry.all fun a => decide
        ((i = 0 ∧ a.kind = .nav) ∨ (i = 1 ∧ a.kind = .chime 4))) = true := by decide +kernel
    have ka := of_decide_eq_true (entry_key (f := fun i a => decide ((i = 0 ∧ a.kind = .nav) ∨ (i = 1 ∧ a.kind = .chime 4))) key ha)
    have kb := of_decide_eq_true (entry_key (f := fun i a => decide ((i = 0 ∧ a.kind = .nav) ∨ (i = 1 ∧ a.kind = .chime 4))) key hb)
    rcases ka with ⟨rfl, ka⟩ | ⟨rfl, ka⟩ <;> rcases kb with ⟨rfl, kb⟩ | ⟨rfl, kb⟩ <;> simp_all
  · have key : (List.finRange 8).all (fun i => (announcing.cab.entrySlot i).entry.all fun e => decide (e.priority =
        match e.kind with
        | .chime n => (announcing.cab.queue.patterns.get n).priority
        | .nav => 4
        | .traffic _ _ => 3
        | .ring _ => 6
        | .waiting _ => 6)) = true := by decide +kernel
    exact of_decide_eq_true (entry_key (f := fun _ e => decide (e.priority =
        match e.kind with
        | .chime n => (announcing.cab.queue.patterns.get n).priority
        | .nav => 4
        | .traffic _ _ => 3
        | .ring _ => 6
        | .waiting _ => 6)) key he)
  · refine ⟨by cases z <;> decide +kernel, fun hn i e he => ?_, fun a ha => ?_, ?_, ?_⟩
    · have key : (List.finRange 8).all (fun i => (announcing.cab.entrySlot i).entry.all fun e =>
          decide ((announcing.cab.mixZone z).audible = none → eligible announcing.cab z e = false)) = true := by
        cases z <;> decide +kernel
      exact of_decide_eq_true (entry_key (f := fun _ e =>
        decide ((announcing.cab.mixZone z).audible = none → eligible announcing.cab z e = false)) key he) hn
    · have ka : a = ⟨⟨1, 0⟩, .chime⟩ := by
        have kz : (announcing.cab.mixZone z).audible = none ∨
            (announcing.cab.mixZone z).audible = some ⟨⟨1, 0⟩, .chime⟩ := by cases z <;> decide +kernel
        rcases kz with kz | kz <;> simp_all
      have kx : (announcing.cab.entrySlot 1).entry.any (fun e => decide (AudibleKind.chime = audibleKind e.kind ∧
          ((announcing.cab.mixZone z).audible ≠ none → eligible announcing.cab z e = true) ∧
          (List.finRange 8).all (fun j => (announcing.cab.entrySlot j).entry.all fun f =>
            !eligible announcing.cab z f || !outranks f e) = true)) = true := by cases z <;> decide +kernel
      obtain ⟨e, he, hx⟩ : ∃ e, (announcing.cab.entrySlot 1).entry = some e ∧
          decide (AudibleKind.chime = audibleKind e.kind ∧
          ((announcing.cab.mixZone z).audible ≠ none → eligible announcing.cab z e = true) ∧
          (List.finRange 8).all (fun j => (announcing.cab.entrySlot j).entry.all fun f =>
            !eligible announcing.cab z f || !outranks f e) = true) = true := by
        cases he : (announcing.cab.entrySlot 1).entry with
        | none => rw [he] at kx; exact absurd kx (by simp)
        | some e => rw [he] at kx; exact ⟨e, rfl, kx⟩
      obtain ⟨h1, h2, h3⟩ := of_decide_eq_true hx
      subst ka
      refine ⟨by decide +kernel, e, he, h1, h2 (by rw [ha]; simp), fun j f hf hef => ?_⟩
      have := entry_key (f := fun _ f => !eligible announcing.cab z f || !outranks f e) h3 hf
      simpa [hef] using this
    · cases z <;> decide +kernel
    · cases z <;> decide +kernel
  · have key : (List.finRange 2).all (fun v => (announcing.cab.queue.voices.get v).all fun x =>
        voiceCandidate announcing.cab x.slot) = true := by decide +kernel
    intro v x hx
    have hv := List.all_eq_true.mp key v (List.mem_finRange v)
    rwa [hx] at hv
  · intro x _ y hy
    exact absurd hy (by rw [show announcing.cab.queue.voices.get 1 = none by decide +kernel]; simp)
  · intro i e he hc hv
    have key : (List.finRange 8).all (fun i => !voiceCandidate announcing.cab i || decide (voiceOf announcing.cab i ≠ none))
        = true := by decide +kernel
    have hi := List.all_eq_true.mp key i (List.mem_finRange i)
    simp [hc, hv] at hi

/-- The rear parks its own route of L3. -/
theorem witness_TheRearPortCannotChange : requestPort (.park .rear ⟨3, 5, 0⟩) = some .rear ∧ NoDeferrals routed.cab ∧
    exec (.park .rear ⟨3, 5, 0⟩) routed = .next (after (.park .rear ⟨3, 5, 0⟩) routed) ∧
    rearChangeable routed.cab .z0 = false ∧ rearMayChangeList routed.cab 0 = false ∧
    ((after (.park .rear ⟨3, 5, 0⟩) routed).cab.route 3 5).record.map (·.present) = some false := by
  refine ⟨rfl, noDeferrals_of ?_, exec_after ?_, ?_, ?_, ?_⟩ <;> decide +kernel

/-- A call that concerns the rear, and one that does not. -/
theorem witness_ReadsReturnTheFields : up.Running ∧ finOf? 8 7 = some (7 : Fin 8) ∧
    ((putCall0 (aCall .held) up).Running ∧ finOf? 2 0 = some (0 : Fin 2) ∧
      callOf (putCall0 (aCall .held) up).cab 0 ⟨0, 0, 0⟩ = some (aCall .held) ∧ (aCall .held).joinable = true) ∧
    (let r := { aCall .held with joinable := false }
     (putCall0 r up).Running ∧ callOf (putCall0 r up).cab 0 ⟨0, 0, 0⟩ = some r ∧ r.joinable = false ∧ r.privacy = false ∧
     Zone.all.all (fun z => !r.listeners.get z || !rearChangeable (putCall0 r up).cab z) = true) := by
  with_reducible and_intros <;> first | exact running_of (by decide +kernel) | decide +kernel


/-! The clauses whose premises the theorems above do not meet: each with the statement's name and the clause. -/

/-- Scanning on T1, with both tuners on stations, and in LOW: a lite reset's end that has S3 to release. -/
theorem witness_LiteResetStartsAndEnds_release :
    let out (s : State) : State := editPorts (fun v => { v with part := .liteReset }) s
    let low (s : State) : State := s.onCab fun c => { c with alloc := { c.alloc with stopped := true } }
    let both := carry .pc1 .t1 5 60 onAir
    let idle := low (editTuner .t1 (fun v => { v with role := .idle }) onAir)
    ((∀ l k, ((out onAir).cab.route l k).record = none) ∧ (out onAir).cab.table.watch = none ∧
      (out onAir).cab.builder.hold = .running ∧ RolesFit (out onAir).cab ∧ ((out onAir).cab.chan .pc0).station ≠ none ∧
      (out onAir).cab.alloc.stopped = false ∧ ((out onAir).cab.tuner .t1).role = .scan) ∧
    (RolesFit (out both).cab ∧ (∀ u, ((out both).cab.tuner u).role ≠ .scan) ∧ (out both).cab.alloc.stopped = false) ∧
    ((out idle).cab.alloc.stopped = true ∧ RolesFit (out idle).cab ∧ ((out idle).cab.chan .pc0).station ≠ none) := by
  with_reducible and_intros <;> first
    | exact rolesFit_of (by decide +kernel) | decide +kernel | (intro u; cases u <;> decide +kernel)

/-- The rear asks for the gain its route has. -/
theorem witness_AlterRouteChangesTheNamedFields_same : routed.Running ∧ alterForm { gain := some 0 } = true ∧
    optSource routed.cab (.media 0) none = some (.media 0) ∧
    alterDenied routed.cab .rear 3 (aRoute (.media 0)) { gain := some 0 } = false ∧
    alteredRecord (aRoute (.media 0)) (.media 0) { gain := some 0 } = aRoute (.media 0) := by
  with_reducible and_intros <;> first | exact running_of (by decide +kernel) | decide +kernel

/-- Release Hold with no build in flight. -/
theorem witness_EnterAndReleaseHold_build : (inHold .holding routed).Running ∧
    (inHold .holding routed).cab.builder.job = none ∧
    (zonesFrom (inHold .holding routed).cab.builder.position).head? = some .z0 := by
  with_reducible and_intros <;> first | exact running_of (by decide +kernel) | decide +kernel

/-- Under HOLD-PENDING a data group for S3, which stays in its slot, on its channel. -/
theorem witness_HoldKeepsPlansAndAssignment_dataGroup :
    let s := inHold .pending (decodes { emptyAcceptance with run := some (4101, false) } none)
    let i := Instr.dataGroup .t0 ⟨4101, true, .ident true true⟩
    HoldFits s.cab ∧ s.cab.builder.hold ≠ .running ∧ exec i s = .next (after i s) ∧
    (after i s).cab.builder.hold ≠ .running ∧ (s.cab.chan .pc0).station = some ⟨3, 0⟩ ∧ (s.cab.chan .pc1).station = none ∧
    ((after i s).cab.stationSlot 3).gen = (s.cab.stationSlot 3).gen := by
  refine ⟨fun _ => rfl, ?_, exec_after ?_, ?_, ?_, ?_, ?_⟩ <;> decide +kernel

/-- A build of Z0 that keeps L0.0 on MEDIA0, takes L0.1 back and lets L0.2 go, which no other build has let go. -/
def rebuilding : State := editBuilder (fun b => { b with
    job := some ⟨.z0, [⟨⟨0, 0, 0⟩, false, .media 0, .duck, .steps (-60)⟩, ⟨⟨0, 1, 0⟩, false, .media 1, .duck, .steps (-70)⟩],
      ⟨-6, false, -24, -40⟩⟩, position := .z0 })
  (editMix .z0 (fun m => { m with
    recorded := some ⟨-6, false, -24, -40⟩
    routes := [⟨⟨0, 0, 0⟩, false, .media 0, .duck, .steps (-60), .steps (-60), false, false⟩,
               ⟨⟨0, 2, 0⟩, false, .media 2, .duck, .steps (-60), .steps (-80), false, false⟩]
    leaving := [⟨⟨0, 1, 0⟩, false, .media 1, .duck, .steps (-70), .steps (-90), true, false⟩] }) up)

/-- A share that persists, one taken back and one let go; seventeen departing shares for fourteen places, two by two at one
level. -/
theorem witness_PlanBuildCompleteInstalls_shares :
    (let m := rebuilding.cab.mixZone .z0
     let n0 : BuiltShare := ⟨⟨0, 0, 0⟩, false, .media 0, .duck, .steps (-60)⟩
     let n1 : BuiltShare := ⟨⟨0, 1, 0⟩, false, .media 1, .duck, .steps (-70)⟩
     rebuilding.cab.builder.job = some ⟨.z0, [n0, n1], ⟨-6, false, -24, -40⟩⟩ ∧
     (m.routes.find? (sameShare n0)).isSome = true ∧ m.routes.find? (sameShare n1) = none ∧
     (m.leaving.find? (sameShare n1)).isSome = true ∧ [n0, n1].length + m.leaving.length + m.routes.length ≤ 16 ∧
     (∃ y ∈ m.routes, ∀ n ∈ [n0, n1], sameShare n y = false) ∧ m.leaving.length = 1 ∧
     m.leaving.Pairwise (fun x y => x.route = y.route → x.source = y.source → x.orphaned = true ∨ y.orphaned = true)) ∧
    (let s := editMix .z0 (fun m => { m with
        leaving := (List.finRange 16).map fun n => ⟨⟨0, 3, n⟩, false, .media 3, .duck, .steps 0, .steps (-90 - n.val / 2), true, false⟩ })
       rebuilding
     (s.cab.mixZone .z0).leaving.length = 16 ∧
     (s.cab.mixZone .z0).leaving.Pairwise
       (fun x y => x.route = y.route → x.source = y.source → x.orphaned = true ∨ y.orphaned = true)) := by
  decide +kernel

/-- A first and another identity accepted, with a name, flags and an alternate to clear. -/
theorem witness_DataGroupsReachTheRecord_identity :
    (let s := decodes { emptyAcceptance with run := some (1, false) } none
     decoding s.cab .t0 = .onChan .pc0 ∧ (s.cab.stationSlot 3).record.map (·.identity) = some none ∧
     otherWithIdentity s.cab 3 1 = none ∧ NoDeferrals s.cab ∧ Settled s.cab) ∧
    (let s0 := decodes { emptyAcceptance with accepted := some 4101, run := some (1, false) } (some 4101)
     let r := { fmStation 136 with identity := some 4101, watched := true, tp := some true, ta := some false,
                                   alternates := [⟨7, none⟩] }
     let s := editQueue (fun q => { q with ignored := [⟨3, 0⟩] }) (putStation 3 r s0)
     decoding s.cab .t0 = .onChan .pc0 ∧ (s.cab.chan .pc0).station = some ⟨3, 0⟩ ∧ (s.cab.stationSlot 3).record = some r ∧
     (s.cab.tuner .t0).acc.run.map (·.1) = some 1 ∧ (s.cab.tuner .t0).acc.accepted ≠ some 1 ∧ r.identity ≠ some 1 ∧
     otherWithIdentity s.cab 3 1 = none ∧ NoDeferrals s.cab ∧ Settled s.cab ∧ s.cab.ports.part.posts = true) := by
  with_reducible and_intros <;> first
    | exact noDeferrals_of (by decide +kernel) | (unfold Settled; decide +kernel) | decide +kernel

/-- R62's places: own channel; listed and not measured; listed and measured now; not listed, with room and with six. -/
theorem witness_DataGroupsReachTheRecord_alternates :
    let l : List Alternate := [⟨1, some 50⟩, ⟨2, some 40⟩, ⟨3, none⟩]
    2 ∈ l.map (·.chan) ∧ (2 : Nat) ≠ 9 ∧ 7 ∉ l.map (·.chan) ∧ l.length < 6 ∧ (410 : Nat) < 411 ∧
    6 ≤ (l ++ l).length := by decide

/-- Start Nav on a queue of eight whose lowest entry, of slot 0, is at 4 and at 3. -/
theorem witness_NavPromptsAndPatterns_fullQueue :
    let least (s : State) (e : Entry) : Bool := (List.finRange 8).all fun j => (s.cab.entrySlot j).entry.any fun f =>
      decide (j = 0 ∨ e.priority < f.priority ∨ (e.priority = f.priority ∧ f.order < e.order))
    (let s := fullQueue 4 up
     s.Running ∧ navEntry s.cab = none ∧ (s.cab.entrySlot 0).entry = some (anEntry (.chime 0) 4 8) ∧
     least s (anEntry (.chime 0) 4 8) = true ∧ 4 ≤ (anEntry (.chime 0) 4 8).priority) ∧
    (let s := fullQueue 3 up
     s.Running ∧ navEntry s.cab = none ∧ (s.cab.entrySlot 0).entry = some (anEntry (.chime 0) 3 8) ∧
     least s (anEntry (.chime 0) 3 8) = true ∧ (anEntry (.chime 0) 3 8).priority < 4 ∧ TrafficSettled s.cab ∧
     (anEntry (.chime 0) 3 8).kind.isTraffic = false) := by
  with_reducible and_intros <;> first
    | exact running_of (by decide +kernel) | exact trafficSettled_of (by decide +kernel) (by decide +kernel) | decide +kernel

/-- An off-period of 2 ticks; the last tick of an on-period before an off-period of 5; and one that begins. -/
theorem witness_CadencePlaysCycles_periods :
    let p : Pattern := ⟨1000, 10, 5, 3, 2, ZoneSet.of [.z0]⟩
    let x : Voice := { newVoice 0 with cadence := .on 1, offLength := 5, sample := 9 }
    { x with cadence := .off 2 }.cadence = .off 2 ∧ 1 < 2 ∧ x.offLength ≠ 0 ∧
    (∀ k, x.cadence = .on k → k ≤ 1) ∧ (tickVoice true p { x with cadence := .off 1 }).cadence = .on 10 := by
  refine ⟨rfl, by decide, by decide, ?_, by decide +kernel⟩
  intro k h
  cases h
  decide

/-- Both call slots occupied; and a call whose tone displaces a CHIME entry of priority 5. -/
theorem witness_OpenCallRings_full :
    (let s := editCalls (fun v => { v with slots := v.slots.set 1 ⟨0, some (aCall .held)⟩ }) (putCall0 (aCall .ringing) up)
     s.Running ∧ openForm {} = true ∧ ∀ i, (s.cab.callSlot i).record ≠ none) ∧
    (let s := fullQueue 5 up
     s.Running ∧ freeCallSlot s.cab = some 0 ∧ TrafficSettled s.cab ∧ CallsFit s.cab ∧
     (s.cab.entrySlot 0).entry = some (anEntry (.chime 0) 5 8) ∧
     (List.finRange 8).all (fun j => (s.cab.entrySlot j).entry.any fun f => decide (j = 0 ∨ (f.priority = 5 ∧ f.order < 8)))
       = true) := by
  with_reducible and_intros <;> first
    | exact running_of (by decide +kernel) | exact trafficSettled_of (by decide +kernel) (by decide +kernel)
    | exact callsFit_of (by decide +kernel) | decide +kernel

/-- C0 in this state beside a RINGING C1 with this tone. -/
def besideRinging (mine : CallState) (tone : Option EntryId) (s : State) : State :=
  editCalls (fun v => { v with slots := v.slots.set 1 ⟨0, some { aCall .ringing with tone := tone }⟩ })
    (putCall0 (aCall mine) s)

/-- C0 held or resumed beside C1, whose tone stays, is replaced, comes to be queued or does not fit; and calls that do not
concern the rear. -/
theorem witness_CallsMoveBetweenTheirStates_rearAndTone :
    (let tone (k : EntryKind) : Entry := { anEntry k 6 1 with targets := ZoneSet.of [.z2] }
     let s := putEntry 7 (tone (.waiting ⟨1, 0⟩)) (besideRinging .active (some ⟨7, 0⟩) up)
     s.Running ∧ finOf? 2 0 = some (0 : Fin 2) ∧ callOf s.cab 0 ⟨0, 0, 0⟩ = some (aCall .active) ∧
     (s.cab.callSlot (otherCall 0)).record = some { aCall .ringing with tone := some ⟨7, 0⟩ } ∧ PrioritiesFit s.cab ∧
     TrafficSettled s.cab ∧ s.cab.entrySlot 7 = ⟨0, some (tone (.waiting ⟨1, 0⟩))⟩ ∧ (aCall .active).tone = none ∧
     concernsRear s.cab (some (aCall .active)) = true) ∧
    (let s := putEntry 7 (anEntry (.ring ⟨1, 0⟩) 6 1) (besideRinging .held (some ⟨7, 0⟩) up)
     s.Running ∧ callOf s.cab 0 ⟨0, 0, 0⟩ = some (aCall .held) ∧ PrioritiesFit s.cab ∧ TrafficSettled s.cab ∧
     s.cab.entrySlot 7 = ⟨0, some (anEntry (.ring ⟨1, 0⟩) 6 1)⟩) ∧
    (let s := besideRinging .held none up
     callOf s.cab 0 ⟨0, 0, 0⟩ = some (aCall .held) ∧ PrioritiesFit s.cab ∧ (s.cab.entrySlot 0).entry = none ∧
     (s.cab.callSlot (otherCall 0)).record = some (aCall .ringing)) ∧
    (let s := editQueue (fun q => { q with patterns := Tab.build 8 fun n => { q.patterns.get n with priority := 6 } })
       (fullQueue 6 (besideRinging .held none up))
     s.Running ∧ callOf s.cab 0 ⟨0, 0, 0⟩ = some (aCall .held) ∧ PrioritiesFit s.cab ∧
     (s.cab.callSlot (otherCall 0)).record = some (aCall .ringing) ∧
     (List.finRange 8).all (fun j => (s.cab.entrySlot j).entry.any fun e => decide (6 ≤ e.priority)) = true) ∧
    (let q := { aCall .active with joinable := false }
     let s := editCalls (fun v => { v with slots := v.slots.set 1 ⟨0, some q⟩ }) (putCall0 { q with state := .held } up)
     s.Running ∧ concernsRear s.cab (some { q with state := .held }) = false ∧
     concernsRear s.cab (s.cab.callSlot (otherCall 0)).record = false ∧
     callState (after (.resume .front ⟨0, 0, 0⟩) s).cab 1 ≠ some q.state) := by
  with_reducible and_intros <;> first
    | exact running_of (by decide +kernel) | exact prioritiesFit_of (by decide +kernel)
    | exact trafficSettled_of (by decide +kernel) (by decide +kernel) | decide +kernel

/-- A chime for all zones waits in RUNNING. -/
def chiming : State := { up with pending := [.startChime .front 5 none] }

theorem witness_EveryStepKeepsTheQueueAndItsSound_rear :
    step chiming = .next (after (.startChime .front 5 none) { chiming with pending := [] }) ∧ chiming.Running ∧
    (after (.startChime .front 5 none) { chiming with pending := [] }).Running ∧
    ((after (.startChime .front 5 none) { chiming with pending := [] }).cab.mixZone .z3).audible ≠
      (chiming.cab.mixZone .z3).audible := by
  refine ⟨step_next (c := .startChime .front 5 none) (rest := []) rfl (exec_after ?_), rfl, running_of ?_, ?_⟩ <;>
    decide +kernel

/-- What a lite reset's start leaves: no route, entry, voice or watch, nothing audible, PC0 still on S3. -/
theorem witness_LiteResetStartsAndEnds_empty :
    let s := after (.liteReset .front) (fullQueue 6 routed)
    s.cab.ports.part = .liteReset ∧ (∀ l k, (s.cab.route l k).record = none) ∧ s.cab.table.watch = none ∧
    s.cab.builder.hold = .running ∧ RolesFit s.cab ∧ (∀ i, (s.cab.entrySlot i).entry = none) ∧
    (∀ v, s.cab.queue.voices.get v = none) ∧ (∀ z, (s.cab.mixZone z).audible = none) ∧
    (s.cab.chan .pc0).station = some ⟨3, 0⟩ := by
  with_reducible and_intros <;> first
    | exact rolesFit_of (by decide +kernel) | decide +kernel | (intro z; cases z <;> decide +kernel)

/-- A route, a station with one name segment and an alternate of no quality, a call with a tone, and entries of three
kinds, one of them in a voice. -/
theorem witness_ReadsReturnTheFields_records :
    (routed.cab.route 3 5).record = some (aRoute (.media 0)) ∧
    (let r := { fmStation 136 with name := (fmStation 136).name.set 1 (some (0x41, 0x42)), alternates := [⟨7, none⟩] }
     ((putStation 3 r onAir).cab.stationSlot 3).record = some r) ∧
    (let r := { aCall .ringing with tone := some ⟨7, 0⟩ }
     ((putCall0 r up).cab.callSlot 0).record = some r) ∧
    (let s := editQueue (fun q => { q with voices := q.voices.set 0 (some (newVoice 0)) })
       (putEntry 0 (anEntry (.chime 0) 2 1) (putEntry 1 (anEntry .nav 4 2) (putEntry 2 (anEntry (.ring ⟨0, 0⟩) 6 3) up)))
     (s.cab.entrySlot 0).entry = some (anEntry (.chime 0) 2 1) ∧ (s.cab.entrySlot 1).entry = some (anEntry .nav 4 2) ∧
     (s.cab.entrySlot 2).entry = some (anEntry (.ring ⟨0, 0⟩) 6 3) ∧
     (s.cab.queue.voices.get 0).map (·.slot) = some 0) := by decide +kernel

/-- A full table at an MW channel: slot 39, of quality 21, may go for a find of 30; with qualities of 60 and above none
may. -/
theorem witness_ScanMeasurementOutcome_full :
    (let s := scanAt ⟨.mw, 118⟩ fullTable
     scanTuner s.cab = some .t1 ∧ s.cab.table.dwell = none ∧ stationAtFreq s.cab ⟨.mw, 118⟩ = none ∧
     rawQuality .mw 0 ⟨34, 0, 0⟩ = 30 ∧ eachStation s.cab (fun q => decide (q.state = .candidate)) = true ∧
     (List.finRange 40).all (fun j => (s.cab.stationSlot j).record.isSome && !held s.cab j &&
       (s.cab.stationSlot j).record.all fun q => decide (j = 39) || decide (21 < q.quality)) = true ∧
     (s.cab.stationSlot 39).record.map (·.quality) = some 21) ∧
    (let s := scanAt ⟨.mw, 118⟩ (editTable (fun v => { v with
       slots := Tab.build 40 fun i => ⟨0, some (newStation ⟨.fm, 100 + i.val⟩ (60 + i.val) .candidate .scan none)⟩ }) fullTable)
     scanTuner s.cab = some .t1 ∧ stationAtFreq s.cab ⟨.mw, 118⟩ = none ∧
     (List.finRange 40).all (fun j => (s.cab.stationSlot j).record.any fun q => decide (30 ≤ q.quality)) = true) := by
  decide +kernel

/-- The last channel with a record, with a find in a table with room and in a full one. A dwell that the code received
once ends: one record of the identity, and none, in a full table and in one with room. -/
theorem witness_PassEndAndDwellEnd_finds :
    (let s := scanAt ⟨.mw, 119⟩ (putStation 3 (newStation ⟨.mw, 119⟩ 40 .listed .scan none) up)
     scanTuner s.cab = some .t1 ∧ s.cab.table.dwell = none ∧ stationAtFreq s.cab ⟨.mw, 119⟩ = some 3 ∧
     rawQuality .mw 0 ⟨34, 0, 0⟩ = 30 ∧ s.cab.ports.part.posts = true) ∧
    (scanTuner (scanAt ⟨.mw, 119⟩ up).cab = some .t1 ∧ stationAtFreq (scanAt ⟨.mw, 119⟩ up).cab ⟨.mw, 119⟩ = none ∧
      ((scanAt ⟨.mw, 119⟩ up).cab.stationSlot 0).record = none) ∧
    (let s := scanAt ⟨.mw, 119⟩ fullTable
     scanTuner s.cab = some .t1 ∧ stationAtFreq s.cab ⟨.mw, 119⟩ = none ∧ held s.cab 39 = false ∧
     (s.cab.stationSlot 39).record.map (fun q => (q.state, q.quality)) = some (.candidate, 21) ∧
     eachStation s.cab (fun q => decide (21 ≤ q.quality)) = true) ∧
    (let dwells (s : State) : State := editTuner .t1 (fun v => { v with
         role := .scan, tuned := some ⟨.fm, 50⟩, acc := { emptyAcceptance with run := some (4101, false) } })
       (editTable (fun v => { v with position := ⟨.fm, 50⟩, dwell := some 40 }) s)
     let known := dwells (putStation 7 { fmStation 347 with identity := some 4101 } up)
     decoding known.cab .t1 = .dwelling ∧ (known.cab.tuner .t1).acc.run.map (·.1) = some 4101 ∧
     (known.cab.tuner .t1).acc.accepted ≠ some 4101 ∧ known.cab.table.position.band = .fm ∧ NoDeferrals known.cab ∧
     stationAtFreq known.cab known.cab.table.position = none ∧
     (known.cab.stationSlot 7).record = some { fmStation 347 with identity := some 4101 } ∧
     (List.finRange 40).all (fun i => (known.cab.stationSlot i).record.all fun _ => decide (i = 7)) = true ∧
     decoding (dwells fullTable).cab .t1 = .dwelling ∧ NoDeferrals (dwells fullTable).cab ∧
     stationAtFreq (dwells fullTable).cab ⟨.fm, 50⟩ = none ∧
     eachStation (dwells fullTable).cab (fun q => decide (q.identity ≠ some 4101)) = true ∧
     decoding (dwells up).cab .t1 = .dwelling ∧ NoDeferrals (dwells up).cab ∧
     stationAtFreq (dwells up).cab ⟨.fm, 50⟩ = none ∧ ((dwells up).cab.stationSlot 0).record = none) := by
  with_reducible and_intros <;> first | exact noDeferrals_of (by decide +kernel) | decide +kernel

/-- A winner at place `k`, evaluated. -/
def winsAt (c : Cabin) (h : StationId) (q : Nat) (ms : List (Nat × Nat)) (k : Nat) (w : Nat × Nat) : Bool :=
  decide (40 ≤ w.2 ∧ q + 10 ≤ w.2 ∧ probeable c h w.1 = true ∧ ms[k]? = some w) &&
  (List.range ms.length).all fun j => (ms[j]?).all fun m =>
    !probeable c h m.1 || decide (m.2 < w.2 ∨ (m.2 = w.2 ∧ k ≤ j))

theorem wins_of {c : Cabin} {h : StationId} {q : Nat} {ms : List (Nat × Nat)} (k : Nat) {w : Nat × Nat}
    (ok : winsAt c h q ms k w = true) : Wins c h q ms w := by
  obtain ⟨h1, h2⟩ := Bool.and_eq_true_iff.mp ok
  obtain ⟨a, b, d, e⟩ := of_decide_eq_true h1
  refine ⟨a, b, d, k, e, fun j m hm hp => ?_⟩
  obtain ⟨hj, -⟩ := List.getElem?_eq_some_iff.mp hm
  have := List.all_eq_true.mp h2 j (List.mem_range.mpr hj)
  simpa [hm, hp] using this

theorem noWinner_of {c : Cabin} {h : StationId} {q : Nat} {ms : List (Nat × Nat)}
    (ok : ms.all (fun m => decide (m.2 < 40 ∨ m.2 < q + 10)) = true) : ∀ w, ¬ Wins c h q ms w := by
  rintro w ⟨h1, h2, -, k, hk, -⟩
  have := of_decide_eq_true (List.all_eq_true.mp ok w (List.mem_of_getElem? hk))
  omega

/-- The last probe wins; ties with the one before it, which wins; and is too weak. -/
theorem witness_BorrowingFollowProbesAndDecides_wins :
    let s := following true 2 [] .probing 12
    let c (raw : Nat) := noteProbe ⟨3, 0⟩ 12 raw s.cab
    (s.cab.chan .pc0).quality = 20 ∧ Wins (c 40) ⟨3, 0⟩ 20 [(9, 39), (12, 40)] (12, 40) ∧
    Wins (c 40) ⟨3, 0⟩ 20 [(9, 40), (12, 40)] (9, 40) ∧ ∀ w, ¬ Wins (c 39) ⟨3, 0⟩ 20 [(9, 39), (12, 39)] w := by
  refine ⟨?_, wins_of 1 ?_, wins_of 0 ?_, noWinner_of ?_⟩ <;> decide +kernel

/-- An EXCURSION_START with the last alternate taken by another record, with a winner of a tie and with none. -/
theorem witness_SelfProbingFollowMakesExcursions_skipped :
    let s (ms : List (Nat × Nat)) := putStation 10 (fmStation 12) (following false 2 ms .serving 0)
    (∀ ms, (((s ms).cab.chan .pc0).station = some ⟨3, 0⟩ ∧ ((s ms).cab.chan .pc0).serving = some .t0 ∧
      ((s ms).cab.chan .pc0).follow = some ⟨false, [7, 9, 12], 2, ms, .serving, 20⟩)) ∧
    ((s []).cab.station ⟨3, 0⟩).isSome = true ∧ (s []).cab.alloc.stopped = false ∧
    (∀ n ch, 2 ≤ n → [7, 9, 12][n]? = some ch → probeable (s []).cab ⟨3, 0⟩ ch = false) ∧
    Wins (s [(9, 44)]).cab ⟨3, 0⟩ 20 [(9, 44)] (9, 44) ∧ ∀ w, ¬ Wins (s []).cab ⟨3, 0⟩ 20 [] w := by
  refine ⟨fun _ => ⟨rfl, rfl, rfl⟩, ?_, ?_, fun n ch hn h => ?_, wins_of 0 ?_, noWinner_of ?_⟩
  any_goals decide +kernel
  match n, h with
  | 2, h =>
    obtain rfl : 12 = ch := by simpa using h
    decide +kernel
  | n + 3, h => simp at h

/-- Every number of a Set Pattern within its range, and the first beyond each. -/
theorem witness_NavPromptsAndPatterns_limits :
    let within (lo hi : Int) (v : Option Int) := ∀ n, v = some n → lo ≤ n ∧ n ≤ hi
    (within 200 4000 (some 4000) ∧ within 1 100 (some 1) ∧ within 0 100 (some 100) ∧ within 0 255 none ∧
      within 0 7 (some 7)) ∧
    ¬ within 200 4000 (some 199) ∧ ¬ within 1 100 (some 0) ∧ ¬ within 0 100 (some 101) ∧ ¬ within 0 255 (some 256) ∧
    ¬ within 0 7 (some 8) := by simp

/-- A RING and a WAITING entry. -/
theorem witness_EndingAnEntry_tones : up.Running ∧
    ((putEntry 7 (anEntry (.ring ⟨0, 0⟩) 6 1) up).cab.entrySlot 7).entry = some (anEntry (.ring ⟨0, 0⟩) 6 1) ∧
    ((putEntry 7 (anEntry (.waiting ⟨1, 0⟩) 6 1) up).cab.entrySlot 7).entry = some (anEntry (.waiting ⟨1, 0⟩) 6 1) :=
  ⟨running_of (by decide), by decide +kernel, by decide +kernel⟩

/-- A voice that plays each of the tones. -/
theorem witness_CadencePlaysCycles_tones :
    let s (k : EntryKind) := editQueue (fun q => { q with voices := q.voices.set 0 (some (newVoice 4)) })
      (putEntry 4 (anEntry k 6 1) up)
    ∀ k, (s k).cab.queue.voices.get 0 = some (newVoice 4) ∧ (s k).cab.queue.voices.get 1 = none ∧
      ((s k).cab.entrySlot 4).entry = some (anEntry k 6 1) := fun _ => ⟨rfl, rfl, rfl⟩

/-- Levels at and beyond their ends; calls that the rear may not join, and one that it may not join in privacy. -/
theorem witness_CallSettingsTakeTheirValues_refused :
    (callForm { level := some (-61) } = true ∧ (-61 : Int) < -60 ∧ callForm { level := some 0 } = true ∧
      (-60 : Int) ≤ 0 ∧ callForm { level := some 1 } = true) ∧ up.Running ∧
    (∀ r : CallRecord, callOf (putCall0 r up).cab 0 ⟨0, 0, 0⟩ = some r) ∧ finOf? 2 0 = some (0 : Fin 2) ∧
    Zone.ofNat? 1 = some .z1 ∧ Zone.ofNat? 4 = some .z4 ∧ { aCall .active with joinable := false }.joinable = false ∧
    ({ aCall .active with privacy := true }.joinable, { aCall .active with privacy := true }.privacy) = (true, true) := by
  refine ⟨by decide, running_of (by decide), fun r => rfl, ?_⟩
  decide

/-- The first sample after an Expect Dip, in DIP with the window open. -/
theorem witness_SupplySamplesMoveTheState_first :
    let s := after (.expectDip .front) up
    s.cab.ports.part ≠ .held ∧ s.supply.previous = none ∧ s.supply.state = .dip ∧ s.supply.window = true := by
  decide +kernel

/-- A zone that listens to the ACTIVE call of listener Z0, and one that does not; a chime, a prompt and a tone queued. -/
theorem witness_EveryStepKeepsTheQueueAndItsSound_spelled :
    CallsFit (inCall .tracking).cab ∧ listenedCall (inCall .tracking).cab .z0 = some ⟨0, 0⟩ ∧
    listenedCall (inCall .tracking).cab .z1 = none ∧
    (let s := putEntry 0 (anEntry (.chime 0) 2 1) (inCall .tracking)
     (s.cab.entrySlot 0).entry = some (anEntry (.chime 0) 2 1) ∧ eligible s.cab .z0 (anEntry (.chime 0) 2 1) = false ∧
     eligible up.cab .z0 (anEntry (.chime 0) 2 1) = true ∧ outranks (anEntry .nav 4 2) (anEntry (.chime 0) 2 1) = true ∧
     outranks (anEntry .nav 4 2) (anEntry .nav 4 1) = false) := by
  refine ⟨callsFit_of ?_, ?_, ?_, ?_⟩ <;> decide +kernel
end Sys2Proof.Tests
end

section
/-! SUPPORT. What a route slot and a station slot hold after an update of the directory or of the station table, and
what the route books (the present routes of a list, the reference counts) read of them. -/

namespace Sys2Proof.Machine

/-! ## Folds that change one place at each step -/

/-- A fold that at each element of a list without duplicates changes what is read at that element alone, as long as
`P` holds, changes each element of the list once. -/
theorem foldl_reads {σ ι β : Type} [DecidableEq ι] (read : σ → ι → β) (f : σ → ι → σ) (g : ι → β → β) (P : σ → Prop)
    (hP : ∀ s x, P s → P (f s x))
    (hf : ∀ s x y, P s → read (f s x) y = if y = x then g y (read s y) else read s y) :
    ∀ (l : List ι) (s : σ), l.Nodup → P s → ∀ y, read (l.foldl f s) y = if y ∈ l then g y (read s y) else read s y := by
  intro l
  induction l with
  | nil => intro s _ _ y; simp
  | cons x l ih =>
    intro s hl hs y
    obtain ⟨hx, hl⟩ := List.nodup_cons.mp hl
    rw [List.foldl_cons, ih _ hl (hP s x hs) y, hf s x y hs]
    by_cases hyx : y = x
    · subst hyx; simp [hx]
    · simp [hyx]

/-- Counting before and after one element changes its mind. -/
theorem countP_change {ι : Type} [DecidableEq ι] (p q : ι → Bool) (x : ι) (h : ∀ y, y ≠ x → q y = p y) :
    ∀ l : List ι, l.Nodup → x ∈ l →
      l.countP q + (if p x then 1 else 0) = l.countP p + (if q x then 1 else 0) := by
  intro l
  induction l with
  | nil => simp
  | cons y l ih =>
    intro hl hx
    obtain ⟨hy, hl⟩ := List.nodup_cons.mp hl
    by_cases hyx : y = x
    · subst hyx
      have hrest : l.countP q = l.countP p :=
        List.countP_congr fun z hz => by rw [h z (fun e => hy (e ▸ hz))]
      simp only [List.countP_cons, hrest]
      cases p y <;> cases q y <;> simp
    · have hxl : x ∈ l := (List.mem_cons.mp hx).resolve_left (Ne.symm hyx)
      have := ih hl hxl
      simp only [List.countP_cons, h y hyx]
      omega

/-- The same, read at an element of the list. -/
theorem foldl_reads_mem {σ ι β : Type} [DecidableEq ι] (read : σ → ι → β) (f : σ → ι → σ) (g : ι → β → β) (P : σ → Prop)
    (hP : ∀ s x, P s → P (f s x))
    (hf : ∀ s x y, P s → read (f s x) y = if y = x then g y (read s y) else read s y)
    {l : List ι} (hl : l.Nodup) {s : σ} (hs : P s) {y : ι} (hy : y ∈ l) : read (l.foldl f s) y = g y (read s y) :=
  (foldl_reads read f g P hP hf l s hl hs y).trans (if_pos hy)

/-- Counting a value after another has been replaced by it: the two are counted together. -/
theorem countP_replaced {ι α : Type} [DecidableEq α] {a b : α} (hab : a ≠ b) {s t : ι → Option α}
    (h : ∀ x, t x = (s x).map fun v => if v = b then a else v) (l : List ι) :
    l.countP (fun x => decide (t x = some a)) =
      l.countP (fun x => decide (s x = some a)) + l.countP fun x => decide (s x = some b) := by
  induction l with
  | nil => rfl
  | cons x l ih =>
    simp only [List.countP_cons, ih, h x]
    cases s x with
    | none => simp
    | some v =>
      by_cases hb : v = b
      · subst hb; simp [Ne.symm hab]; omega
      · simp [hb]; omega

/-- Counting a third value after one has been replaced by another. -/
theorem countP_replaced_other {ι α : Type} [DecidableEq α] {a b e : α} (ha : e ≠ a) (hb : e ≠ b) {s t : ι → Option α}
    (h : ∀ x, t x = (s x).map fun v => if v = b then a else v) (l : List ι) :
    l.countP (fun x => decide (t x = some e)) = l.countP fun x => decide (s x = some e) := by
  refine List.countP_congr fun x _ => ?_
  rw [h x]
  cases s x with
  | none => simp
  | some v =>
    by_cases hv : v = b
    · simp [hv, Ne.symm ha, Ne.symm hb]
    · simp [hv]

theorem mem_routeKeys (x : Fin 8 × Fin 6) : x ∈ routeKeys := by simp [routeKeys]

theorem routeKeys_nodup : routeKeys.Nodup := by decide

/-! ## Route slots -/

theorem route_of_lists {c d : Cabin} (h : d.dir.lists = c.dir.lists) (l : Fin 8) (k : Fin 6) : d.route l k = c.route l k := by
  simp only [Cabin.route, h]

@[simp] theorem setRouteSlot_route (c : Cabin) (l m : Fin 8) (k j : Fin 6) (r : RouteSlot) :
    (setRouteSlot l k r c).route m j = if (m, j) = (l, k) then r else c.route m j := by
  simp only [Cabin.route, setRouteSlot, Tab.get_set, Prod.mk.injEq]
  by_cases hm : m = l
  · subst hm; simp [Tab.get_set]
  · simp [hm]

@[simp] theorem setRouteRecord_route (c : Cabin) (l m : Fin 8) (k j : Fin 6) (r : RouteRecord) :
    (setRouteRecord l k r c).route m j = if (m, j) = (l, k) then ⟨(c.route l k).gen, some r⟩ else c.route m j := by
  simp [setRouteRecord]

@[simp] theorem post_route (c : Cabin) (p : Port) (e : EventKind) (l : Fin 8) (k : Fin 6) :
    (post p e c).route l k = c.route l k := route_of_lists (by simp) l k

@[simp] theorem postIf_route (c : Cabin) (b : Bool) (p : Port) (e : EventKind) (l : Fin 8) (k : Fin 6) :
    (postIf b p e c).route l k = c.route l k := route_of_lists (by simp) l k

@[simp] theorem markListStale_route (c : Cabin) (m l : Fin 8) (k : Fin 6) :
    (markListStale m c).route l k = c.route l k := rfl

@[simp] theorem modifyStation_route (c : Cabin) (i : Fin 40) (g : Station → Station) (l : Fin 8) (k : Fin 6) :
    (modifyStation i g c).route l k = c.route l k := route_of_lists (by simp) l k

/-! ## Station slots -/

theorem stationSlot_of_slots {c d : Cabin} (h : d.table.slots = c.table.slots) (i : Fin 40) :
    d.stationSlot i = c.stationSlot i := by
  simp only [Cabin.stationSlot, h]

@[simp] theorem setStationSlot_stationSlot (c : Cabin) (i j : Fin 40) (r : StationSlot) :
    (setStationSlot i r c).stationSlot j = if j = i then r else c.stationSlot j := by
  simp [Cabin.stationSlot, Tab.get_set]

@[simp] theorem modifyStation_stationSlot (c : Cabin) (i j : Fin 40) (g : Station → Station) :
    (modifyStation i g c).stationSlot j =
      if j = i then { c.stationSlot j with record := (c.stationSlot j).record.map g } else c.stationSlot j := by
  by_cases hj : j = i
  · subst hj
    unfold modifyStation
    split
    · rename_i hr
      rw [if_pos rfl, hr]
      exact (congrArg (StationSlot.mk _) hr : _)
    · rename_i r hr
      simp [hr]
  · unfold modifyStation
    cases hr : (c.stationSlot i).record <;> simp [hj]

@[simp] theorem setRouteSlot_stationSlot (c : Cabin) (l : Fin 8) (k : Fin 6) (r : RouteSlot) (i : Fin 40) :
    (setRouteSlot l k r c).stationSlot i = c.stationSlot i := rfl

@[simp] theorem setRouteRecord_stationSlot (c : Cabin) (l : Fin 8) (k : Fin 6) (r : RouteRecord) (i : Fin 40) :
    (setRouteRecord l k r c).stationSlot i = c.stationSlot i := rfl

@[simp] theorem post_stationSlot (c : Cabin) (p : Port) (e : EventKind) (i : Fin 40) :
    (post p e c).stationSlot i = c.stationSlot i := stationSlot_of_slots (by simp) i

@[simp] theorem postIf_stationSlot (c : Cabin) (b : Bool) (p : Port) (e : EventKind) (i : Fin 40) :
    (postIf b p e c).stationSlot i = c.stationSlot i := stationSlot_of_slots (by simp) i

@[simp] theorem markListStale_stationSlot (c : Cabin) (l : Fin 8) (i : Fin 40) :
    (markListStale l c).stationSlot i = c.stationSlot i := rfl

/-! ## References that move (01 R13) -/

@[simp] theorem moved_gen (n m : Nat) (v : StationSlot) : (StationSlot.moved n m v).gen = v.gen := rfl

@[simp] theorem moved_zero (v : StationSlot) : StationSlot.moved 0 0 v = v := by
  simp [StationSlot.moved]

@[simp] theorem moved_one_one (v : StationSlot) : StationSlot.moved 1 1 v = v := by
  simp [StationSlot.moved]

theorem moved_moved_drop (n m : Nat) (v : StationSlot) :
    StationSlot.moved 0 m (StationSlot.moved 0 n v) = StationSlot.moved 0 (n + m) v := by
  simp [StationSlot.moved, Function.comp_def, Nat.sub_sub]

theorem stationId_of_gen {c d : Cabin} {i : Fin 40} (h : (d.stationSlot i).gen = (c.stationSlot i).gen) :
    d.stationId i = c.stationId i := by
  simp only [Cabin.stationId, h]

theorem eq_stationId_iff (c : Cabin) (h : StationId) (i : Fin 40) :
    h = c.stationId i ↔ h.slot = i ∧ (c.stationSlot i).gen = h.gen := by
  obtain ⟨s, g⟩ := h
  simp [Cabin.stationId, eq_comm]

theorem modifyLive_stationSlot (c : Cabin) (h : StationId) (g : Station → Station) (i : Fin 40) :
    (modifyLive h g c).stationSlot i = if h = c.stationId i then
      { c.stationSlot i with record := (c.stationSlot i).record.map g } else c.stationSlot i := by
  unfold modifyLive
  simp only [eq_stationId_iff]
  by_cases hi : h.slot = i
  · subst hi
    by_cases hg : (c.stationSlot h.slot).gen = h.gen <;> simp [hg]
  · have hi' : i ≠ h.slot := Ne.symm hi
    by_cases hg : (c.stationSlot h.slot).gen = h.gen <;> simp [hg, hi, hi']

/-- The station named gains a reference, and no other slot changes. -/
theorem addRef_stationSlot (c : Cabin) (src : Source) (i : Fin 40) : (addRef src c).stationSlot i =
    StationSlot.moved (if src = .station (c.stationId i) then 1 else 0) 0 (c.stationSlot i) := by
  cases src with
  | media n => simp [addRef]
  | station h =>
    simp only [addRef, modifyLive_stationSlot, Source.station.injEq]
    split <;> simp [StationSlot.moved]

/-- The station named loses a reference, and no other slot changes. -/
theorem dropRef_stationSlot (c : Cabin) (src : Source) (i : Fin 40) : (dropRef src c).stationSlot i =
    StationSlot.moved 0 (if src = .station (c.stationId i) then 1 else 0) (c.stationSlot i) := by
  cases src with
  | media n => simp [dropRef]
  | station h =>
    simp only [dropRef, modifyLive_stationSlot, Source.station.injEq]
    split <;> simp [StationSlot.moved]

/-- References move with a change of source. -/
theorem moveRef_stationSlot (c : Cabin) (old new : Source) (i : Fin 40) : (moveRef old new c).stationSlot i =
    StationSlot.moved (if new ≠ old ∧ new = .station (c.stationId i) then 1 else 0)
      (if new ≠ old ∧ old = .station (c.stationId i) then 1 else 0) (c.stationSlot i) := by
  unfold moveRef
  by_cases h : old = new
  · simp [h]
  · have hgen : ((dropRef old c).stationSlot i).gen = (c.stationSlot i).gen := by rw [dropRef_stationSlot]; rfl
    rw [if_neg h, addRef_stationSlot, stationId_of_gen hgen, dropRef_stationSlot]
    have h' : new ≠ old := Ne.symm h
    by_cases ho : old = .station (c.stationId i)
    · have hn : new ≠ .station (c.stationId i) := fun e => h (ho.trans e.symm)
      simp [ho, hn]
    · simp [h', ho]

theorem modifyLive_dir (c : Cabin) (h : StationId) (g : Station → Station) : (modifyLive h g c).dir = c.dir := by
  unfold modifyLive; split <;> simp

theorem addRef_dir (c : Cabin) (src : Source) : (addRef src c).dir = c.dir := by
  cases src <;> simp [addRef, modifyLive_dir]

theorem dropRef_dir (c : Cabin) (src : Source) : (dropRef src c).dir = c.dir := by
  cases src <;> simp [dropRef, modifyLive_dir]

theorem moveRef_dir (c : Cabin) (old new : Source) : (moveRef old new c).dir = c.dir := by
  unfold moveRef; split <;> simp [addRef_dir, dropRef_dir]

@[simp] theorem addRef_route (c : Cabin) (src : Source) (l : Fin 8) (k : Fin 6) :
    (addRef src c).route l k = c.route l k := route_of_lists (by rw [addRef_dir]) l k

@[simp] theorem dropRef_route (c : Cabin) (src : Source) (l : Fin 8) (k : Fin 6) :
    (dropRef src c).route l k = c.route l k := route_of_lists (by rw [dropRef_dir]) l k

@[simp] theorem moveRef_route (c : Cabin) (old new : Source) (l : Fin 8) (k : Fin 6) :
    (moveRef old new c).route l k = c.route l k := route_of_lists (by rw [moveRef_dir]) l k

/-! ## What the books read of a route -/

/-- What the route of a slot claims: whether it is present, and its source. -/
def Cabin.claim (c : Cabin) (l : Fin 8) (k : Fin 6) : Option (Bool × Source) :=
  (c.route l k).record.map fun r => (r.present, r.source)

theorem claim_of_record {c : Cabin} {l : Fin 8} {k : Fin 6} {r : RouteRecord} (h : (c.route l k).record = some r) :
    c.claim l k = some (r.present, r.source) := by
  simp [Cabin.claim, h]

theorem claim_of_lists {c d : Cabin} (h : d.dir.lists = c.dir.lists) (l : Fin 8) (k : Fin 6) : d.claim l k = c.claim l k := by
  simp only [Cabin.claim, route_of_lists h]

theorem claim_of_sameRoute {c d : Cabin} {l : Fin 8} {k : Fin 6} (h : SameRoute (d.route l k) (c.route l k)) :
    d.claim l k = c.claim l k := by
  obtain ⟨-, h⟩ := h
  have := congrArg (Option.map fun r : RouteRecord => (r.present, r.source)) h
  simpa [Cabin.claim, Function.comp_def] using this

theorem sources_eq_claim (c : Cabin) (x : Fin 8 × Fin 6) :
    (c.route x.1 x.2).record.map (·.source) = (c.claim x.1 x.2).map (·.2) := by
  simp [Cabin.claim, Function.comp_def]

theorem routesDiffer_iff (c : Cabin) : RoutesDiffer c ↔
    ∀ l j k src, j ≠ k → c.claim l j = some (true, src) → c.claim l k ≠ some (true, src) := by
  constructor
  · intro h l j k src hjk hj hk
    obtain ⟨a, ha, ea⟩ := Option.map_eq_some_iff.mp hj
    obtain ⟨b, hb, eb⟩ := Option.map_eq_some_iff.mp hk
    simp only [Prod.mk.injEq] at ea eb
    exact h l j k a b hjk ha hb ea.1 eb.1 (ea.2.trans eb.2.symm)
  · intro h l j k a b hjk ha hb pa pb e
    refine h l j k a.source hjk ?_ ?_
    · simp [claim_of_record ha, pa]
    · simp [claim_of_record hb, pb, e]

/-- How many routes name a station. -/
def Cabin.named (c : Cabin) (h : StationId) : Nat :=
  routeKeys.countP fun x => decide ((c.claim x.1 x.2).map (·.2) = some (.station h))

theorem refsMatch_iff (c : Cabin) : RefsMatch c ↔
    (∀ i r, (c.stationSlot i).record = some r → r.refs = c.named (c.stationId i)) ∧
    ∀ l k h, (c.claim l k).map (·.2) = some (.station h) → (c.station h).isSome = true := by
  unfold RefsMatch Cabin.named
  simp only [sources_eq_claim]
  refine and_congr Iff.rfl ⟨fun h l k g hg => ?_, fun h l k r g hr hs => ?_⟩
  · obtain ⟨r, hr, hs⟩ := Option.map_eq_some_iff.mp ((sources_eq_claim c (l, k)).trans hg)
    exact h l k r g hr hs
  · exact h l k g (by simp [claim_of_record hr, hs])

theorem duplicateIn_eq_false_iff (c : Cabin) (l : Fin 8) (self : Option (Fin 6)) (src : Source) :
    duplicateIn c l self src = false ↔ ∀ k, some k ≠ self → c.claim l k ≠ some (true, src) := by
  unfold duplicateIn
  simp only [List.any_eq_false, List.mem_finRange, true_implies]
  refine forall_congr' fun k => ?_
  cases hr : (c.route l k).record with
  | none => simp [Cabin.claim, hr]
  | some r => simp [Cabin.claim, hr]

theorem named_congr {c d : Cabin} (h : ∀ l k, d.claim l k = c.claim l k) (g : StationId) : d.named g = c.named g := by
  simp only [Cabin.named, h]

/-- A live station is one whose slot has the handle's generation and a record. -/
theorem station_isSome_iff (c : Cabin) (h : StationId) : (c.station h).isSome = true ↔
    (c.stationSlot h.slot).gen = h.gen ∧ (c.stationSlot h.slot).record.isSome = true := by
  unfold Cabin.station
  split <;> simp [*]

end Sys2Proof.Machine
end

section
/-! SUPPORT. The route books: what keeps the present routes of a list distinct and the reference counts true (01 R12, R13). -/

namespace Sys2Proof.Machine

/-! ## Two cabins with the same books, and a step that keeps the books in order -/

/-- Every route claims what it did, and every station slot has its generation and its reference count. -/
def SameBooks (c d : Cabin) : Prop :=
  (∀ l k, d.claim l k = c.claim l k) ∧
  ∀ i, (d.stationSlot i).gen = (c.stationSlot i).gen ∧
    (d.stationSlot i).record.map (·.refs) = (c.stationSlot i).record.map (·.refs)

/-- A change that keeps each of the two statements about the books. -/
def KeepsBooks (c d : Cabin) : Prop := (RoutesDiffer c → RoutesDiffer d) ∧ (RefsMatch c → RefsMatch d)

theorem SameBooks.refl (c : Cabin) : SameBooks c c := ⟨fun _ _ => rfl, fun _ => ⟨rfl, rfl⟩⟩

theorem SameBooks.trans {c d e : Cabin} (h : SameBooks c d) (g : SameBooks d e) : SameBooks c e :=
  ⟨fun l k => (g.1 l k).trans (h.1 l k), fun i => ⟨(g.2 i).1.trans (h.2 i).1, (g.2 i).2.trans (h.2 i).2⟩⟩

theorem KeepsBooks.refl (c : Cabin) : KeepsBooks c c := ⟨id, id⟩

theorem KeepsBooks.trans {c d e : Cabin} (h : KeepsBooks c d) (g : KeepsBooks d e) : KeepsBooks c e :=
  ⟨g.1 ∘ h.1, g.2 ∘ h.2⟩

theorem SameBooks.of_eq {c d : Cabin} (hl : d.dir.lists = c.dir.lists) (hs : d.table.slots = c.table.slots) :
    SameBooks c d :=
  ⟨claim_of_lists hl, fun i => by simp [stationSlot_of_slots hs]⟩

theorem RoutesDiffer.of_claims {c d : Cabin} (h : ∀ l k, d.claim l k = c.claim l k) (hc : RoutesDiffer c) :
    RoutesDiffer d := by
  rw [routesDiffer_iff] at hc ⊢
  simpa only [h] using hc

/-- The books are in order by what they read alone. -/
theorem SameBooks.keeps {c d : Cabin} (h : SameBooks c d) : KeepsBooks c d := by
  obtain ⟨hclaim, hslot⟩ := h
  refine ⟨.of_claims hclaim, fun hc => ?_⟩
  · rw [refsMatch_iff] at hc ⊢
    obtain ⟨hrefs, hlive⟩ := hc
    refine ⟨fun i r hr => ?_, fun l k g hg => ?_⟩
    · have hmap := (hslot i).2
      rw [hr] at hmap
      obtain ⟨q, hq, e⟩ := Option.map_eq_some_iff.mp hmap.symm
      rw [named_congr hclaim, stationId_of_gen (hslot i).1, ← hrefs i q hq]
      exact e.symm
    · have := hlive l k g (by rwa [hclaim] at hg)
      rw [station_isSome_iff] at this ⊢
      have hsome := congrArg Option.isSome (hslot g.slot).2
      simp only [Option.isSome_map] at hsome
      rw [(hslot g.slot).1, hsome]
      exact this

theorem modifyStation_sameBooks (c : Cabin) (i : Fin 40) (g : Station → Station) (hg : ∀ r, (g r).refs = r.refs) :
    SameBooks c (modifyStation i g c) := by
  refine ⟨claim_of_lists (by simp), fun j => ?_⟩
  rw [modifyStation_stationSlot]
  split <;> simp [Function.comp_def, hg]

/-! ## A route slot takes another claim -/

theorem RoutesDiffer.noDuplicate {c : Cabin} (h : RoutesDiffer c) {l : Fin 8} {k : Fin 6} {src : Source}
    (hk : c.claim l k = some (true, src)) : duplicateIn c l (some k) src = false := by
  rw [duplicateIn_eq_false_iff]
  intro j hj
  exact (routesDiffer_iff c).mp h l k j src (fun e => hj (congrArg some e.symm)) hk

/-- One slot takes the claim `n`, which duplicates no other of its list, and references move with its source: the books
stay in order. -/
theorem KeepsBooks.of_claim {c d : Cabin} {l : Fin 8} {k : Fin 6} (n : Option (Bool × Source))
    (hclaim : ∀ m j, d.claim m j = if (m, j) = (l, k) then n else c.claim m j)
    (hdup : RoutesDiffer c → ∀ src, n = some (true, src) → duplicateIn c l (some k) src = false)
    (hslot : ∀ i, d.stationSlot i = StationSlot.moved (if n.map (·.2) = some (.station (c.stationId i)) then 1 else 0)
      (if (c.claim l k).map (·.2) = some (.station (c.stationId i)) then 1 else 0) (c.stationSlot i))
    (hlive : RefsMatch c → ∀ h, n.map (·.2) = some (.station h) → (c.station h).isSome = true) : KeepsBooks c d := by
  refine ⟨fun hc => ?_, fun hc => ?_⟩
  · have hfree := fun src hn => (duplicateIn_eq_false_iff c l (some k) src).mp (hdup hc src hn)
    rw [routesDiffer_iff] at hc ⊢
    intro m i j src hij hi hj
    rw [hclaim] at hi hj
    by_cases hxi : (m, i) = (l, k)
    · obtain ⟨rfl, rfl⟩ := Prod.mk.inj hxi
      rw [if_pos rfl] at hi
      rw [if_neg (by simp [Ne.symm hij])] at hj
      exact hfree src hi j (by simp [Ne.symm hij]) hj
    · rw [if_neg hxi] at hi
      by_cases hxj : (m, j) = (l, k)
      · obtain ⟨rfl, rfl⟩ := Prod.mk.inj hxj
        rw [if_pos rfl] at hj
        exact hfree src hj i (by simp [hij]) hi
      · rw [if_neg hxj] at hj
        exact hc m i j src hij hi hj
  · have hsome := hlive hc
    rw [refsMatch_iff] at hc ⊢
    obtain ⟨hrefs, hliveOld⟩ := hc
    have hgen : ∀ i, (d.stationSlot i).gen = (c.stationSlot i).gen := fun i => by rw [hslot]; rfl
    refine ⟨fun i r hr => ?_, fun m j h hm => ?_⟩
    · rw [hslot] at hr
      obtain ⟨q, hq, rfl⟩ := Option.map_eq_some_iff.mp hr
      have hcount := countP_change
        (fun x : Fin 8 × Fin 6 => decide ((c.claim x.1 x.2).map (·.2) = some (.station (c.stationId i))))
        (fun x : Fin 8 × Fin 6 => decide ((d.claim x.1 x.2).map (·.2) = some (.station (c.stationId i)))) (l, k)
        (fun y hy => by rw [hclaim, if_neg hy]) routeKeys routeKeys_nodup (mem_routeKeys _)
      rw [stationId_of_gen (hgen i), Cabin.named]
      simp only [hrefs i q hq, Cabin.named]
      simp only [hclaim, if_true, decide_eq_true_eq] at hcount
      simp only [hclaim]
      omega
    · rw [hclaim] at hm
      have : (c.station h).isSome = true := by
        split at hm
        · exact hsome h hm
        · exact hliveOld m j h hm
      rw [station_isSome_iff] at this ⊢
      rw [hslot]
      simpa [StationSlot.moved] using this

/-! ## Station slots that are freed, filled and displaced -/

/-- Freeing a slot whose record no route names, its generation advancing. -/
theorem KeepsBooks.of_freed {c d : Cabin} {i : Fin 40} (hclaim : ∀ l k, d.claim l k = c.claim l k)
    (hslot : ∀ j, d.stationSlot j = if j = i then ⟨(c.stationSlot i).gen + 1, none⟩ else c.stationSlot j)
    (hrefs : ∀ r, (c.stationSlot i).record = some r → r.refs = 0) : KeepsBooks c d := by
  refine ⟨.of_claims hclaim, fun hc => ?_⟩
  · rw [refsMatch_iff] at hc ⊢
    obtain ⟨hcount, hlive⟩ := hc
    refine ⟨fun j r hr => ?_, fun l k h hm => ?_⟩
    · rw [hslot] at hr
      by_cases hj : j = i
      · rw [if_pos hj] at hr
        cases hr
      · rw [if_neg hj] at hr
        rw [hcount j r hr, named_congr hclaim, stationId_of_gen (by rw [hslot, if_neg hj])]
    · rw [hclaim] at hm
      have hl := hlive l k h hm
      have hl' := (station_isSome_iff c h).mp hl
      obtain ⟨hgen, hrec⟩ := hl'
      have hne : h.slot ≠ i := by
        rintro rfl
        obtain ⟨r, hr⟩ := Option.isSome_iff_exists.mp hrec
        have hzero := hcount h.slot r hr
        rw [hrefs r hr] at hzero
        have hid : c.stationId h.slot = h := ((eq_stationId_iff c h h.slot).mpr ⟨rfl, hgen⟩).symm
        have := (List.countP_eq_zero.mp hzero.symm) (l, k) (mem_routeKeys _)
        exact this (by simp [hm, hid])
      rw [station_isSome_iff, hslot, if_neg hne]
      exact ⟨hgen, hrec⟩

/-- Filling a free slot with a record that no route names yet. -/
theorem KeepsBooks.of_filled {c d : Cabin} {i : Fin 40} {r : Station} (hclaim : ∀ l k, d.claim l k = c.claim l k)
    (hslot : ∀ j, d.stationSlot j = if j = i then ⟨(c.stationSlot i).gen, some r⟩ else c.stationSlot j)
    (hfree : (c.stationSlot i).record = none) (hrefs : r.refs = 0) : KeepsBooks c d := by
  have hgen : ∀ j, (d.stationSlot j).gen = (c.stationSlot j).gen := fun j => by
    rw [hslot]; split
    · rename_i e; rw [e]
    · rfl
  refine ⟨.of_claims hclaim, fun hc => ?_⟩
  · rw [refsMatch_iff] at hc ⊢
    obtain ⟨hcount, hlive⟩ := hc
    refine ⟨fun j q hq => ?_, fun l k h hm => ?_⟩
    · rw [named_congr hclaim, stationId_of_gen (hgen j)]
      rw [hslot] at hq
      by_cases hj : j = i
      · subst hj
        rw [if_pos rfl] at hq
        cases hq
        rw [hrefs, eq_comm, Cabin.named, List.countP_eq_zero]
        intro x _ hx
        have := (station_isSome_iff c _).mp (hlive x.1 x.2 _ (of_decide_eq_true hx))
        simp [Cabin.stationId, hfree] at this
      · rw [if_neg hj] at hq
        exact hcount j q hq
    · rw [hclaim] at hm
      have hl := (station_isSome_iff c h).mp (hlive l k h hm)
      rw [station_isSome_iff, hgen]
      refine ⟨hl.1, ?_⟩
      rw [hslot]
      split
      · rfl
      · exact hl.2

theorem retireStationSlot_stationSlot (c : Cabin) (i j : Fin 40) : (retireStationSlot i c).stationSlot j =
    if j = i then ⟨(c.stationSlot i).gen + 1, none⟩ else c.stationSlot j := by
  simp [retireStationSlot, stationSlot_of_slots (c := c) (d := unignoreStation (c.stationId i) c) (by simp)]

theorem retireStationSlot_dir (c : Cabin) (i : Fin 40) : (retireStationSlot i c).dir = c.dir := by
  simp [retireStationSlot, setStationSlot]

theorem retireStationSlot_keepsBooks {c : Cabin} {i : Fin 40} (h : held c i = false) :
    KeepsBooks c (retireStationSlot i c) := by
  refine .of_freed (i := i) (claim_of_lists (by rw [retireStationSlot_dir])) (retireStationSlot_stationSlot c i) fun r hr => ?_
  simp [held, hr] at h
  omega

theorem createStation_keepsBooks {c : Cabin} {i : Fin 40} {r : Station} (hfree : (c.stationSlot i).record = none)
    (hrefs : r.refs = 0) : KeepsBooks c (createStation i r c) := by
  refine .of_filled (i := i) (r := r) (claim_of_lists (by simp [createStation, setStationSlot])) (fun j => ?_) hfree hrefs
  exact (stationSlot_of_slots (by rw [createStation, postBoth_table]) j).trans (setStationSlot_stationSlot ..)

end Sys2Proof.Machine
end

section
/-! SUPPORT. Derived route states (01 R7): what they depend on, and that settling leaves them derived. -/

namespace Sys2Proof.Machine

/-! ## What a route's state is derived from -/

/-- A route's state depends on the links of its list, the channel of its station, that channel's tuner and the stream. -/
theorem routeState_congr {c d : Cabin} (hlink : ∀ l, linkedByPresent d l = linkedByPresent c l)
    (hmedia : d.dir.media = c.dir.media) (hchan : ∀ h, chanOf d h = chanOf c h)
    (haway : ∀ x, tunerAway d x = tunerAway c x) (l : Fin 8) (r : RouteRecord) :
    routeState d l r = routeState c l r := by
  simp only [routeState, hlink, hmedia, hchan, haway]

theorem linkedByPresent_of_zones {c d : Cabin} (h : d.dir.zones = c.dir.zones) (l : Fin 8) :
    linkedByPresent d l = linkedByPresent c l := by
  unfold linkedByPresent links Cabin.zone
  rw [h]

theorem chanOf_of_chans {c d : Cabin} (h : d.alloc.chans = c.alloc.chans) (g : StationId) : chanOf d g = chanOf c g := by
  unfold chanOf Cabin.chan
  rw [h]

theorem tunerAway_of_chans {c d : Cabin} (h : d.alloc.chans = c.alloc.chans) (x : Chan) :
    tunerAway d x = tunerAway c x := by
  simp only [tunerAway, Cabin.chan, h]

theorem routeState_of_eq {c d : Cabin} (hz : d.dir.zones = c.dir.zones) (hm : d.dir.media = c.dir.media)
    (ha : d.alloc.chans = c.alloc.chans) (l : Fin 8) (r : RouteRecord) : routeState d l r = routeState c l r :=
  routeState_congr (linkedByPresent_of_zones hz) hm (chanOf_of_chans ha) (tunerAway_of_chans ha) l r

/-! ## Deriving again -/

/-- A route slot of list `l` with its record's state derived in `c`. -/
def derivedSlot (c : Cabin) (l : Fin 8) (v : RouteSlot) : RouteSlot :=
  { v with record := v.record.map fun r => { r with state := routeState c l r } }

theorem derivedSlot_sameRoute (c : Cabin) (l : Fin 8) (v : RouteSlot) : SameRoute (derivedSlot c l v) v := by
  simp [SameRoute, derivedSlot, Function.comp_def]

theorem derivedSlot_of_eq {c d : Cabin} (hz : d.dir.zones = c.dir.zones) (hm : d.dir.media = c.dir.media)
    (ha : d.alloc.chans = c.alloc.chans) (l : Fin 8) (v : RouteSlot) : derivedSlot d l v = derivedSlot c l v := by
  simp only [derivedSlot, routeState_of_eq hz hm ha]

theorem rederiveAt_route (c : Cabin) (l m : Fin 8) (k j : Fin 6) :
    (rederiveAt l k c).route m j = if (m, j) = (l, k) then derivedSlot c m (c.route m j) else c.route m j := by
  by_cases h : (m, j) = (l, k)
  · obtain ⟨rfl, rfl⟩ := Prod.mk.inj h
    rw [if_pos rfl, derivedSlot]
    unfold rederiveAt
    split
    · rename_i hr
      rw [hr]
      exact congrArg (RouteSlot.mk _) hr
    · rename_i r hr
      split
      · rename_i hs
        rw [hr, Option.map_some, hs]
        exact congrArg (RouteSlot.mk _) hr
      · simp [hr]
  · rw [if_neg h]
    unfold rederiveAt
    split
    · rfl
    · split
      · rfl
      · simp [h]

/-- Deriving again gives every route the state its record and the blocks give now, and changes no other field. -/
theorem rederiveRoutes_route (c : Cabin) (l : Fin 8) (k : Fin 6) :
    (rederiveRoutes c).route l k = derivedSlot c l (c.route l k) := by
  have hfold : (rederiveRoutes c).route l k = (routeKeys.foldl (fun c x => rederiveAt x.1 x.2 c) c).route l k :=
    route_of_lists (congrArg Directory.lists (breakIntervals_dir _)) l k
  rw [hfold]
  exact foldl_reads_mem (l := routeKeys) (s := c) (y := (l, k))
    (fun (d : Cabin) (x : Fin 8 × Fin 6) => d.route x.1 x.2) (fun d x => rederiveAt x.1 x.2 d)
    (fun x v => derivedSlot c x.1 v)
    (fun d => d.dir.zones = c.dir.zones ∧ d.dir.media = c.dir.media ∧ d.alloc.chans = c.alloc.chans)
    (fun d x hd => by simpa using hd)
    (fun d x y hd => by
      obtain ⟨hz, hm, ha⟩ := hd
      simp only [rederiveAt_route, derivedSlot_of_eq hz hm ha])
    routeKeys_nodup ⟨rfl, rfl, rfl⟩ (mem_routeKeys (l, k))

theorem rederiveRoutes_statesDerived (c : Cabin) : StatesDerived (rederiveRoutes c) := by
  intro l k r hr
  rw [rederiveRoutes_route] at hr
  obtain ⟨q, hq, rfl⟩ := Option.map_eq_some_iff.mp hr
  exact (routeState_of_eq (by simp) (by simp) (by simp) l q).symm

theorem settleRoutes_route (c : Cabin) (l : Fin 8) (k : Fin 6) :
    (settleRoutes c).route l k = derivedSlot c l (c.route l k) :=
  (route_of_lists (by simp [settleRoutes]) l k).trans (rederiveRoutes_route c l k)

theorem settleStates_route (c : Cabin) (l : Fin 8) (k : Fin 6) :
    (settleStates c).route l k = derivedSlot c l (c.route l k) :=
  (route_of_lists (by simp [settleStates]) l k).trans (rederiveRoutes_route c l k)

/-! ## A change that no route's state depends on -/

/-- Every route keeps its claim and its state, and what states are derived from is as it was. -/
def SameStates (c d : Cabin) : Prop :=
  (∀ l k, (d.route l k).record.map (fun r => (r.present, r.source, r.state)) =
    (c.route l k).record.map fun r => (r.present, r.source, r.state)) ∧
  (∀ z, (d.zone z).present = (c.zone z).present ∧ (d.zone z).list = (c.zone z).list) ∧
  d.dir.media = c.dir.media ∧
  ∀ x, (d.chan x).station = (c.chan x).station ∧ tunerAway d x = tunerAway c x

theorem SameStates.refl (c : Cabin) : SameStates c c :=
  ⟨fun _ _ => rfl, fun _ => ⟨rfl, rfl⟩, rfl, fun _ => ⟨rfl, rfl⟩⟩

theorem SameStates.trans {c d e : Cabin} (h : SameStates c d) (g : SameStates d e) : SameStates c e :=
  ⟨fun l k => (g.1 l k).trans (h.1 l k), fun z => ⟨(g.2.1 z).1.trans (h.2.1 z).1, (g.2.1 z).2.trans (h.2.1 z).2⟩,
    g.2.2.1.trans h.2.2.1, fun x => ⟨(g.2.2.2 x).1.trans (h.2.2.2 x).1, (g.2.2.2 x).2.trans (h.2.2.2 x).2⟩⟩

theorem SameStates.of_eq {c d : Cabin} (hd : d.dir = c.dir) (ha : d.alloc.chans = c.alloc.chans) : SameStates c d :=
  ⟨fun l k => by simp only [Cabin.route, hd], fun z => by simp [Cabin.zone, hd], by rw [hd],
    fun x => ⟨by simp [Cabin.chan, ha], tunerAway_of_chans ha x⟩⟩

theorem SameStates.routeState_eq {c d : Cabin} (h : SameStates c d) (l : Fin 8) (r : RouteRecord) :
    routeState d l r = routeState c l r := by
  obtain ⟨-, hzone, hmedia, hchan⟩ := h
  refine routeState_congr (fun l => ?_) hmedia (fun h => ?_) (fun x => (hchan x).2) l r
  · simp only [linkedByPresent, links, (hzone _).1, (hzone _).2]
  · simp only [chanOf, (hchan _).1]

theorem SameStates.keeps {c d : Cabin} (h : SameStates c d) (hc : StatesDerived c) : StatesDerived d := by
  intro l k r hr
  have hmap := h.1 l k
  rw [hr] at hmap
  obtain ⟨q, hq, e⟩ := Option.map_eq_some_iff.mp hmap.symm
  simp only [Prod.mk.injEq] at e
  obtain ⟨hp, hs, hst⟩ := e
  rw [h.routeState_eq, ← hst, hc l k q hq]
  simp only [routeState, hp, hs]

theorem StatesDerived.of_eq {c d : Cabin} (hd : d.dir = c.dir) (ha : d.alloc.chans = c.alloc.chans)
    (hc : StatesDerived c) : StatesDerived d := (SameStates.of_eq hd ha).keeps hc

theorem settleRoutes_statesDerived (c : Cabin) : StatesDerived (settleRoutes c) :=
  .of_eq (by simp [settleRoutes]) (by simp [settleRoutes]) (rederiveRoutes_statesDerived c)

theorem settleStates_statesDerived (c : Cabin) : StatesDerived (settleStates c) :=
  .of_eq (by simp [settleStates]) (by simp [settleStates]) (rederiveRoutes_statesDerived c)

end Sys2Proof.Machine
end

section
/-! SUPPORT. What settling does to the books: the arbitration and the sound leave them, a merge keeps them in order
(01 R12, R13, 04 R76). -/

namespace Sys2Proof.Machine

theorem settleRoutes_sameBooks (c : Cabin) : SameBooks c (settleRoutes c) := by
  refine ⟨fun l k => ?_, fun i => by simp [stationSlot_of_slots (c := c) (d := settleRoutes c) (by simp)]⟩
  refine claim_of_sameRoute ?_
  rw [settleRoutes_route]
  exact derivedSlot_sameRoute ..

theorem settleStates_sameBooks (c : Cabin) : SameBooks c (settleStates c) := by
  refine ⟨fun l k => ?_, fun i => by simp [stationSlot_of_slots (c := c) (d := settleStates c) (by simp)]⟩
  refine claim_of_sameRoute ?_
  rw [settleStates_route]
  exact derivedSlot_sameRoute ..

theorem arbitrate_sameBooks (c : Cabin) : SameBooks c (arbitrate c) := .of_eq (by simp) (by simp)

theorem testTraffic_sameBooks (c : Cabin) : SameBooks c (testTraffic c) := .of_eq (by simp) (by simp)

/-! ## Re-pointing routes in a merge -/

/-- A route that names B claims A instead, present only where A is not claimed already (04 R76, 01 R12). -/
theorem repointAt_claim (c : Cabin) (b a : StationId) (x : Fin 8 × Fin 6) (m : Fin 8) (j : Fin 6) :
    (repointAt b a x c).claim m j = if (m, j) = x then (c.claim m j).map (fun y =>
      if y.2 = .station b then (y.1 && !duplicateIn c x.1 (some x.2) (.station a), .station a) else y)
    else c.claim m j := by
  obtain ⟨l, k⟩ := x
  unfold repointAt
  split
  · rename_i hr
    by_cases h : (m, j) = (l, k)
    · obtain ⟨rfl, rfl⟩ := Prod.mk.inj h
      simp only at hr
      simp [Cabin.claim, hr]
    · rw [if_neg h]
  · rename_i r hr
    simp only at hr
    by_cases h : (m, j) = (l, k)
    · obtain ⟨rfl, rfl⟩ := Prod.mk.inj h
      by_cases hs : r.source = .station b <;> simp [Cabin.claim, hr, hs]
    · by_cases hs : r.source = .station b <;> simp [Cabin.claim, hs, h]

theorem repointAt_table (c : Cabin) (b a : StationId) (x : Fin 8 × Fin 6) : (repointAt b a x c).table = c.table := by
  unfold repointAt
  split
  · rfl
  · split <;> simp

theorem repointAt_routesDiffer {c : Cabin} (b a : StationId) (x : Fin 8 × Fin 6) (h : RoutesDiffer c) :
    RoutesDiffer (repointAt b a x c) := by
  have hold := h
  rw [routesDiffer_iff] at h ⊢
  intro l i k src hik hi hk
  obtain ⟨m, j⟩ := x
  -- A slot whose claim has changed is present only where no other slot of its list claims A.
  have key : ∀ i, (repointAt b a (m, j) c).claim l i = some (true, src) → c.claim l i ≠ some (true, src) →
      (l, i) = (m, j) ∧ ∀ n, n ≠ i → c.claim l n ≠ some (true, src) := by
    intro i hi hne
    rw [repointAt_claim] at hi
    by_cases hx : (l, i) = (m, j)
    · refine ⟨hx, fun n hn => ?_⟩
      obtain ⟨rfl, rfl⟩ := Prod.mk.inj hx
      rw [if_pos rfl] at hi
      obtain ⟨y, hy, e⟩ := Option.map_eq_some_iff.mp hi
      split at e
      · simp only [Prod.mk.injEq, Bool.and_eq_true, Bool.not_eq_true'] at e
        obtain ⟨⟨-, hdup⟩, rfl⟩ := e
        exact (duplicateIn_eq_false_iff ..).mp hdup n (fun e => hn (Option.some.inj e))
      · exact absurd (e ▸ hy) hne
    · rw [if_neg hx] at hi
      exact absurd hi hne
  by_cases hi' : c.claim l i = some (true, src)
  · by_cases hk' : c.claim l k = some (true, src)
    · exact h l i k src hik hi' hk'
    · exact (key k hk hk').2 i hik hi'
  · obtain ⟨hx, hothers⟩ := key i hi hi'
    refine hothers k (Ne.symm hik) ?_
    have hne : (l, k) ≠ (m, j) := fun e => hik (by have := hx.trans e.symm; simpa using this)
    rwa [repointAt_claim, if_neg hne] at hk

theorem repointAll_routesDiffer (b a : StationId) (l : List (Fin 8 × Fin 6)) (c : Cabin) (h : RoutesDiffer c) :
    RoutesDiffer (l.foldl (fun c x => repointAt b a x c) c) := by
  induction l generalizing c with
  | nil => exact h
  | cons x l ih => exact ih _ (repointAt_routesDiffer b a x h)

theorem repointAll_table (b a : StationId) (l : List (Fin 8 × Fin 6)) (c : Cabin) :
    (l.foldl (fun c x => repointAt b a x c) c).table = c.table :=
  foldl_keeps (fun c : Cabin => c.table) _ (fun c x => repointAt_table c b a x) l c

/-- After re-pointing every route, a source that named B names A. -/
theorem repointAll_source (b a : StationId) (c : Cabin) (l : Fin 8) (k : Fin 6) :
    ((routeKeys.foldl (fun c x => repointAt b a x c) c).claim l k).map (·.2) =
      ((c.claim l k).map (·.2)).map fun s => if s = .station b then .station a else s := by
  have hone : ∀ (d : Cabin) (x y : Fin 8 × Fin 6), True → ((repointAt b a x d).claim y.1 y.2).map (·.2) =
      if y = x then ((d.claim y.1 y.2).map (·.2)).map fun s => if s = .station b then .station a else s
      else (d.claim y.1 y.2).map (·.2) := by
    intro d x y _
    rw [repointAt_claim]
    split
    · cases d.claim y.1 y.2 with
      | none => rfl
      | some v => by_cases hv : v.2 = .station b <;> simp [hv]
    · rfl
  have h := foldl_reads_mem (fun (d : Cabin) (x : Fin 8 × Fin 6) => (d.claim x.1 x.2).map (·.2))
    (fun d x => repointAt b a x d) (fun _ s => s.map fun s => if s = .station b then .station a else s)
    (fun _ => True) (fun _ _ _ => trivial) hone routeKeys_nodup (s := c) trivial (mem_routeKeys (l, k))
  exact h

/-- Merging B into A as the books see it: A's slot takes B's references, B's slot is freed, and every route that named B
names A. -/
theorem refsMatch_of_merge {c d : Cabin} {b a : Fin 40} (hab : b ≠ a) {rb ra r : Station}
    (hb : (c.stationSlot b).record = some rb) (ha : (c.stationSlot a).record = some ra)
    (hrefs : r.refs = ra.refs + rb.refs)
    (hslot : ∀ j, d.stationSlot j = if j = b then ⟨(c.stationSlot b).gen + 1, none⟩
      else if j = a then ⟨(c.stationSlot a).gen, some r⟩ else c.stationSlot j)
    (hsource : ∀ l k, (d.claim l k).map (·.2) = ((c.claim l k).map (·.2)).map fun s =>
      if s = .station (c.stationId b) then .station (c.stationId a) else s)
    (hc : RefsMatch c) : RefsMatch d := by
  rw [refsMatch_iff] at hc ⊢
  obtain ⟨hcount, hlive⟩ := hc
  have hid : ∀ j, j ≠ b → d.stationId j = c.stationId j := fun j hj => stationId_of_gen (by
    rw [hslot, if_neg hj]
    split
    · rename_i e; rw [e]
    · rfl)
  have hne : c.stationId a ≠ c.stationId b := fun e => hab (congrArg StationId.slot e).symm
  -- A handle but A's and B's is named by the routes that named it; A's by those that named A or B.
  have hother : ∀ h, h ≠ c.stationId a → h ≠ c.stationId b → d.named h = c.named h := fun h h1 h2 =>
    countP_replaced_other (fun e => h1 (Source.station.inj e)) (fun e => h2 (Source.station.inj e))
      (fun x : Fin 8 × Fin 6 => hsource x.1 x.2) _
  have hboth : d.named (c.stationId a) = c.named (c.stationId a) + c.named (c.stationId b) :=
    countP_replaced (fun e => hne (Source.station.inj e)) (fun x : Fin 8 × Fin 6 => hsource x.1 x.2) _
  refine ⟨fun j q hq => ?_, fun l k h hm => ?_⟩
  · rw [hslot] at hq
    by_cases hjb : j = b
    · rw [if_pos hjb] at hq
      cases hq
    · rw [if_neg hjb] at hq
      rw [hid j hjb]
      by_cases hja : j = a
      · subst hja
        rw [if_pos rfl] at hq
        cases hq
        rw [hboth, hrefs, hcount _ _ ha, hcount _ _ hb]
      · rw [if_neg hja] at hq
        rw [hother _ (fun e => hja (congrArg StationId.slot e)) (fun e => hjb (congrArg StationId.slot e))]
        exact hcount j q hq
  · rw [hsource] at hm
    obtain ⟨s, hs, e⟩ := Option.map_eq_some_iff.mp hm
    rw [station_isSome_iff, hslot]
    split at e
    · cases e
      have hslotA : (c.stationId a).slot ≠ b := fun e => hab e.symm
      have hslotA' : (c.stationId a).slot = a := rfl
      rw [if_neg hslotA, if_pos hslotA']
      exact ⟨rfl, rfl⟩
    · rename_i hsb
      subst e
      have hl := (station_isSome_iff c h).mp (hlive l k h hs)
      by_cases hhb : h.slot = b
      · exact absurd (congrArg Source.station ((eq_stationId_iff c h b).mpr ⟨hhb, hhb ▸ hl.1⟩)) hsb
      · rw [if_neg hhb]
        split
        · rename_i hha
          exact ⟨hha ▸ hl.1, rfl⟩
        · exact hl

/-! ## The merge and what calls it -/

theorem relabelChan_dir (b a : StationId) (x : Chan) (c : Cabin) : (relabelChan b a x c).dir = c.dir := by
  unfold relabelChan; split <;> simp

theorem relabelChan_slots (b a : StationId) (x : Chan) (c : Cabin) :
    (relabelChan b a x c).table.slots = c.table.slots := by
  unfold relabelChan; split <;> simp

theorem repointQueue_dir (b a : StationId) (c : Cabin) : (repointQueue b a c).dir = c.dir := by
  unfold repointQueue
  refine (eachIdx_keeps (fun c : Cabin => c.dir) 8 _ (fun i c => by simp) _).trans ?_
  split <;> simp

theorem repointQueue_table (b a : StationId) (c : Cabin) : (repointQueue b a c).table = c.table := by
  unfold repointQueue
  refine (eachIdx_keeps (fun c : Cabin => c.table) 8 _ (fun i c => by simp) _).trans ?_
  split <;> simp

theorem mergeInto_keepsBooks {b a : Fin 40} (hab : b ≠ a) (c : Cabin) : KeepsBooks c (mergeInto b a c) := by
  unfold mergeInto
  split
  · rename_i rb ra hb ha
    extract_lets hB hA relabel retest slotA c1 c2 c3 tbl c4 c5 c6 c7
    have hdir2 : c2.dir = c.dir := by simp only [c2, c1, relabelChan_dir]; rfl
    have hlast : SameBooks c6 (if relabel then markStationStale hA c7 else c7) := by
      refine .of_eq ?_ ?_
      · have : c7.dir = c6.dir := by simp only [c7]; split <;> simp
        split <;> simp [this]
      · have : c7.table = c6.table := by simp only [c7]; split <;> simp
        split <;> simp [this]
    have hdir6 : c6.dir = c3.dir := by
      simp only [c6, postBoth_dir, retireStationSlot_dir, c5, repointQueue_dir, c4]
    refine KeepsBooks.trans ⟨fun hc => ?_, fun hc => ?_⟩ hlast.keeps
    · have h2 : RoutesDiffer c2 := .of_claims (claim_of_lists (by rw [hdir2])) hc
      exact .of_claims (claim_of_lists (by rw [hdir6])) (repointAll_routesDiffer hB hA routeKeys c2 h2)
    · refine refsMatch_of_merge hab hb ha (r := if relabel then relabelledRecord ra rb else mergedRecord ra rb) ?_ ?_ ?_ hc
      · split <;> rfl
      · intro j
        have h6 : c6.stationSlot j = if j = b then ⟨(c5.stationSlot b).gen + 1, none⟩ else c5.stationSlot j :=
          (stationSlot_of_slots (by simp only [c6, postBoth_table]) j).trans (retireStationSlot_stationSlot c5 b j)
        have h5 : ∀ j, c5.stationSlot j = c1.stationSlot j := fun j => stationSlot_of_slots (by
          simp only [c5, repointQueue_table, c4, tbl, c3, repointAll_table, c2, relabelChan_slots]) j
        rw [h6, h5, h5]
        simp only [c1, setStationSlot_stationSlot]
        rw [if_neg hab]
      · intro l k
        rw [claim_of_lists (d := c6) (c := c3) (by rw [hdir6]), ← claim_of_lists (d := c2) (c := c) (by rw [hdir2])]
        exact repointAll_source hB hA c2 l k
  · exact .refl c

end Sys2Proof.Machine
end

section
/-! SUPPORT. The commands that stand apart from the directory, the station records and the programme channels. -/

namespace Sys2Proof.Machine

/-- The directory, the station slots and the programme channels are as they were. -/
def Apart (c d : Cabin) : Prop :=
  d.dir = c.dir ∧ d.table.slots = c.table.slots ∧ d.alloc.chans = c.alloc.chans

theorem Apart.refl (c : Cabin) : Apart c c := ⟨rfl, rfl, rfl⟩

theorem Apart.trans {c d e : Cabin} (h : Apart c d) (g : Apart d e) : Apart c e :=
  ⟨g.1.trans h.1, g.2.1.trans h.2.1, g.2.2.trans h.2.2⟩

theorem Apart.sameBooks {c d : Cabin} (h : Apart c d) : SameBooks c d := .of_eq (by rw [h.1]) h.2.1

theorem Apart.sameStates {c d : Cabin} (h : Apart c d) : SameStates c d := .of_eq h.1 h.2.2

section Cabins
variable (c : Cabin)

/-! ## Ports and responses -/

theorem apart_post (p : Port) (k : EventKind) : Apart c (post p k c) := by simp [Apart]

theorem apart_postBoth (k : EventKind) : Apart c (postBoth k c) := by simp [Apart]

theorem apart_postIf (b : Bool) (p : Port) (k : EventKind) : Apart c (postIf b p k c) := by simp [Apart]

theorem apart_respond (p : Port) (r : Result) (ws : List Word) : Apart c (respond p r ws c) := ⟨rfl, rfl, rfl⟩

theorem apart_refuse (p : Port) (r : Result) : Apart c (refuse p r c) := ⟨rfl, rfl, rfl⟩

/-- A response after what stands apart stands apart. -/
theorem Apart.respond {c d : Cabin} (h : Apart c d) (p : Port) (r : Result) (ws : List Word) :
    Apart c (respond p r ws d) := h.trans (apart_respond d p r ws)

theorem apart_readEvents (p : Port) : Apart c (readEvents p c) := ⟨rfl, rfl, rfl⟩

theorem apart_relaySend (p : Port) (w : Word) : Apart c (relaySend p w c) := by
  unfold relaySend; split <;> simp [Apart]

theorem apart_relayTake (p : Port) : Apart c (relayTake p c) := by
  unfold relayTake; split <;> simp [Apart]

/-! ## Hold, plans and the mix -/

theorem apart_settleHold : Apart c (settleHold c) := by simp [Apart]

theorem apart_startBuild : Apart c (startBuild c) := by simp [Apart]

theorem apart_enterHold (p : Port) : Apart c (enterHold p c) := by
  unfold enterHold dropBuild
  repeat' split
  all_goals simp [Apart]

theorem apart_setCanceller (v : Canceller) : Apart c (setCanceller v c) := by simp [Apart]

theorem apart_enterEcho (v : Canceller) : Apart c (enterEcho v c) := by simp [Apart, enterEcho]

theorem apart_reconverge : Apart c (reconverge c) := by
  unfold reconverge
  split
  · exact .refl c
  · exact apart_setCanceller ..
  · exact apart_enterEcho ..
  · exact apart_enterEcho ..

theorem apart_completeBuild (crank : Int) (muted : Bool) : Apart c (completeBuild crank muted c) := by
  unfold completeBuild
  split
  · exact .refl c
  · refine Apart.trans ?_ ((apart_settleHold _).trans (apart_startBuild _))
    dsimp only
    split
    · exact Apart.trans ⟨rfl, rfl, rfl⟩ (apart_reconverge _)
    · exact ⟨rfl, rfl, rfl⟩

/-! ## The announcement queue -/

theorem apart_refreshSound : Apart c (refreshSound c) := by simp [Apart]

theorem apart_modifyEntry (i : Fin 8) (g : Entry → Entry) : Apart c (modifyEntry i g c) := by simp [Apart]

theorem apart_queueEntry (kind : EntryKind) (n : Nat) (t : ZoneSet) (k : Nat) : Apart c (queueEntry kind n t k c).1 := by
  simp [Apart]

theorem apart_endEntry (i : Fin 8) (r : EndReason) : Apart c (endEntry i r c) := by simp [Apart]

theorem apart_endAndIgnore (i : Fin 8) (r : EndReason) : Apart c (endAndIgnore i r c) := by simp [Apart]

theorem apart_startChime (p : Port) (n : Nat) (t : Option Nat) : Apart c (startChime p n t c) := by
  unfold startChime chimeAt
  repeat' split
  · exact apart_refuse ..
  · exact apart_refuse ..
  · exact apart_refuse ..
  · exact Apart.respond ((apart_modifyEntry ..).trans (Apart.trans (d := restartVoice _ _) ⟨rfl, rfl, rfl⟩
      (apart_refreshSound _))) ..
  · exact apart_refuse ..
  · rename_i h
    have hq := congrArg Prod.fst h
    dsimp only at hq
    exact hq ▸ (apart_queueEntry ..).respond ..

theorem apart_cancelAnnouncement (p : Port) (h : Handle) : Apart c (cancelAnnouncement p h c) := by
  unfold cancelAnnouncement
  repeat' split
  · exact apart_refuse ..
  · exact apart_refuse ..
  · exact apart_refuse ..
  · exact apart_refuse ..
  · exact (apart_endAndIgnore ..).respond ..

theorem apart_startNav (p : Port) (n : Nat) : Apart c (startNav p n c) := by
  unfold startNav navAt
  repeat' split
  · exact apart_refuse ..
  · exact apart_refuse ..
  · exact ((apart_modifyEntry ..).trans (apart_refreshSound _)).respond ..
  · exact apart_refuse ..
  · rename_i h
    have hq := congrArg Prod.fst h
    dsimp only at hq
    exact hq ▸ (apart_queueEntry ..).respond ..

theorem apart_keepNav (p : Port) : Apart c (keepNav p c) := by
  unfold keepNav
  repeat' split
  · exact apart_refuse ..
  · exact apart_refuse ..
  · exact (apart_modifyEntry ..).respond ..

theorem apart_endNav (p : Port) : Apart c (endNav p c) := by
  unfold endNav
  repeat' split
  · exact apart_refuse ..
  · exact apart_refuse ..
  · exact (apart_endEntry ..).respond ..

theorem apart_followPriority (n : Fin 8) : Apart c (followPriority n c) := by
  unfold followPriority
  split
  · exact .refl c
  · exact apart_modifyEntry ..

theorem apart_setPattern (p : Port) (n : Nat) (a : PatternArgs) : Apart c (setPattern p n a c) := by
  unfold setPattern
  repeat' split
  · exact apart_refuse ..
  · exact apart_refuse ..
  · refine Apart.respond (Apart.trans ?_ (apart_refreshSound _)) ..
    exact Apart.trans (d := { c with queue := _ }) ⟨rfl, rfl, rfl⟩ (apart_followPriority ..)
  · exact apart_refuse ..

theorem apart_readPattern (p : Port) (n : Nat) : Apart c (readPattern p n c) := by
  unfold readPattern; split <;> exact ⟨rfl, rfl, rfl⟩

theorem apart_cadenceTick : Apart c (cadenceTick c) := ⟨rfl, rfl, rfl⟩

theorem apart_chimeCompleted (v : Fin 2) : Apart c (chimeCompleted v c) := by
  unfold chimeCompleted
  repeat' split
  · exact .refl c
  · exact apart_endEntry ..
  · exact .refl c

theorem apart_navTimeout : Apart c (navTimeout c) := by
  unfold navTimeout
  split
  · exact .refl c
  · exact apart_endEntry ..

theorem apart_trafficTimeout (i : Fin 8) : Apart c (trafficTimeout i c) := by
  unfold trafficTimeout
  repeat' split
  · exact .refl c
  · exact apart_endAndIgnore ..
  · exact .refl c

/-! ## The calls -/

theorem apart_putCall (i : Fin 2) (v : CallSlot) : Apart c (putCall i v c) := by simp [Apart]

theorem apart_modifyCall (i : Fin 2) (g : CallRecord → CallRecord) : Apart c (modifyCall i g c) := by simp [Apart]

theorem apart_endTone (h : EntryId) : Apart c (endTone h c) := by
  unfold endTone
  split
  · exact .refl c
  · exact apart_endEntry ..

theorem apart_dropTone (i : Fin 2) : Apart c (dropTone i c) := by
  unfold dropTone
  repeat' split
  · exact .refl c
  · exact .refl c
  · exact (apart_endTone ..).trans (apart_modifyCall ..)

theorem apart_postCall (i : Fin 2) : Apart c (postCall i c) := by simp [Apart, postCall]

theorem apart_queueTone (i : Fin 2) (r : CallRecord) : Apart c (queueTone i r c) := by
  unfold queueTone
  dsimp only
  split
  · rename_i h
    have hq := congrArg Prod.fst h
    dsimp only at hq
    exact (hq ▸ apart_queueEntry ..).trans (apart_modifyCall ..)
  · rename_i h
    have hq := congrArg Prod.fst h
    dsimp only at hq
    exact (hq ▸ apart_queueEntry ..).trans ((apart_modifyCall ..).trans (apart_postCall ..))

theorem apart_settleTone (i : Fin 2) : Apart c (settleTone i c) := by
  unfold settleTone
  repeat' split
  · exact .refl c
  · exact (apart_dropTone ..).trans (apart_queueTone ..)
  · exact .refl c

theorem apart_followActiveCall : Apart c (followActiveCall c) := by
  unfold followActiveCall
  repeat' split
  · exact apart_enterEcho ..
  · exact .refl c
  · exact .refl c
  · exact apart_enterEcho ..

theorem apart_settleCalls : Apart c (settleCalls c) := (apart_followActiveCall c).trans (apart_refreshSound _)

theorem apart_activate (i : Fin 2) : Apart c (activate i c) := by
  unfold activate
  refine Apart.trans ?_ (apart_modifyCall ..)
  split
  · exact apart_modifyCall ..
  · exact .refl c

theorem apart_followListeners (i : Fin 2) : Apart c (followListeners i c) := by
  unfold followListeners
  repeat' split
  · exact .refl c
  · exact .refl c
  · exact .refl c
  · exact apart_modifyEntry ..
  · exact .refl c

theorem apart_changeCall (i : Fin 2) (r : CallRecord) : Apart c (changeCall i r c) :=
  (apart_modifyCall ..).trans ((apart_followListeners ..).trans (apart_refreshSound _))

theorem apart_openCall (p : Port) (a : OpenArgs) : Apart c (openCall p a c) := by
  unfold openCall
  repeat' split
  · exact apart_refuse ..
  · exact apart_refuse ..
  · exact (((apart_putCall ..).trans (apart_settleTone ..)).trans (apart_settleCalls _)).respond ..
  · exact apart_refuse ..

/-- A request of the front port that names a call stands apart where what it performs does. -/
theorem apart_onCall (p : Port) (h : Handle) {k : Fin 2 → CallRecord → Cabin → Cabin} (hk : ∀ i r, Apart c (k i r c)) :
    Apart c (onCall p h k c) := by
  unfold onCall
  repeat' split
  · exact apart_refuse ..
  · exact apart_refuse ..
  · exact apart_refuse ..
  · exact hk ..

theorem apart_answerCall (p : Port) (h : Handle) : Apart c (answerCall p h c) := apart_onCall c p h fun i r => by
  unfold answerAt
  split
  · exact ((((apart_activate ..).trans (apart_dropTone ..)).trans (apart_settleTone ..)).trans (apart_settleCalls _)).respond ..
  · exact apart_refuse ..

theorem apart_holdCall (p : Port) (h : Handle) : Apart c (holdCall p h c) := apart_onCall c p h fun i r => by
  unfold holdAt
  split
  · exact (((apart_modifyCall ..).trans (apart_settleTone ..)).trans (apart_settleCalls _)).respond ..
  · exact apart_refuse ..

theorem apart_resumeCall (p : Port) (h : Handle) : Apart c (resumeCall p h c) := apart_onCall c p h fun i r => by
  unfold resumeAt
  split
  · exact (((apart_activate ..).trans (apart_settleTone ..)).trans (apart_settleCalls _)).respond ..
  · exact apart_refuse ..

theorem apart_endCall (p : Port) (h : Handle) : Apart c (endCall p h c) := apart_onCall c p h fun i _ =>
  ((((apart_dropTone c i).trans (apart_putCall ..)).trans (apart_settleTone ..)).trans (apart_settleCalls _)).respond ..

theorem apart_setListeners (p : Port) (h : Handle) (n : Nat) : Apart c (setListeners p h n c) := by
  unfold setListeners
  split
  · exact apart_refuse ..
  · exact apart_onCall c p h fun i r => (apart_changeCall ..).respond ..

theorem apart_setCall (p : Port) (h : Handle) (a : CallArgs) : Apart c (setCall p h a c) := by
  unfold setCall
  split
  · exact apart_onCall c p h fun i r => (apart_changeCall ..).respond ..
  · exact apart_refuse ..

theorem apart_setUplinkGain (p : Port) (g : Int) : Apart c (setUplinkGain p g c) := by
  unfold setUplinkGain; split <;> exact ⟨rfl, rfl, rfl⟩

/-- Join Call and Leave Call stand apart where what they perform does. -/
theorem apart_onRearCall (p : Port) (h : Handle) (n : Nat) {k : Zone → Fin 2 → CallRecord → Cabin → Cabin}
    (hk : ∀ z i r, Apart c (k z i r c)) : Apart c (onRearCall p h n k c) := by
  unfold onRearCall
  repeat' split
  · exact apart_refuse ..
  · exact apart_refuse ..
  · exact hk ..
  · exact apart_refuse ..

theorem apart_joinCall (p : Port) (h : Handle) (n : Nat) : Apart c (joinCall p h n c) :=
  apart_onRearCall c p h n fun z i r => by
    unfold joinAt
    repeat' split
    · exact apart_refuse ..
    · exact apart_refuse ..
    · exact (apart_changeCall ..).respond ..

theorem apart_leaveCall (p : Port) (h : Handle) (n : Nat) : Apart c (leaveCall p h n c) :=
  apart_onRearCall c p h n fun _ _ _ => (apart_changeCall ..).respond ..

theorem apart_readCall (p : Port) (h : Handle) : Apart c (readCall p h c) := by
  unfold readCall
  repeat' split
  all_goals exact ⟨rfl, rfl, rfl⟩

theorem apart_endBlock : Apart c (endBlock c) := by
  unfold endBlock applyBlock
  dsimp only
  repeat' split
  · exact .refl c
  · exact apart_setCanceller ..
  · exact .refl c
  · exact apart_enterEcho ..
  · exact apart_setCanceller ..
  · exact apart_setCanceller ..
  · exact apart_enterEcho ..
  · exact apart_setCanceller ..
  · exact apart_enterEcho ..
  · exact apart_setCanceller ..
  · exact apart_setCanceller ..

theorem apart_doubleTalkOut : Apart c (doubleTalkOut c) := by
  unfold doubleTalkOut
  split
  · exact apart_enterEcho ..
  · exact .refl c

/-! ## Reads and cursors -/

theorem apart_readRoute (p : Port) (h : Handle) : Apart c (readRoute p h c) := by
  unfold readRoute
  repeat' split
  all_goals exact ⟨rfl, rfl, rfl⟩

theorem apart_readStation (p : Port) (h : Handle) : Apart c (readStation p h c) := by
  unfold readStation
  repeat' split
  all_goals exact ⟨rfl, rfl, rfl⟩

theorem apart_walkStations (p : Port) (n : Int) (m : Nat) : Apart c (walkStations p n m c) := by
  unfold walkStations
  split <;> exact ⟨rfl, rfl, rfl⟩

end Cabins

/-! ## The ring and the supply monitor -/

section States
variable (s : State)

theorem apart_settleMute : Apart s.cab (settleMute s).cab := by
  unfold settleMute
  split
  · exact .refl _
  · exact apart_postBoth ..

theorem apart_setDrive (d : DriveCauses) : Apart s.cab (setDrive d s).cab := apart_settleMute (s.setRing _)

theorem apart_muteLineChange (b : Bool) : Apart s.cab (muteLineChange b s).cab := by
  have hsee : ∀ b, Apart s.cab (seeLine b s).cab := fun b =>
    (apart_postBoth s.cab .mute).trans (apart_settleMute ((s.setRing _).postBoth .mute))
  unfold muteLineChange
  repeat' split
  · exact .refl _
  · exact hsee _
  · refine (hsee false).trans ?_
    unfold afterLowNotice
    split
    · exact apart_reconverge _
    · exact .refl _

theorem apart_systemMute (p : Port) (n : Nat) : Apart s.cab (systemMute p n s).cab := by
  unfold systemMute
  repeat' split
  · exact apart_refuse ..
  · exact apart_refuse ..
  · exact (apart_setDrive s _).respond ..

theorem apart_putNode (i : Fin 6) (n : Node) : Apart s.cab (putNode i n s).cab := by
  unfold putNode
  split
  · exact apart_post ..
  · exact .refl _

theorem apart_nodeNotice (i : Fin 6) : Apart s.cab (nodeNotice i s).cab := by
  unfold nodeNotice
  split
  · exact apart_reconverge _
  · exact .refl _

theorem apart_makeAbsent (b : Bool) (i : Fin 6) : Apart s.cab (makeAbsent b i s).cab := by
  unfold makeAbsent
  dsimp only
  split
  · exact .refl _
  · exact (apart_nodeNotice s i).trans (apart_putNode (makePending i (nodeNotice i s)) i _)

theorem apart_nodeLost (i : Fin 6) : Apart s.cab (nodeLost i s).cab := by
  unfold nodeLost
  split
  · exact apart_makeAbsent ..
  · exact .refl _

theorem apart_makeAllAbsent (l : List (Fin 6)) : Apart s.cab (l.foldl (fun s i => makeAbsent true i s) s).cab := by
  induction l generalizing s with
  | nil => exact .refl _
  | cons i l ih => exact (apart_makeAbsent s true i).trans (ih _)

theorem apart_ringUp : Apart s.cab (ringUp s).cab := by
  unfold ringUp
  split
  · exact apart_post ..
  · exact .refl _

theorem apart_ringDown : Apart s.cab (ringDown s).cab := by
  unfold ringDown
  split
  · have h : Apart s.cab (eachIdx 6 (makeAbsent true) s).cab := apart_makeAllAbsent s _
    generalize eachIdx 6 (makeAbsent true) s = u at h ⊢
    exact h.trans (apart_post ..)
  · exact .refl _

theorem apart_discoveryPoll : Apart s.cab (discoveryPoll s).cab := by
  unfold discoveryPoll; split <;> exact .refl _

theorem apart_pollAnswer (i : Fin 6) : Apart s.cab (pollAnswer i s).cab := by
  unfold pollAnswer
  dsimp only
  split
  · exact apart_putNode ..
  · exact .refl _

theorem apart_startConfig (i : Fin 6) (n : Node) : Apart s.cab (startConfig i n s).cab :=
  apart_putNode (setStatuses i (fun z _ => workedStatus (pagesFor s.ring i n) z) s) i _

theorem apart_faultNode (i : Fin 6) (f : NodeFault) : Apart s.cab (faultNode i f s).cab := apart_putNode ..

theorem apart_configPageAnswer (i : Fin 6) (b : Bool) : Apart s.cab (configPageAnswer i b s).cab := by
  unfold configPageAnswer configAcknowledged
  dsimp only
  repeat' split
  · exact .refl _
  · exact .refl _
  · exact apart_putNode ..
  · exact .refl _
  · exact .refl _
  · exact .refl _
  · exact apart_faultNode ..
  · exact .refl _

theorem apart_configTimeout (i : Fin 6) : Apart s.cab (configTimeout i s).cab := by
  unfold configTimeout
  dsimp only
  repeat' split
  · exact .refl _
  · exact apart_faultNode ..
  · exact .refl _

theorem apart_exchangeFails (i : Fin 6) : Apart s.cab (exchangeFails i s).cab := by
  unfold exchangeFails
  dsimp only
  split
  · exact .refl _
  · exact apart_faultNode ..

theorem apart_pageTimerExpiry (i : Fin 6) : Apart s.cab (pageTimerExpiry i s).cab := by
  unfold pageTimerExpiry
  split
  · exact apart_exchangeFails ..
  · exact .refl _

theorem apart_takePage (i : Fin 6) (page : AbilityPage) : Apart s.cab (takePage i page s).cab := by
  unfold takePage
  repeat' split
  · exact apart_exchangeFails ..
  · exact apart_exchangeFails ..
  · exact apart_putNode ..
  · exact apart_startConfig ..

theorem apart_abilityPage (i : Fin 6) (page : AbilityPage) : Apart s.cab (abilityPage i page s).cab := by
  unfold abilityPage
  dsimp only
  repeat' split
  · exact apart_takePage ..
  · exact .refl _
  · exact .refl _
  · exact .refl _

theorem apart_statusReport (i : Fin 6) (f : FaultFlags) : Apart s.cab (statusReport i f s).cab := by
  have hfault : Apart s.cab (reportFault i f s).cab :=
    (apart_nodeNotice s i).trans (apart_putNode (dropCarried i (nodeNotice i s)) i _)
  unfold statusReport
  dsimp only
  repeat' split
  · exact hfault
  · exact .refl _
  · exact apart_putNode ..
  · exact apart_startConfig ..
  · exact .refl _

theorem apart_readNode (p : Port) (n : Nat) : Apart s.cab (readNode p n s).cab := by
  unfold readNode
  repeat' split
  all_goals exact ⟨rfl, rfl, rfl⟩

theorem apart_restartNode (p : Port) (n : Nat) : Apart s.cab (restartNode p n s).cab := by
  unfold restartNode
  repeat' split
  · exact apart_refuse ..
  · exact apart_refuse ..
  · exact apart_refuse ..
  · exact (apart_makeAbsent ..).respond ..

theorem apart_enterSupply (v : SupplyState) : Apart s.cab (enterSupply v s).cab := by
  unfold enterSupply
  dsimp only
  split
  · exact .refl _
  · exact apart_postBoth ..

theorem apart_expectDip (p : Port) : Apart s.cab (expectDip p s).cab := by
  unfold expectDip
  repeat' split
  · exact apart_refuse ..
  · exact apart_refuse ..
  · exact (apart_enterSupply ..).respond ..

theorem apart_settleTimerExpiry : Apart s.cab (settleTimerExpiry s).cab := by
  unfold settleTimerExpiry
  split
  · refine (apart_enterSupply s .recover).trans ?_
    unfold endSupplyDrive
    split
    · exact apart_setDrive (State.setSupply _ (enterSupply .recover s)) _
    · exact .refl _
  · exact .refl _

theorem apart_recoverStep : Apart s.cab (recoverStep s).cab := by
  unfold recoverStep
  repeat' split
  · exact .refl _
  · exact apart_enterSupply ..
  · exact .refl _

theorem apart_expectWindowExpiry : Apart s.cab (expectWindowExpiry s).cab := by
  unfold expectWindowExpiry
  dsimp only
  repeat' split
  · exact .refl _
  · exact apart_enterSupply (s.setSupply _) .settle
  · exact .refl _
  · exact .refl _

theorem apart_startUp (mv : Nat) (b : Bool) : Apart s.cab (startUp mv b s).cab := by
  unfold startUp; split <;> exact ⟨rfl, rfl, rfl⟩

theorem apart_beginLocking : Apart s.cab (beginLocking s).cab := by
  unfold beginLocking
  split
  · exact apart_post ..
  · exact .refl _

end States

end Sys2Proof.Machine
end

section
/-! SUPPORT. Settling, the merges it brings about and the identities keep the route books (01 R12, R13, 04 R75 to R78). -/

namespace Sys2Proof.Machine

/-! ## Identities -/

theorem firstIdx_some {n : Nat} {p : Fin n → Bool} {i : Fin n} (h : firstIdx p = some i) : p i = true :=
  List.find?_some h

theorem firstIdx_none {n : Nat} {p : Fin n → Bool} (h : firstIdx p = none) (i : Fin n) : p i = false := by
  simpa using List.find?_eq_none.mp h i (List.mem_finRange i)

theorem otherWithIdentity_ne {c : Cabin} {i a : Fin 40} {code : Nat} (h : otherWithIdentity c i code = some a) : a ≠ i := by
  have := firstIdx_some h
  simp only [Bool.and_eq_true, decide_eq_true_eq] at this
  exact this.1

theorem takeIdentity_sameBooks (c : Cabin) (i : Fin 40) (code : Nat) : SameBooks c (takeIdentity i code c) := by
  unfold takeIdentity
  split
  · exact .refl c
  · rename_i r hr
    extract_lets r' slot d
    have hrefs : r'.refs = r.refs := by simp only [r']; split <;> rfl
    have hd : SameBooks c d := by
      refine ⟨fun _ _ => rfl, fun j => ?_⟩
      simp only [d, slot, setStationSlot_stationSlot]
      split
      · rename_i hj
        subst hj
        simp [hr, hrefs]
      · exact ⟨rfl, rfl⟩
    refine hd.trans (.of_eq ?_ ?_)
    · rw [postBoth_dir]; split <;> simp
    · rw [postBoth_table]; split <;> simp

theorem applyIdentity_keepsBooks (c : Cabin) (i : Fin 40) (code : Nat) : KeepsBooks c (applyIdentity i code c) := by
  unfold applyIdentity
  split
  · exact .refl c
  · split
    · exact (modifyStation_sameBooks _ _ _ fun _ => by rfl).keeps
    · split
      · rename_i a ha
        split
        · exact (modifyStation_sameBooks _ _ _ fun _ => by rfl).keeps
        · exact mergeInto_keepsBooks (otherWithIdentity_ne ha).symm c
      · exact (takeIdentity_sameBooks c i code).keeps

/-! ## Settling -/

theorem settleStations_keepsBooks (n : Nat) (c : Cabin) : KeepsBooks c (settleStations n c) := by
  induction n generalizing c with
  | zero => exact .refl c
  | succ n ih =>
    have ha := (arbitrate_sameBooks c).keeps
    unfold settleStations
    dsimp only
    split
    · exact ha
    · exact ha.trans ((applyIdentity_keepsBooks ..).trans (ih _))

theorem settleAllocator_keepsBooks (c : Cabin) : KeepsBooks c (settleAllocator c) := settleStations_keepsBooks 41 c

/-! ## Keeping the books and the derived states -/

/-- A change that keeps the books in order and every route's state derived. -/
def KeepsRoutes (c d : Cabin) : Prop := KeepsBooks c d ∧ (StatesDerived c → StatesDerived d)

/-- A change that neither the books nor any route's state sees. -/
def Quiet (c d : Cabin) : Prop := SameBooks c d ∧ SameStates c d

theorem KeepsRoutes.refl (c : Cabin) : KeepsRoutes c c := ⟨.refl c, id⟩

theorem KeepsRoutes.trans {c d e : Cabin} (h : KeepsRoutes c d) (g : KeepsRoutes d e) : KeepsRoutes c e :=
  ⟨h.1.trans g.1, g.2 ∘ h.2⟩

theorem Quiet.refl (c : Cabin) : Quiet c c := ⟨.refl c, .refl c⟩

theorem Quiet.trans {c d e : Cabin} (h : Quiet c d) (g : Quiet d e) : Quiet c e := ⟨h.1.trans g.1, h.2.trans g.2⟩

theorem Apart.quiet {c d : Cabin} (h : Apart c d) : Quiet c d := ⟨h.sameBooks, h.sameStates⟩

theorem Quiet.keeps {c d : Cabin} (h : Quiet c d) : KeepsRoutes c d := ⟨h.1.keeps, h.2.keeps⟩

theorem Apart.keeps {c d : Cabin} (h : Apart c d) : KeepsRoutes c d := h.quiet.keeps

theorem KeepsRoutes.respond {c d : Cabin} (h : KeepsRoutes c d) (p : Port) (r : Result) (ws : List Word) :
    KeepsRoutes c (respond p r ws d) := h.trans (apart_respond d p r ws).keeps

theorem settleRoutes_keepsRoutes {c d : Cabin} (h : KeepsBooks c d) : KeepsRoutes c (settleRoutes d) :=
  ⟨h.trans (settleRoutes_sameBooks d).keeps, fun _ => settleRoutes_statesDerived d⟩

theorem settleStates_keepsRoutes {c d : Cabin} (h : KeepsBooks c d) : KeepsRoutes c (settleStates d) :=
  ⟨h.trans (settleStates_sameBooks d).keeps, fun _ => settleStates_statesDerived d⟩

theorem settleDirectory_keepsRoutes {c d : Cabin} (h : KeepsBooks c d) : KeepsRoutes c (settleDirectory d) :=
  settleRoutes_keepsRoutes (h.trans (settleAllocator_keepsBooks d))

theorem settleInputs_keepsRoutes {c d : Cabin} (h : KeepsBooks c d) : KeepsRoutes c (settleInputs d) :=
  settleRoutes_keepsRoutes ((h.trans (settleAllocator_keepsBooks d)).trans (testTraffic_sameBooks _).keeps)

end Sys2Proof.Machine
end

section
/-! SUPPORT. What each request on the directory does to a route slot and to the references (01 R15 to R21), and that it
keeps the books. -/

namespace Sys2Proof.Machine

variable (c : Cabin)

/-! ## Sources and free slots -/

theorem stationOf_isSome {c : Cabin} {i : Fin 40} {h : Handle} {r : Station} (hr : stationOf c i h = some r) :
    (c.stationSlot i).record = some r := by
  unfold stationOf at hr
  split at hr
  · exact hr
  · cases hr

theorem resolveSource_live {c : Cabin} {a : AskedSource} {g : StationId} (h : resolveSource c a = some (.station g)) :
    (c.station g).isSome = true := by
  cases a with
  | media n => simp [resolveSource] at h
  | station i h' =>
    simp only [resolveSource, Option.map_eq_some_iff, Source.station.injEq] at h
    obtain ⟨r, hr, rfl⟩ := h
    rw [station_isSome_iff]
    simp [Cabin.stationId, stationOf_isSome hr]

theorem placeSlot_free {c : Cabin} {f : PlaceForm} {k : Fin 6} (h : placeSlot c f = some k) :
    (c.route f.list k).record = none := by
  unfold placeSlot at h
  split at h
  · split at h
    · cases h; assumption
    · cases h
  · exact of_decide_eq_true (firstIdx_some h)

theorem routeOf_record {c : Cabin} {l : Fin 8} {k : Fin 6} {h : Handle} {r : RouteRecord} (hr : routeOf c l k h = some r) :
    (c.route l k).record = some r := by
  unfold routeOf at hr
  split at hr
  · exact hr
  · cases hr

/-! ## Place Route -/

/-- The directory as Place Route leaves it before anything settles (01 R13, R15). -/
def placed (l : Fin 8) (k : Fin 6) (r : RouteRecord) (c : Cabin) : Cabin :=
  markListStale l (addRef r.source (setRouteRecord l k r c))

theorem placeAt_eq (p : Port) (l : Fin 8) (k : Fin 6) (r : RouteRecord) (b : Bool) : placeAt p l k r b c =
    (let c' := settleRoutes (testTraffic (settlePlaced l k (settleAllocator (placed l k r c))))
     respond p (doneOr b) [routeWord ⟨l, k, (c.route l k).gen⟩, natWord (stateNum c' l k)] c') := rfl

theorem placed_route (l m : Fin 8) (k j : Fin 6) (r : RouteRecord) :
    (placed l k r c).route m j = if (m, j) = (l, k) then ⟨(c.route l k).gen, some r⟩ else c.route m j := by
  rw [placed, markListStale_route, addRef_route, setRouteRecord_route]

theorem placed_stationSlot (l : Fin 8) (k : Fin 6) (r : RouteRecord) (i : Fin 40) : (placed l k r c).stationSlot i =
    StationSlot.moved (if r.source = .station (c.stationId i) then 1 else 0) 0 (c.stationSlot i) :=
  addRef_stationSlot (setRouteRecord l k r c) r.source i

theorem placed_keepsBooks {c : Cabin} {l : Fin 8} {k : Fin 6} {r : RouteRecord} (hfree : (c.route l k).record = none)
    (hdup : r.present = true → listNames c l r.source = false)
    (hlive : ∀ g, r.source = .station g → (c.station g).isSome = true) : KeepsBooks c (placed l k r c) := by
  have hnone : c.claim l k = none := by simp [Cabin.claim, hfree]
  refine .of_claim (l := l) (k := k) (some (r.present, r.source)) (fun m j => ?_) (fun _ src hsrc => ?_) (fun i => ?_) ?_
  · simp only [Cabin.claim, placed_route]
    split <;> rfl
  · simp only [Option.some.injEq, Prod.mk.injEq] at hsrc
    obtain ⟨hp, rfl⟩ := hsrc
    exact (duplicateIn_eq_false_iff ..).mpr fun j _ =>
      (duplicateIn_eq_false_iff c l none r.source).mp (hdup hp) j (by simp)
  · simp [placed_stationSlot, hnone]
  · simpa using fun _ => hlive

/-! ## Alter Route, Park and Unpark -/

theorem changeRoute_route (p : Port) (l m : Fin 8) (k j : Fin 6) (old new : RouteRecord) :
    (changeRoute p l k old new c).route m j = if (m, j) = (l, k) then
      ⟨(c.route l k).gen, some { new with altered := old.altered || decide (p ≠ old.owner) }⟩ else c.route m j := by
  simp [changeRoute]

theorem changeRoute_stationSlot (p : Port) (l : Fin 8) (k : Fin 6) (old new : RouteRecord) (i : Fin 40) :
    (changeRoute p l k old new c).stationSlot i = c.stationSlot i := by
  simp [changeRoute]

/-- The directory as a change of a record and of its source leaves it before anything settles (01 R13, R16). -/
def altered (p : Port) (l : Fin 8) (k : Fin 6) (old new : RouteRecord) (c : Cabin) : Cabin :=
  moveRef old.source new.source (changeRoute p l k old new c)

theorem altered_route (p : Port) (l m : Fin 8) (k j : Fin 6) (old new : RouteRecord) :
    (altered p l k old new c).route m j = if (m, j) = (l, k) then
      ⟨(c.route l k).gen, some { new with altered := old.altered || decide (p ≠ old.owner) }⟩ else c.route m j := by
  rw [altered, moveRef_route, changeRoute_route]

theorem altered_stationSlot (p : Port) (l : Fin 8) (k : Fin 6) (old new : RouteRecord) (i : Fin 40) :
    (altered p l k old new c).stationSlot i =
      StationSlot.moved (if new.source ≠ old.source ∧ new.source = .station (c.stationId i) then 1 else 0)
        (if new.source ≠ old.source ∧ old.source = .station (c.stationId i) then 1 else 0) (c.stationSlot i) := by
  rw [altered, moveRef_stationSlot, changeRoute_stationSlot,
    stationId_of_gen (congrArg StationSlot.gen (changeRoute_stationSlot c p l k old new i))]

theorem altered_keepsBooks {c : Cabin} {p : Port} {l : Fin 8} {k : Fin 6} {old new : RouteRecord}
    (hold : (c.route l k).record = some old)
    (hdup : new.present = true → old.present = false ∨ new.source ≠ old.source → duplicateIn c l (some k) new.source = false)
    (hlive : ∀ g, new.source ≠ old.source → new.source = .station g → (c.station g).isSome = true) :
    KeepsBooks c (altered p l k old new c) := by
  have hclaim := claim_of_record hold
  refine .of_claim (l := l) (k := k) (some (new.present, new.source)) (fun m j => ?_) (fun hc src hsrc => ?_)
    (fun i => ?_) (fun hc g hg => ?_)
  · simp only [Cabin.claim, altered_route]
    split <;> rfl
  · simp only [Option.some.injEq, Prod.mk.injEq] at hsrc
    obtain ⟨hp, rfl⟩ := hsrc
    by_cases hsame : old.present = true ∧ new.source = old.source
    · refine hc.noDuplicate ?_
      rw [hclaim, hsame.1, hsame.2]
    · refine hdup hp ?_
      by_cases ho : old.present = true
      · exact .inr fun e => hsame ⟨ho, e⟩
      · exact .inl (by simpa using ho)
  · rw [altered_stationSlot, hclaim]
    by_cases hs : new.source = old.source
    · by_cases ho : old.source = .station (c.stationId i) <;> simp [hs, ho]
    · simp [hs]
  · simp only [Option.map_some, Option.some.injEq] at hg
    by_cases hs : new.source = old.source
    · exact ((refsMatch_iff c).mp hc).2 l k g (by simp [hclaim, ← hs, hg])
    · exact hlive g hs hg

/-! ## Retire Route and Clear Zone Routes -/

theorem orphanRoute_route (h : RouteId) (l : Fin 8) (k : Fin 6) : (orphanRoute h c).route l k = c.route l k :=
  route_of_lists (by simp) l k

theorem orphanRoute_stationSlot (h : RouteId) (i : Fin 40) : (orphanRoute h c).stationSlot i = c.stationSlot i :=
  stationSlot_of_slots (by simp) i

theorem retireRouteAt_route (p : Port) (l m : Fin 8) (k j : Fin 6) (r : RouteRecord) :
    (retireRouteAt p l k r c).route m j = if (m, j) = (l, k) then ⟨(c.route l k).gen + 1, none⟩ else c.route m j := by
  simp only [retireRouteAt, markListStale_route, postIf_route, dropRef_route, setRouteSlot_route, orphanRoute_route]

theorem retireRouteAt_stationSlot (p : Port) (l : Fin 8) (k : Fin 6) (r : RouteRecord) (i : Fin 40) :
    (retireRouteAt p l k r c).stationSlot i =
      StationSlot.moved 0 (if r.source = .station (c.stationId i) then 1 else 0) (c.stationSlot i) := by
  simp only [retireRouteAt, markListStale_stationSlot, postIf_stationSlot, dropRef_stationSlot,
    setRouteSlot_stationSlot, orphanRoute_stationSlot]
  rfl

theorem retireRouteAt_keepsBooks {c : Cabin} {p : Port} {l : Fin 8} {k : Fin 6} {r : RouteRecord}
    (hr : (c.route l k).record = some r) : KeepsBooks c (retireRouteAt p l k r c) := by
  refine .of_claim (l := l) (k := k) none (fun m j => ?_) (fun _ _ h => by cases h) (fun i => ?_) (fun _ _ h => by cases h)
  · simp only [Cabin.claim, retireRouteAt_route]
    split <;> rfl
  · simp [retireRouteAt_stationSlot, claim_of_record hr]

theorem retireIfOccupied_keepsBooks (p : Port) (x : Fin 8 × Fin 6) : KeepsBooks c (retireIfOccupied p x c) := by
  unfold retireIfOccupied
  split
  · exact .refl c
  · exact retireRouteAt_keepsBooks ‹_›

theorem retireAll_keepsBooks (p : Port) (l : List (Fin 8 × Fin 6)) :
    KeepsBooks c (l.foldl (fun c x => retireIfOccupied p x c) c) := by
  induction l generalizing c with
  | nil => exact .refl c
  | cons x l ih => exact (retireIfOccupied_keepsBooks c p x).trans (ih _)

/-! ## The requests -/

theorem settlePlaced_sameBooks (l : Fin 8) (k : Fin 6) : SameBooks c (settlePlaced l k c) := by
  unfold settlePlaced
  split
  · exact .refl c
  · rename_i r hr
    refine ⟨fun m j => ?_, fun _ => ⟨rfl, rfl⟩⟩
    simp only [Cabin.claim, setRouteRecord_route]
    split
    · rename_i h
      obtain ⟨rfl, rfl⟩ := Prod.mk.inj h
      simp [hr]
    · rfl

theorem placeRoute_keepsRoutes (p : Port) (a : PlaceArgs) : KeepsRoutes c (placeRoute p a c) := by
  unfold placeRoute
  split
  · exact (apart_refuse ..).keeps
  · split
    · exact (apart_refuse ..).keeps
    · rename_i f _ _ src hsrc
      split
      · exact (apart_refuse ..).keeps
      · split
        · exact (apart_refuse ..).keeps
        · rename_i hdup
          split
          · exact (apart_refuse ..).keeps
          · rename_i k hk
            have hbooks : KeepsBooks c (placed f.list k (placedRecord p f src a) c) := by
              refine placed_keepsBooks (placeSlot_free hk) (fun hp => ?_) (fun g hg => ?_)
              · have hp : f.present = true := hp
                exact (show listNames c f.list src = false by simpa [hp] using hdup)
              · have hg : src = .station g := hg
                exact resolveSource_live (hg ▸ hsrc)
            rw [placeAt_eq]
            refine KeepsRoutes.respond (settleRoutes_keepsRoutes ?_) ..
            exact ((hbooks.trans (settleAllocator_keepsBooks _)).trans (settlePlaced_sameBooks _ f.list k).keeps).trans
              (testTraffic_sameBooks _).keeps

theorem alterRoute_keepsRoutes (p : Port) (h : Handle) (a : AlterArgs) : KeepsRoutes c (alterRoute p h a c) := by
  unfold alterRoute
  split
  · exact (apart_refuse ..).keeps
  · rename_i l k _
    split
    · split
      · exact (apart_refuse ..).keeps
      · rename_i r hr
        split
        · exact (apart_refuse ..).keeps
        · rename_i src hsrc
          split
          · exact (apart_refuse ..).keeps
          · split
            · exact (apart_refuse ..).keeps
            · rename_i hdup
              unfold alterAt
              refine KeepsRoutes.respond ?_ ..
              split
              · exact .refl c
              · refine settleInputs_keepsRoutes (altered_keepsBooks (p := p) (new := alteredRecord r src a)
                  (routeOf_record hr) (fun hp hne => ?_) (fun g hne hg => ?_))
                · have hp : r.present = true := hp
                  have hne : src ≠ r.source := hne.resolve_left (by simp [hp])
                  simpa [hp, hne, alteredRecord] using hdup
                · have hg : src = .station g := hg
                  have hne : src ≠ r.source := hne
                  cases ha : a.source with
                  | none => simp [optSource, ha, hne.symm] at hsrc
                  | some raw =>
                    simp only [optSource, ha, Option.bind_eq_some_iff] at hsrc
                    obtain ⟨asked, -, hsrc⟩ := hsrc
                    exact resolveSource_live (hg ▸ hsrc)
    · exact (apart_refuse ..).keeps

/-- Parking a record, or unparking one that duplicates no other, keeps the books and the states. -/
theorem setPresent_keepsRoutes {c : Cabin} {p : Port} {l : Fin 8} {k : Fin 6} {r : RouteRecord} {v : Bool}
    (hr : (c.route l k).record = some r) (hdup : v = true → duplicateIn c l (some k) r.source = false) :
    KeepsRoutes c (setPresent p l k r v c) := by
  have hbooks : KeepsBooks c (altered p l k r { r with present := v } c) :=
    altered_keepsBooks hr (fun hp _ => hdup hp) (fun _ hne => absurd rfl hne)
  have hsame : altered p l k r { r with present := v } c = changeRoute p l k r { r with present := v } c := if_pos rfl
  exact (settleInputs_keepsRoutes (hsame ▸ hbooks)).respond ..

theorem parkRoute_keepsRoutes (p : Port) (h : Handle) : KeepsRoutes c (parkRoute p h c) := by
  unfold parkRoute
  repeat' split
  · exact (apart_refuse ..).keeps
  · exact (apart_refuse ..).keeps
  · exact (apart_refuse ..).keeps
  · exact (apart_refuse ..).keeps
  · exact setPresent_keepsRoutes (routeOf_record ‹_›) (by simp)

theorem unparkRoute_keepsRoutes (p : Port) (h : Handle) : KeepsRoutes c (unparkRoute p h c) := by
  unfold unparkRoute
  repeat' split
  · exact (apart_refuse ..).keeps
  · exact (apart_refuse ..).keeps
  · exact (apart_refuse ..).keeps
  · exact (apart_refuse ..).keeps
  · exact (apart_refuse ..).keeps
  · rename_i hdup
    exact setPresent_keepsRoutes (routeOf_record ‹_›) (fun _ => by simpa using hdup)

theorem retireRoute_keepsRoutes (p : Port) (h : Handle) : KeepsRoutes c (retireRoute p h c) := by
  unfold retireRoute
  repeat' split
  · exact (apart_refuse ..).keeps
  · exact (apart_refuse ..).keeps
  · exact (apart_refuse ..).keeps
  · exact (settleInputs_keepsRoutes (retireRouteAt_keepsBooks (routeOf_record ‹_›))).respond ..

theorem clearZoneRoutes_keepsRoutes (p : Port) (n : Nat) : KeepsRoutes c (clearZoneRoutes p n c) := by
  unfold clearZoneRoutes
  split
  · exact (apart_refuse ..).keeps
  · refine KeepsRoutes.respond ?_ ..
    split
    · exact .refl c
    · exact settleInputs_keepsRoutes (retireAll_keepsBooks ..)

/-- A record whose claim and state are those of the record it replaces. -/
theorem setRouteRecord_quiet {c : Cabin} {l : Fin 8} {k : Fin 6} {r q : RouteRecord} (hq : (c.route l k).record = some q)
    (hp : r.present = q.present) (hs : r.source = q.source) (hst : r.state = q.state) :
    Quiet c (setRouteRecord l k r c) := by
  refine ⟨⟨fun m j => ?_, fun _ => ⟨rfl, rfl⟩⟩, fun m j => ?_, fun _ => ⟨rfl, rfl⟩, rfl, fun _ => ⟨rfl, rfl⟩⟩
  · simp only [Cabin.claim, setRouteRecord_route]
    split
    · rename_i h
      obtain ⟨rfl, rfl⟩ := Prod.mk.inj h
      simp [hq, hp, hs]
    · rfl
  · rw [setRouteRecord_route]
    split
    · rename_i h
      obtain ⟨rfl, rfl⟩ := Prod.mk.inj h
      simp [hq, hp, hs, hst]
    · rfl

theorem clearMarks_keepsRoutes (p : Port) (h : Handle) : KeepsRoutes c (clearMarks p h c) := by
  unfold clearMarks
  repeat' split
  · exact (apart_refuse ..).keeps
  · exact (apart_refuse ..).keeps
  · exact (apart_refuse ..).keeps
  · rename_i r hr _
    refine KeepsRoutes.respond (Quiet.keeps ?_) ..
    exact setRouteRecord_quiet (routeOf_record hr) rfl rfl rfl

/-! ## Zones, links, the grant and the streams -/

theorem changeZone_sameBooks (z : Zone) (e : ZoneEntry) : SameBooks c (changeZone z e c) :=
  .of_eq (by simp [changeZone]) (by simp [changeZone])

theorem setZone_keepsRoutes (img : Image) (p : Port) (n : Nat) (a : ZoneArgs) : KeepsRoutes c (setZone img p n a c) := by
  unfold setZone
  split
  · exact (apart_refuse ..).keeps
  · split
    · exact (apart_refuse ..).keeps
    · split
      · exact (apart_refuse ..).keeps
      · refine KeepsRoutes.respond ?_ ..
        split
        · exact .refl c
        · unfold zoneChanged
          split
          · exact settleDirectory_keepsRoutes (changeZone_sameBooks ..).keeps
          · exact settleInputs_keepsRoutes (changeZone_sameBooks ..).keeps

theorem linkList_keepsRoutes (p : Port) (n : Nat) (m : Option Nat) : KeepsRoutes c (linkList p n m c) := by
  unfold linkList
  split
  · split
    · exact (apart_refuse ..).keeps
    · refine KeepsRoutes.respond ?_ ..
      split
      · exact .refl c
      · exact settleInputs_keepsRoutes (changeZone_sameBooks ..).keeps
  · exact (apart_refuse ..).keeps

/-- A zone entry that keeps whether the zone is present and which list it links. -/
theorem setZoneEntry_quiet {c : Cabin} {z : Zone} {e : ZoneEntry} (hp : e.present = (c.zone z).present)
    (hl : e.list = (c.zone z).list) : Quiet c (setZoneEntry z e c) := by
  refine ⟨.of_eq rfl rfl, fun _ _ => rfl, fun y => ?_, rfl, fun _ => ⟨rfl, rfl⟩⟩
  by_cases h : y = z
  · subst h
    simpa [Cabin.zone] using And.intro hp hl
  · simp [Cabin.zone, PerZone.get_set_ne _ _ _ _ h]

theorem readZone_keepsRoutes (p : Port) (n : Nat) : KeepsRoutes c (readZone p n c) := by
  unfold readZone
  split
  · exact (apart_refuse ..).keeps
  · refine KeepsRoutes.respond (Quiet.keeps ?_) ..
    exact setZoneEntry_quiet rfl rfl

theorem grantRearControl_keepsRoutes (p : Port) (v : Nat) : KeepsRoutes c (grantRearControl p v c) := by
  unfold grantRearControl
  split
  · exact (apart_refuse ..).keeps
  · split
    · exact (apart_refuse ..).keeps
    · refine KeepsRoutes.respond ?_ ..
      split
      · exact .refl c
      · refine KeepsRoutes.trans (Quiet.keeps ?_) (apart_postBoth _ _).keeps
        exact ⟨.of_eq rfl rfl, fun _ _ => rfl, fun _ => ⟨rfl, rfl⟩, rfl, fun _ => ⟨rfl, rfl⟩⟩

theorem declareMedia_sameBooks (n : Fin 4) (v : Option Bool) : SameBooks c (declareMedia n v c) := by
  unfold declareMedia
  repeat' split
  · exact .refl c
  · exact .refl c
  · exact .of_eq rfl rfl

theorem mediaState_keepsRoutes (p : Port) (m0 m1 m2 m3 : Option Nat) : KeepsRoutes c (mediaState p m0 m1 m2 m3 c) := by
  unfold mediaState
  split
  · exact (apart_refuse ..).keeps
  · split
    · exact (apart_refuse ..).keeps
    · refine KeepsRoutes.respond ?_ ..
      split
      · exact .refl c
      · exact settleStates_keepsRoutes ((((declareMedia_sameBooks c 0 _).trans (declareMedia_sameBooks _ 1 _)).trans
          (declareMedia_sameBooks _ 2 _)).trans (declareMedia_sameBooks _ 3 _)).keeps

end Sys2Proof.Machine
end

section
/-! SUPPORT. The commands of the tuners, the scan and the decoder, the ticks and the resets keep the route books and the
derived states. -/

namespace Sys2Proof.Machine

variable (c : Cabin)

/-! ## Channels and tuners -/

/-- A channel that keeps its station, its retune and whether its tuner is on an excursion. -/
theorem setChan_quiet {c : Cabin} {x : Chan} {v : ProgChan} (hs : v.station = (c.chan x).station)
    (hr : v.retuning = (c.chan x).retuning) (hp : selfProbing v = selfProbing (c.chan x)) : Quiet c (setChan x v c) := by
  refine ⟨.of_eq rfl rfl, fun _ _ => rfl, fun _ => ⟨rfl, rfl⟩, rfl, fun y => ?_⟩
  by_cases h : y = x
  · subst h
    simpa [Cabin.chan, tunerAway] using And.intro hs (congrArg₂ or hr hp)
  · simp [Cabin.chan, tunerAway, PerChan.get_set_ne _ _ _ _ h]

theorem setTuner_quiet (t : TunerId) (v : Tuner) : Quiet c (setTuner t v c) := Apart.quiet ⟨rfl, rfl, rfl⟩

theorem settleRoles_quiet : Quiet c (settleRoles c) := Apart.quiet ⟨by simp, by simp, by simp⟩

theorem modifyStation_quiet (i : Fin 40) (g : Station → Station) (hg : ∀ r, (g r).refs = r.refs) :
    Quiet c (modifyStation i g c) := ⟨modifyStation_sameBooks c i g hg, .of_eq (by simp) (by simp)⟩

theorem takeQuality_fields (v : ProgChan) : (takeQuality c v).station = v.station ∧
    (takeQuality c v).retuning = v.retuning ∧ (takeQuality c v).follow = v.follow := by
  unfold takeQuality
  repeat' split
  all_goals exact ⟨rfl, rfl, rfl⟩

theorem selfProbing_of_follow {v w : ProgChan} (h : v.follow = w.follow) : selfProbing v = selfProbing w := by
  simp only [selfProbing, h]

theorem reselect_quiet (x : Chan) : Quiet c (reselect x c) := by
  unfold reselect
  split
  · exact .refl c
  · split
    · obtain ⟨hs, hr, hf⟩ := takeQuality_fields c { c.chan x with partner := !(c.chan x).partner }
      exact setChan_quiet hs hr (selfProbing_of_follow hf)
    · exact .refl c

theorem endDiversity_quiet (x : Chan) : Quiet c (endDiversity x c) := by
  unfold endDiversity
  dsimp only
  split
  · obtain ⟨hs, hr, hf⟩ := takeQuality_fields c { c.chan x with diversity := false, partner := false }
    exact setChan_quiet hs hr (selfProbing_of_follow hf)
  · exact setChan_quiet rfl rfl rfl

theorem noteChanQuality_quiet (x : Chan) (q : Nat) : Quiet c (noteChanQuality x q c) := by
  unfold noteChanQuality
  split
  · exact setChan_quiet rfl rfl rfl
  · rename_i h _
    have hm : Quiet c (noteRecordQuality h q c) := modifyStation_quiet c _ _ fun _ => rfl
    have hchan : (noteRecordQuality h q c).chan x = c.chan x := by simp [noteRecordQuality, Cabin.chan]
    refine hm.trans (setChan_quiet ?_ ?_ ?_) <;> rw [hchan] <;> rfl

theorem startDiversity_quiet (x : Chan) : Quiet c (startDiversity x c) := by
  unfold startDiversity
  split
  · exact ((setChan_quiet (x := x) (by rfl) (by rfl) (by rfl)).trans (settleRoles_quiet _)).trans (setTuner_quiet ..)
  · exact .refl c

theorem measureOn_quiet (t : TunerId) (x : Chan) (raw : Nat) : Quiet c (measureOn t x raw c) := by
  unfold measureOn
  extract_lets q ofChannel old d e
  have hd : Quiet c d := setTuner_quiet ..
  have he : Quiet d e := by
    refine Quiet.trans ?_ (reselect_quiet _ x)
    split
    · exact noteChanQuality_quiet ..
    · exact .refl d
  split
  · exact (hd.trans he).trans (startDiversity_quiet ..)
  · exact hd.trans he

theorem measurement_quiet (img : Image) (t : TunerId) (f : Figures) : Quiet c (measurement img t f c) := by
  unfold measurement
  split
  · exact .refl c
  · exact measureOn_quiet ..

theorem diversityOff_quiet (x : Chan) : Quiet c (diversityOff x c) := by
  unfold diversityOff exchange
  split
  · refine Quiet.trans ?_ (settleRoles_quiet _)
    split <;> exact setChan_quiet rfl rfl rfl
  · exact .refl c

/-! ## Follows -/

theorem setFollow_quiet {c : Cabin} {x : Chan} {f : Follow} (hp : selfProbing (c.chan x) = false)
    (hf : f.phase ≠ .away) : Quiet c (setFollow x f c) :=
  setChan_quiet rfl rfl (by rw [hp]; exact decide_eq_false hf)

theorem endFollow_quiet {c : Cabin} {x : Chan} (hp : selfProbing (c.chan x) = false) : Quiet c (endFollow x c) :=
  setChan_quiet rfl rfl (by rw [hp]; rfl)

theorem moveRecord_quiet (h : StationId) (ch raw : Nat) : Quiet c (modifyStation h.slot (moveRecord ch raw) c) :=
  modifyStation_quiet c _ _ fun _ => rfl

theorem adoptBorrowed_quiet {c : Cabin} {x : Chan} (hp : selfProbing (c.chan x) = false) (h : StationId) (t : TunerId)
    (ch raw : Nat) : Quiet c (adoptBorrowed x h t ch raw c) := by
  unfold adoptBorrowed
  extract_lets d old e
  have hchan : e.chan x = c.chan x := by simp [e, d, Cabin.chan]
  have hd : Quiet c d := moveRecord_quiet ..
  have he : Quiet d e := setTuner_quiet ..
  refine ((hd.trans he).trans ?_).trans (settleRoles_quiet _)
  exact setChan_quiet rfl rfl (by rw [show e.chan x = _ from hchan, hp]; rfl)

/-- A borrowing follow, which is on no excursion, goes on to no excursion. -/
theorem advanceBorrowed_quiet {c : Cabin} {x : Chan} (hp : selfProbing (c.chan x) = false) (h : StationId) (t : TunerId)
    (f : Follow) : Quiet c (advanceBorrowed x h t f c) := by
  unfold advanceBorrowed decideBorrowed
  repeat' split
  · exact (endFollow_quiet hp).trans (settleRoles_quiet _)
  · exact adoptBorrowed_quiet hp ..
  · exact (setFollow_quiet hp (by simp)).trans (setTuner_quiet ..)
  · exact (setFollow_quiet hp (by simp)).trans (setTuner_quiet ..)

theorem advanceSelf_sameBooks (x : Chan) (h : StationId) (t : TunerId) (f : Follow) :
    SameBooks c (advanceSelf x h t f c) := by
  unfold advanceSelf decideSelf
  repeat' split
  · exact .of_eq rfl rfl
  · exact (moveRecord_quiet c h ..).1.trans (.of_eq (by rw [beginRetune_dir]) (by rw [beginRetune_table]))
  · exact .of_eq rfl rfl

theorem followStart_keepsRoutes (x : Chan) : KeepsRoutes c (followStart x c) := by
  unfold followStart
  repeat' split
  · rename_i h t _ _ hmay _ _
    have hnone : (c.chan x).follow = none := by
      simp only [mayFollow, Bool.and_eq_true, decide_eq_true_eq] at hmay
      exact hmay.1.1.2
    have hend : selfProbing ((endDiversity x c).chan x) = false := by
      have hchan : (endDiversity x c).chan x = if (c.chan x).partner then
          takeQuality c { c.chan x with diversity := false, partner := false }
          else { c.chan x with diversity := false, partner := false } := by
        simp [endDiversity, Cabin.chan]
      rw [hchan]
      split
      · rw [selfProbing, (takeQuality_fields c _).2.2, hnone]
      · rw [selfProbing, hnone]
    unfold startBorrowed
    refine Quiet.keeps ((((endDiversity_quiet c x).trans (setFollow_quiet hend ?_)).trans (settleRoles_quiet _)).trans
      (advanceBorrowed_quiet ?_ h t.other _))
    · simp [newFollow]
    · simp [Cabin.chan, setFollow, selfProbing, newFollow]
  · exact settleStates_keepsRoutes (advanceSelf_sameBooks ..).keeps
  · exact .refl c
  · exact .refl c

theorem noteProbe_quiet (h : StationId) (ch raw : Nat) : Quiet c (noteProbe h ch raw c) :=
  modifyStation_quiet c _ _ fun _ => rfl

theorem selfProbing_eq_false {v : ProgChan} {f : Follow} (hf : v.follow = some f) (hp : f.phase ≠ .away) :
    selfProbing v = false := by
  simp [selfProbing, hf, hp]

theorem followProbeComplete_quiet (img : Image) (g : Figures) : Quiet c (followProbeComplete img g c) := by
  unfold followProbeComplete probeEnd
  split
  · exact .refl c
  · split
    · rename_i hf
      split
      · exact .refl c
      · split
        · rename_i hphase
          simp only [Bool.and_eq_true, decide_eq_true_eq] at hphase
          refine (noteProbe_quiet c ..).trans (advanceBorrowed_quiet ?_ ..)
          simp only [noteProbe, Cabin.chan, modifyStation_alloc]
          exact selfProbing_eq_false hf (by simp [hphase.2])
        · exact .refl c
    · exact .refl c

theorem followWinnerTuned_quiet : Quiet c (followWinnerTuned c) := by
  unfold followWinnerTuned winnerTuned
  split
  · exact .refl c
  · split
    · rename_i hf
      split
      · rename_i hphase
        have hp := selfProbing_eq_false hf (by simp [hphase])
        split
        · exact adoptBorrowed_quiet hp ..
        · exact (endFollow_quiet hp).trans (settleRoles_quiet _)
      · exact .refl c
      · exact .refl c
      · exact .refl c
    · exact .refl c

theorem excursionStart_keepsRoutes (x : Chan) : KeepsRoutes c (excursionStart x c) := by
  unfold excursionStart
  repeat' split
  · exact settleStates_keepsRoutes (advanceSelf_sameBooks ..).keeps
  · exact .refl c
  · exact .refl c

theorem decideSelf_sameBooks (x : Chan) (h : StationId) (f : Follow) : SameBooks c (decideSelf x h f c) := by
  unfold decideSelf
  split
  · exact .of_eq rfl rfl
  · exact (moveRecord_quiet c h ..).1.trans (.of_eq (by rw [beginRetune_dir]) (by rw [beginRetune_table]))

theorem excursionEnd_keepsRoutes (img : Image) (x : Chan) (g : Figures) : KeepsRoutes c (excursionEnd img x g c) := by
  unfold excursionEnd
  split
  · split
    · exact .refl c
    · split
      · refine settleStates_keepsRoutes (SameBooks.keeps ?_)
        have hreturn : ∀ h t f (d : Cabin), SameBooks d (returnFrom x h t f d) := fun _ _ _ _ => .of_eq rfl rfl
        dsimp only
        split
        · exact ((noteProbe_quiet c ..).1.trans (hreturn ..)).trans (decideSelf_sameBooks ..)
        · exact (noteProbe_quiet c ..).1.trans (hreturn ..)
      · exact .refl c
  · exact .refl c

theorem retuneComplete_keepsRoutes (x : Chan) : KeepsRoutes c (retuneComplete x c) := by
  unfold retuneComplete
  split
  · exact settleStates_keepsRoutes (SameBooks.keeps (.of_eq rfl rfl))
  · exact .refl c

theorem discardPass_sameBooks : SameBooks c (discardPass c) := by
  refine ⟨fun _ _ => rfl, fun i => ?_⟩
  simp [discardPass, tuneScan, clearReceived, Cabin.stationSlot, Function.comp_def]

theorem stopTuners_keepsRoutes : KeepsRoutes c (stopTuners c) :=
  settleStates_keepsRoutes (SameBooks.keeps (SameBooks.trans (.of_eq (by simp) (by simp)) (discardPass_sameBooks _)))

theorem restartTuners_keepsRoutes : KeepsRoutes c (restartTuners c) :=
  settleStates_keepsRoutes (SameBooks.keeps (.of_eq (by simp) (by simp)))

/-! ## The scan and the decoder -/

/-- A change of the station table alone leaves every route's state as it is. -/
theorem KeepsRoutes.of_table {d : Cabin} (hb : KeepsBooks c d) (hd : d.dir = c.dir) (ha : d.alloc.chans = c.alloc.chans) :
    KeepsRoutes c d := ⟨hb, .of_eq hd ha⟩

theorem ageSlot_dir (i : Fin 40) : (ageSlot i c).dir = c.dir := by
  unfold ageSlot
  repeat' split
  · rfl
  · rw [postBoth_dir, retireStationSlot_dir]
  · simp

theorem ageSlot_alloc (i : Fin 40) : (ageSlot i c).alloc = c.alloc := by
  unfold ageSlot
  repeat' split
  · rfl
  · rw [postBoth_alloc]; simp [retireStationSlot, setStationSlot]
  · simp

theorem agedRecord_refs (r : Station) : (agedRecord r).refs = r.refs := by
  unfold agedRecord
  dsimp only
  split
  · rfl
  · split
    · rfl
    · split <;> rfl

theorem ageSlot_keepsBooks (i : Fin 40) : KeepsBooks c (ageSlot i c) := by
  unfold ageSlot
  repeat' split
  · exact .refl c
  · rename_i h
    simp only [Bool.and_eq_true, Bool.not_eq_true'] at h
    exact (retireStationSlot_keepsBooks h.2).trans (apart_postBoth ..).sameBooks.keeps
  · exact (modifyStation_sameBooks c i _ agedRecord_refs).keeps

theorem ageAll_keepsBooks (l : List (Fin 40)) : KeepsBooks c (l.foldl (fun c i => ageSlot i c) c) := by
  induction l generalizing c with
  | nil => exact .refl c
  | cons i l ih => exact (ageSlot_keepsBooks c i).trans (ih _)

theorem completePass_keepsRoutes : KeepsRoutes c (completePass c) := by
  have hall : KeepsBooks c (eachIdx 40 ageSlot c) := ageAll_keepsBooks c _
  have hdir : (eachIdx 40 ageSlot c).dir = c.dir := eachIdx_keeps (fun c : Cabin => c.dir) 40 _ (fun i c => ageSlot_dir c i) c
  have halloc : (eachIdx 40 ageSlot c).alloc = c.alloc :=
    eachIdx_keeps (fun c : Cabin => c.alloc) 40 _ (fun i c => ageSlot_alloc c i) c
  unfold completePass
  generalize eachIdx 40 ageSlot c = d at hall hdir halloc ⊢
  exact .of_table c (hall.trans (SameBooks.keeps (.of_eq rfl rfl))) hdir (congrArg Allocator.chans halloc)

theorem advanceScan_keepsRoutes : KeepsRoutes c (advanceScan c) := by
  have htune : ∀ d : Cabin, KeepsRoutes d (tuneScan d) := fun d => Apart.keeps ⟨rfl, rfl, rfl⟩
  unfold advanceScan
  split
  · exact KeepsRoutes.trans (Apart.keeps ⟨rfl, rfl, rfl⟩) (htune _)
  · exact (completePass_keepsRoutes c).trans (htune _)

theorem createStation_keepsRoutes {c : Cabin} {i : Fin 40} {r : Station} (hfree : (c.stationSlot i).record = none)
    (hrefs : r.refs = 0) : KeepsRoutes c (createStation i r c) :=
  .of_table c (createStation_keepsBooks hfree hrefs) (by simp [createStation, setStationSlot])
    (by simp [createStation, setStationSlot])

theorem freeStationSlot_free {c : Cabin} {i : Fin 40} (h : freeStationSlot c = some i) : (c.stationSlot i).record = none :=
  of_decide_eq_true (firstIdx_some h)

/-- The record that a newcomer displaces is not held. -/
theorem displacedStation_not_held {c : Cabin} {j : Fin 40} {b : Station} (h : displacedStation c = some (j, b)) :
    held c j = false := by
  unfold displacedStation at h
  have hinv : ∀ (l : List (Fin 40)) (best : Option (Fin 40 × Station)), (∀ x, best = some x → held c x.1 = false) →
      ∀ x, l.foldl (fun best i => match (c.stationSlot i).record with
        | none => best
        | some r =>
          if r.state = .candidate ∧ held c i = false then
            match best with
            | none => some (i, r)
            | some (j, b) => if r.quality < b.quality then some (i, r) else some (j, b)
          else best) best = some x → held c x.1 = false := by
    intro l
    induction l with
    | nil => intro best hb x hx; exact hb x hx
    | cons i l ih =>
      intro best hb x hx
      rw [List.foldl_cons] at hx
      refine ih _ (fun y hy => ?_) x hx
      split at hy
      · exact hb y hy
      · split at hy
        · rename_i hfree
          split at hy
          · cases hy; exact hfree.2
          · split at hy
            · cases hy; exact hfree.2
            · exact hb y hy
        · exact hb y hy
  exact hinv _ none (fun x hx => by cases hx) (j, b) h

theorem createFound_keepsRoutes (raw : Nat) (identity : Option Nat) : KeepsRoutes c (createFound raw identity c) := by
  unfold createFound
  dsimp only
  split
  · exact createStation_keepsRoutes (freeStationSlot_free ‹_›) rfl
  · split
    · rename_i hj
      split
      · refine KeepsRoutes.trans (.of_table c (retireStationSlot_keepsBooks (displacedStation_not_held hj)) ?_ ?_)
          (createStation_keepsRoutes (by simp [retireStationSlot_stationSlot]) rfl)
        · rw [retireStationSlot_dir]
        · simp [retireStationSlot, setStationSlot]
      · exact Apart.keeps ⟨rfl, rfl, rfl⟩
    · exact Apart.keeps ⟨rfl, rfl, rfl⟩

theorem scanKnown_keepsRoutes (i : Fin 40) (raw : Nat) : KeepsRoutes c (scanKnown i raw c) := by
  unfold scanKnown
  split
  · exact advanceScan_keepsRoutes c
  · split
    · split
      · exact (modifyStation_quiet c i _ (fun _ => by rfl)).keeps.trans (advanceScan_keepsRoutes _)
      · exact advanceScan_keepsRoutes c
    · have hscan : KeepsRoutes c (modifyStation i (scanRecord raw) c) := (modifyStation_quiet c i _ fun _ => by rfl).keeps
      dsimp only
      split
      · exact hscan.trans (Apart.keeps ⟨rfl, rfl, rfl⟩)
      · exact hscan.trans (advanceScan_keepsRoutes _)

theorem scanMeasurement_keepsRoutes (img : Image) (f : Figures) : KeepsRoutes c (scanMeasurement img f c) := by
  unfold scanMeasurement scanOutcome
  repeat' split
  · exact scanKnown_keepsRoutes ..
  · exact advanceScan_keepsRoutes c
  · exact Apart.keeps ⟨rfl, rfl, rfl⟩
  · exact (createFound_keepsRoutes c _ none).trans (advanceScan_keepsRoutes _)
  · exact .refl c

theorem dwellOutcome_keepsBooks (raw : Nat) (accepted : Option Nat) : KeepsBooks c (dwellOutcome raw accepted c) := by
  unfold dwellOutcome dwellNew
  repeat' split
  · exact (createFound_keepsRoutes ..).1
  · exact (modifyStation_quiet c _ _ fun _ => by rfl).1.keeps
  · exact (createFound_keepsRoutes ..).1
  · exact .refl c
  · exact applyIdentity_keepsBooks ..

theorem dwellEnd_keepsRoutes (accepted : Option Nat) : KeepsRoutes c (dwellEnd accepted c) := by
  unfold dwellEnd
  split
  · exact .refl c
  · rename_i raw _
    refine settleDirectory_keepsRoutes ?_
    have hclear : KeepsBooks c { c with table := { c.table with dwell := none } } := SameBooks.keeps (.of_eq rfl rfl)
    exact (hclear.trans (dwellOutcome_keepsBooks _ raw accepted)).trans (advanceScan_keepsRoutes _).1

theorem acceptFlags_sameBooks (h : StationId) (tp ta : Bool) : SameBooks c (acceptFlags h tp ta c) := by
  unfold acceptFlags clearTraffic
  extract_lets d
  have hd : SameBooks c d := modifyStation_sameBooks _ _ _ fun _ => by rfl
  refine hd.trans ?_
  split
  · exact .of_eq (by simp) (by simp)
  · refine .of_eq ?_ ?_
    · rw [unignoreStation_dir]; split <;> simp
    · rw [unignoreStation_table]; split <;> simp

theorem takeAlt_refs (ch : Option Nat) (r : Station) : (takeAlt ch r).refs = r.refs := by
  unfold takeAlt
  repeat' split
  all_goals rfl

theorem takeContent_sameBooks (t : TunerId) (h : StationId) (g : GroupContent) : SameBooks c (takeContent t h g c) := by
  cases g with
  | ident tp ta =>
    unfold takeContent
    simp only
    unfold takeIdent
    extract_lets a agrees d
    have hd : SameBooks c d := .of_eq rfl rfl
    split
    · exact hd.trans (acceptFlags_sameBooks ..)
    · exact hd
  | name seg u v =>
    unfold takeContent
    simp only
    unfold takeName
    extract_lets a d
    have hd : SameBooks c d := .of_eq rfl rfl
    split
    · exact hd.trans (modifyStation_sameBooks _ _ _ fun _ => by rfl)
    · exact hd
  | alts f g => exact modifyStation_sameBooks _ _ _ fun r => by rw [takeAlt_refs, takeAlt_refs]

theorem groupOnChan_keepsRoutes (t : TunerId) (x : Chan) (g : DataGroup) : KeepsRoutes c (groupOnChan t x g c) := by
  unfold groupOnChan
  extract_lets new d e f
  have hd : KeepsBooks c d := SameBooks.keeps (.of_eq rfl rfl)
  have he : KeepsBooks d e := by
    simp only [e]
    split
    · exact .refl d
    · split
      · exact applyIdentity_keepsBooks ..
      · exact .refl d
  have hf : KeepsBooks e f := by
    simp only [f]
    split
    · exact .refl e
    · split
      · exact (takeContent_sameBooks ..).keeps
      · exact .refl e
  exact settleDirectory_keepsRoutes ((hd.trans he).trans hf)

theorem dataGroup_keepsRoutes (t : TunerId) (g : DataGroup) : KeepsRoutes c (dataGroup t g c) := by
  unfold dataGroup groupInDwell
  split
  · exact .refl c
  · split
    · exact .refl c
    · exact groupOnChan_keepsRoutes ..
    · have hacc : KeepsRoutes c (setAcceptance t (countCode g.code (c.tuner t).acc) c) := Apart.keeps ⟨rfl, rfl, rfl⟩
      dsimp only
      split
      · exact hacc.trans (dwellEnd_keepsRoutes ..)
      · exact hacc

/-! ## The station requests -/

theorem keepStation_keepsRoutes (v : Bool) (p : Port) (h : Handle) : KeepsRoutes c (keepStation v p h c) := by
  unfold keepStation
  repeat' split
  · exact (apart_refuse ..).keeps
  · exact (apart_refuse ..).keeps
  · exact (modifyStation_quiet c _ _ (fun _ => by rfl)).keeps.respond ..

theorem retireStation_keepsRoutes (p : Port) (h : Handle) : KeepsRoutes c (retireStation p h c) := by
  unfold retireStation
  repeat' split
  · exact (apart_refuse ..).keeps
  · exact (apart_refuse ..).keeps
  · exact (apart_refuse ..).keeps
  · exact (apart_refuse ..).keeps
  · rename_i hheld
    refine KeepsRoutes.respond ?_ ..
    refine KeepsRoutes.trans (.of_table c (retireStationSlot_keepsBooks (by simpa using hheld)) ?_ ?_)
      (apart_postBoth ..).keeps
    · rw [retireStationSlot_dir]
    · simp [retireStationSlot, setStationSlot]

theorem addStation_keepsRoutes (p : Port) (b : Nat) (n : Int) : KeepsRoutes c (addStation p b n c) := by
  unfold addStation addStationAt
  repeat' split
  · exact (apart_refuse ..).keeps
  · exact (apart_respond ..).keeps
  · exact (apart_refuse ..).keeps
  · exact (createStation_keepsRoutes (freeStationSlot_free ‹_›) rfl).respond ..

theorem setWatched_sameBooks (h : StationId) (v : Bool) : SameBooks c (setWatched h v c) := by
  unfold setWatched
  split
  · exact modifyStation_sameBooks _ _ _ fun _ => rfl
  · exact .refl c

theorem putWatch_sameBooks (w : Option Watch) : SameBooks c (putWatch w c) := by
  unfold putWatch
  extract_lets d e
  have hd : SameBooks c d := by
    simp only [d]
    split
    · exact .refl c
    · exact setWatched_sameBooks ..
  have he : SameBooks d e := by
    simp only [e]
    split
    · exact .refl d
    · exact setWatched_sameBooks ..
  exact (hd.trans he).trans (.of_eq rfl rfl)

theorem setTrafficWatch_keepsRoutes (p : Port) (h : Option Handle) (n : Int) : KeepsRoutes c (setTrafficWatch p h n c) := by
  have hchange : ∀ w, KeepsRoutes c (changeWatch w c) := by
    intro w
    unfold changeWatch
    split
    · exact settleDirectory_keepsRoutes (putWatch_sameBooks ..).keeps
    · exact settleInputs_keepsRoutes (putWatch_sameBooks ..).keeps
  unfold setTrafficWatch
  repeat' split
  · exact (apart_refuse ..).keeps
  · exact (hchange _).respond ..
  · exact (apart_refuse ..).keeps
  · exact (apart_refuse ..).keeps
  · exact (apart_refuse ..).keeps
  · exact (hchange _).respond ..

theorem releaseHold_keepsRoutes (p : Port) : KeepsRoutes c (releaseHold p c) := by
  unfold releaseHold
  repeat' split
  · exact (apart_refuse ..).keeps
  · exact (apart_refuse ..).keeps
  · refine KeepsRoutes.respond (settleDirectory_keepsRoutes (SameBooks.keeps ?_)) ..
    exact .of_eq rfl rfl

/-! ## The ramp tick and the sample instant -/

theorem markHeard_quiet (h : RouteId) : Quiet c (markHeard h c) := by
  unfold markHeard
  split
  · exact .refl c
  · rename_i r hr
    unfold Cabin.liveRoute at hr
    split at hr
    · exact setRouteRecord_quiet hr rfl rfl rfl
    · cases hr

theorem markAllHeard_quiet (l : List RouteId) : Quiet c (l.foldl (fun c h => markHeard h c) c) := by
  induction l generalizing c with
  | nil => exact .refl c
  | cons h l ih => exact (markHeard_quiet c h).trans (ih _)

theorem runDownAll_apart : Apart c (eachIdx 8 (fun i c => modifyEntry i runDown c) c) :=
  ⟨eachIdx_keeps (fun c : Cabin => c.dir) 8 _ (fun i c => by simp) c,
   eachIdx_keeps (fun c : Cabin => c.table.slots) 8 _ (fun i c => by simp) c,
   eachIdx_keeps (fun c : Cabin => c.alloc.chans) 8 _ (fun i c => by simp) c⟩

theorem rampCabin_quiet (crank : Int) (muted : Bool) : Quiet c (rampCabin crank muted c) := by
  unfold rampCabin
  extract_lets heard d calls e
  have hd : Quiet c d := (markAllHeard_quiet c heard).trans (Apart.quiet ⟨rfl, rfl, rfl⟩)
  have he : Quiet d e := Apart.quiet ⟨rfl, rfl, rfl⟩
  exact (hd.trans he).trans ((runDownAll_apart e).trans (apart_settleHold _)).quiet

theorem setClip_quiet (z : Zone) : Quiet c (setClip z c) := by
  unfold setClip
  extract_lets e d
  have hd : Quiet c d := setZoneEntry_quiet rfl rfl
  exact hd.trans ((apart_postIf ..).trans (apart_postIf ..)).quiet

theorem mixCabin_quiet (x : SampleIn) : Quiet c (mixCabin x c) := by
  have hclips : ∀ (f : Zone → Bool) (l : List Zone) (d : Cabin),
      Quiet d (l.foldl (fun c z => if f z then setClip z c else c) d) := by
    intro f l
    induction l with
    | nil => exact .refl
    | cons z l ih =>
      intro d
      rw [List.foldl_cons]
      split
      · exact (setClip_quiet d z).trans (ih _)
      · exact ih d
  unfold mixCabin
  extract_lets feeds mix queue d
  have hd : Quiet c d := Apart.quiet ⟨rfl, rfl, rfl⟩
  exact hd.trans (hclips (clips feeds) Zone.all d)

theorem uplinkCabin_apart (img : Image) (n : Nat) (x : SampleIn) : Apart c (uplinkCabin img n x c) := by
  unfold uplinkCabin
  split <;> exact ⟨rfl, rfl, rfl⟩

theorem mixSample_quiet (x : SampleIn) (s : State) : Quiet s.cab (mixSample x s).cab :=
  (mixCabin_quiet s.cab x).trans (uplinkCabin_apart _ s.supply.image s.free x).quiet

/-! ## Resets, start-up and the supply -/

theorem KeepsRoutes.onCab {s : State} {f : Cabin → Cabin} (h : KeepsRoutes s.cab (f s.cab)) :
    KeepsRoutes s.cab (s.onCab f).cab := h

/-- A directory without routes, and station records without references. -/
theorem books_of_noRoutes {c : Cabin} (hroute : ∀ l k, (c.route l k).record = none)
    (hrefs : ∀ i r, (c.stationSlot i).record = some r → r.refs = 0) :
    RoutesDiffer c ∧ RefsMatch c ∧ StatesDerived c := by
  have hclaim : ∀ l k, c.claim l k = none := fun l k => by simp [Cabin.claim, hroute]
  refine ⟨(routesDiffer_iff c).mpr ?_, (refsMatch_iff c).mpr ⟨fun i r hr => ?_, ?_⟩, fun l k r hr => ?_⟩
  · simp [hclaim]
  · rw [hrefs i r hr, eq_comm]
    exact List.countP_eq_zero.mpr (by simp [hclaim])
  · simp [hclaim]
  · simp [hroute] at hr

theorem KeepsRoutes.of_noRoutes {c d : Cabin} (hroute : ∀ l k, (d.route l k).record = none)
    (hrefs : ∀ i r, (d.stationSlot i).record = some r → r.refs = 0) : KeepsRoutes c d := by
  obtain ⟨hd, hm, hs⟩ := books_of_noRoutes hroute hrefs
  exact ⟨⟨fun _ => hd, fun _ => hm⟩, fun _ => hs⟩

theorem reset_route (l : Fin 8) (k : Fin 6) : State.reset.cab.route l k = ⟨0, none⟩ := by
  simp [State.reset, Cabin.reset, Directory.reset, Cabin.route]

theorem reset_stationSlot (i : Fin 40) : State.reset.cab.stationSlot i = ⟨0, none⟩ := by
  simp [State.reset, Cabin.reset, StationTable.reset, Cabin.stationSlot]

theorem powerOnReset_keepsRoutes (s : State) : KeepsRoutes s.cab (powerOnReset s).cab :=
  .of_noRoutes (fun l k => congrArg RouteSlot.record (reset_route l k))
    (fun i r hr => by rw [show (powerOnReset s).cab.stationSlot i = _ from reset_stationSlot i] at hr; cases hr)

theorem freeRouteSlot_record (v : RouteSlot) : (freeRouteSlot v).record = none := by
  unfold freeRouteSlot; split
  · assumption
  · rfl

theorem liteAllocator_dir : (liteAllocator c).dir = c.dir := by simp [liteAllocator]

theorem liteAllocator_slots : (liteAllocator c).table.slots = c.table.slots := by simp [liteAllocator]

theorem liteCabin_keepsRoutes (img : Image) : KeepsRoutes c (liteCabin img c) := by
  unfold liteCabin
  extract_lets mix d
  have hroute : ∀ l k, ((liteAllocator d).route l k).record = none := fun l k => by
    rw [route_of_lists (c := d) (by rw [liteAllocator_dir])]
    simp [d, Cabin.route, liteDirectory, freeRouteSlot_record]
  refine .of_noRoutes hroute fun i r hr => ?_
  have hmap := ((discardPass_sameBooks (liteAllocator d)).2 i).2
  rw [hr, stationSlot_of_slots (liteAllocator_slots d)] at hmap
  obtain ⟨q, hq, e⟩ := Option.map_eq_some_iff.mp hmap.symm
  simp only [d, Cabin.stationSlot, liteTable, Tab.get_map, Option.map_eq_some_iff] at hq
  obtain ⟨q', -, rfl⟩ := hq
  exact e.symm

theorem liteReset_keepsRoutes (p : Port) (s : State) : KeepsRoutes s.cab (liteReset p s).cab := by
  unfold liteReset
  split
  · exact (apart_refuse ..).keeps
  · exact ((liteCabin_keepsRoutes s.cab s.supply.image).trans (apart_setDrive (s.onCab _) _).keeps).respond ..

theorem liteEndCabin_keepsRoutes : KeepsRoutes c (liteEndCabin c) :=
  settleDirectory_keepsRoutes (SameBooks.keeps (.of_eq (by simp) (by simp)))

theorem liteResetEnd_keepsRoutes (s : State) : KeepsRoutes s.cab (liteResetEnd s).cab := by
  unfold liteResetEnd
  split
  · have h : KeepsRoutes s.cab (s.onCab liteEndCabin).cab := .onCab (liteEndCabin_keepsRoutes s.cab)
    exact h.trans (apart_setDrive (s.onCab liteEndCabin) _).keeps
  · exact .refl _

theorem beginRunning_keepsRoutes (img : Image) : KeepsRoutes c (beginRunning img c) :=
  settleRoutes_keepsRoutes (SameBooks.keeps (.of_eq (by simp) (by simp)))

theorem imageLoadEnd_keepsRoutes (e : EepromRead) (s : State) : KeepsRoutes s.cab (imageLoadEnd e s).cab := by
  unfold imageLoadEnd
  split
  · extract_lets img supply u ring v
    have h : KeepsRoutes s.cab (v.onCab (beginRunning img)).cab := .onCab (beginRunning_keepsRoutes v.cab img)
    exact h.trans (apart_beginLocking (v.onCab (beginRunning img))).keeps
  · exact .refl _

theorem enterLow_keepsRoutes (s : State) : KeepsRoutes s.cab (enterLow s).cab := by
  unfold enterLow
  extract_lets u supply drive v
  have hu : Apart s.cab u.cab := apart_enterSupply ..
  have hv : Apart u.cab v.cab := apart_setDrive (u.setSupply _) _
  exact (hu.trans hv).keeps.trans (KeepsRoutes.onCab (stopTuners_keepsRoutes v.cab))

theorem leaveLow_keepsRoutes (s : State) : KeepsRoutes s.cab (leaveLow s).cab :=
  (apart_enterSupply s .settle).keeps.trans
    (KeepsRoutes.onCab (s := enterSupply .settle s) (restartTuners_keepsRoutes _))

theorem takeSample_keepsRoutes (mv : Nat) (s : State) : KeepsRoutes s.cab (takeSample mv s).cab := by
  have hclass : ∀ k (u : State), KeepsRoutes u.cab (takeClass k u).cab := by
    intro k u
    unfold takeClass
    split
    · exact .refl _
    · exact enterLow_keepsRoutes u
    · exact (apart_enterSupply ..).keeps
    · exact (apart_enterSupply ..).keeps
    · exact (apart_enterSupply ..).keeps
    · exact .refl _
    · exact (apart_enterSupply ..).keeps
    · exact leaveLow_keepsRoutes u
    · exact .refl _
    · exact .refl _
    · exact .refl _
  have hfirst : ∀ u : State, KeepsRoutes u.cab (firstSample mv u).cab := by
    intro u
    unfold firstSample
    repeat' split
    · exact (apart_enterSupply ..).keeps
    · exact (apart_enterSupply ..).keeps
    · exact enterLow_keepsRoutes u
  unfold takeSample
  split
  · exact hfirst (s.setSupply { s.supply with previous := some mv, window := false })
  · rename_i v _
    exact hclass (classOf v mv)
      (s.setSupply { s.supply with previous := some mv, window := s.supply.window && !endsWindow (classOf v mv) })

theorem supplySample_keepsRoutes (mv : Nat) (s : State) : KeepsRoutes s.cab (supplySample mv s).cab := by
  unfold supplySample
  repeat' split
  · exact .refl _
  · exact powerOnReset_keepsRoutes s
  · exact takeSample_keepsRoutes mv s

end Sys2Proof.Machine
end

section
/-! SUPPORT. What every command keeps of the route directory (01 R7, R12, R13). -/

namespace Sys2Proof.Machine

section Commands

variable (c : Cabin) (s : State)

theorem apart_readReception (p : Port) : Apart c (readReception p c) := ⟨rfl, rfl, rfl⟩

theorem apart_readAnnouncements (p : Port) : Apart c (readAnnouncements p c) := ⟨rfl, rfl, rfl⟩

theorem apart_diversityTuned : Apart c (diversityTuned c) := ⟨rfl, rfl, rfl⟩

theorem apart_portSelect (p : Port) : Apart s.cab (portSelect p s).cab := ⟨rfl, rfl, rfl⟩

theorem apart_readRing (p : Port) : Apart s.cab (readRing p s).cab := ⟨rfl, rfl, rfl⟩

theorem apart_returnFrame (f : RingFrame) : Apart s.cab (returnFrame f s).cab := ⟨rfl, rfl, rfl⟩

end Commands

theorem takeRequest_keepsRoutes {p : Port} {k : State → State} {s : State} (h : KeepsRoutes s.cab (k s).cab) :
    KeepsRoutes s.cab (takeRequest p k s).cab := by
  unfold takeRequest
  split
  · exact .refl _
  · exact (apart_refuse ..).keeps
  · exact (apart_refuse ..).keeps
  · exact h

theorem cabRequest_keepsRoutes {p : Port} {k : Cabin → Cabin} {s : State} (h : KeepsRoutes s.cab (k s.cab)) :
    KeepsRoutes s.cab (cabRequest p k s).cab := takeRequest_keepsRoutes (.onCab h)

theorem exec_keepsRoutes (i : Instr) (s : State) : ∃ t, exec i s = .next t ∧ KeepsRoutes s.cab t.cab :=
  match i with
  | .portSelect _ => ⟨_, rfl, (apart_portSelect ..).keeps⟩
  | .transactionAbandoned _ => ⟨_, rfl, .refl _⟩
  | .unknownRequest _ _ _ => ⟨_, rfl, cabRequest_keepsRoutes ((apart_refuse ..).keeps)⟩
  | .placeRoute _ _ => ⟨_, rfl, cabRequest_keepsRoutes (placeRoute_keepsRoutes ..)⟩
  | .alterRoute _ _ _ => ⟨_, rfl, cabRequest_keepsRoutes (alterRoute_keepsRoutes ..)⟩
  | .park _ _ => ⟨_, rfl, cabRequest_keepsRoutes (parkRoute_keepsRoutes ..)⟩
  | .unpark _ _ => ⟨_, rfl, cabRequest_keepsRoutes (unparkRoute_keepsRoutes ..)⟩
  | .retireRoute _ _ => ⟨_, rfl, cabRequest_keepsRoutes (retireRoute_keepsRoutes ..)⟩
  | .readRoute _ _ => ⟨_, rfl, cabRequest_keepsRoutes ((apart_readRoute ..).keeps)⟩
  | .clearMarks _ _ => ⟨_, rfl, cabRequest_keepsRoutes (clearMarks_keepsRoutes ..)⟩
  | .setZone _ _ _ => ⟨_, rfl, cabRequest_keepsRoutes (setZone_keepsRoutes ..)⟩
  | .readZone _ _ => ⟨_, rfl, cabRequest_keepsRoutes (readZone_keepsRoutes ..)⟩
  | .linkList _ _ _ => ⟨_, rfl, cabRequest_keepsRoutes (linkList_keepsRoutes ..)⟩
  | .grantRearControl _ _ => ⟨_, rfl, cabRequest_keepsRoutes (grantRearControl_keepsRoutes ..)⟩
  | .clearZoneRoutes _ _ => ⟨_, rfl, cabRequest_keepsRoutes (clearZoneRoutes_keepsRoutes ..)⟩
  | .mediaState _ _ _ _ _ => ⟨_, rfl, cabRequest_keepsRoutes (mediaState_keepsRoutes ..)⟩
  | .enterHold _ => ⟨_, rfl, cabRequest_keepsRoutes ((apart_enterHold ..).keeps)⟩
  | .releaseHold _ => ⟨_, rfl, cabRequest_keepsRoutes (releaseHold_keepsRoutes ..)⟩
  | .readStation _ _ => ⟨_, rfl, cabRequest_keepsRoutes ((apart_readStation ..).keeps)⟩
  | .walkStations _ _ _ => ⟨_, rfl, cabRequest_keepsRoutes ((apart_walkStations ..).keeps)⟩
  | .addStation _ _ _ => ⟨_, rfl, cabRequest_keepsRoutes (addStation_keepsRoutes ..)⟩
  | .keep _ _ => ⟨_, rfl, cabRequest_keepsRoutes (keepStation_keepsRoutes ..)⟩
  | .unkeep _ _ => ⟨_, rfl, cabRequest_keepsRoutes (keepStation_keepsRoutes ..)⟩
  | .retireStation _ _ => ⟨_, rfl, cabRequest_keepsRoutes (retireStation_keepsRoutes ..)⟩
  | .setTrafficWatch _ _ _ => ⟨_, rfl, cabRequest_keepsRoutes (setTrafficWatch_keepsRoutes ..)⟩
  | .readReception _ => ⟨_, rfl, cabRequest_keepsRoutes ((apart_readReception ..).keeps)⟩
  | .startChime _ _ _ => ⟨_, rfl, cabRequest_keepsRoutes ((apart_startChime ..).keeps)⟩
  | .cancelAnnouncement _ _ => ⟨_, rfl, cabRequest_keepsRoutes ((apart_cancelAnnouncement ..).keeps)⟩
  | .startNav _ _ => ⟨_, rfl, cabRequest_keepsRoutes ((apart_startNav ..).keeps)⟩
  | .keepNav _ => ⟨_, rfl, cabRequest_keepsRoutes ((apart_keepNav ..).keeps)⟩
  | .endNav _ => ⟨_, rfl, cabRequest_keepsRoutes ((apart_endNav ..).keeps)⟩
  | .setPattern _ _ _ => ⟨_, rfl, cabRequest_keepsRoutes ((apart_setPattern ..).keeps)⟩
  | .readPattern _ _ => ⟨_, rfl, cabRequest_keepsRoutes ((apart_readPattern ..).keeps)⟩
  | .readAnnouncements _ => ⟨_, rfl, cabRequest_keepsRoutes ((apart_readAnnouncements ..).keeps)⟩
  | .openCall _ _ => ⟨_, rfl, cabRequest_keepsRoutes ((apart_openCall ..).keeps)⟩
  | .answer _ _ => ⟨_, rfl, cabRequest_keepsRoutes ((apart_answerCall ..).keeps)⟩
  | .holdCall _ _ => ⟨_, rfl, cabRequest_keepsRoutes ((apart_holdCall ..).keeps)⟩
  | .resume _ _ => ⟨_, rfl, cabRequest_keepsRoutes ((apart_resumeCall ..).keeps)⟩
  | .endCall _ _ => ⟨_, rfl, cabRequest_keepsRoutes ((apart_endCall ..).keeps)⟩
  | .setListeners _ _ _ => ⟨_, rfl, cabRequest_keepsRoutes ((apart_setListeners ..).keeps)⟩
  | .setCall _ _ _ => ⟨_, rfl, cabRequest_keepsRoutes ((apart_setCall ..).keeps)⟩
  | .setUplinkGain _ _ => ⟨_, rfl, cabRequest_keepsRoutes ((apart_setUplinkGain ..).keeps)⟩
  | .joinCall _ _ _ => ⟨_, rfl, cabRequest_keepsRoutes ((apart_joinCall ..).keeps)⟩
  | .leaveCall _ _ _ => ⟨_, rfl, cabRequest_keepsRoutes ((apart_leaveCall ..).keeps)⟩
  | .readCall _ _ => ⟨_, rfl, cabRequest_keepsRoutes ((apart_readCall ..).keeps)⟩
  | .readRing _ => ⟨_, rfl, takeRequest_keepsRoutes ((apart_readRing ..).keeps)⟩
  | .readNode _ _ => ⟨_, rfl, takeRequest_keepsRoutes ((apart_readNode ..).keeps)⟩
  | .restartNode _ _ => ⟨_, rfl, takeRequest_keepsRoutes ((apart_restartNode ..).keeps)⟩
  | .systemMute _ _ => ⟨_, rfl, takeRequest_keepsRoutes ((apart_systemMute ..).keeps)⟩
  | .expectDip _ => ⟨_, rfl, takeRequest_keepsRoutes ((apart_expectDip ..).keeps)⟩
  | .readEvents _ => ⟨_, rfl, cabRequest_keepsRoutes ((apart_readEvents ..).keeps)⟩
  | .relaySend _ _ => ⟨_, rfl, cabRequest_keepsRoutes ((apart_relaySend ..).keeps)⟩
  | .relayTake _ => ⟨_, rfl, cabRequest_keepsRoutes ((apart_relayTake ..).keeps)⟩
  | .liteReset _ => ⟨_, rfl, takeRequest_keepsRoutes (liteReset_keepsRoutes ..)⟩
  | .liteResetEnd => ⟨_, rfl, liteResetEnd_keepsRoutes ..⟩
  | .powerOnReset => ⟨_, rfl, powerOnReset_keepsRoutes ..⟩
  | .imageLoadEnd _ => ⟨_, rfl, imageLoadEnd_keepsRoutes ..⟩
  | .supplySample _ => ⟨_, rfl, supplySample_keepsRoutes ..⟩
  | .settleTimerExpiry => ⟨_, rfl, (apart_settleTimerExpiry ..).keeps⟩
  | .recoverStep => ⟨_, rfl, (apart_recoverStep ..).keeps⟩
  | .expectWindowExpiry => ⟨_, rfl, (apart_expectWindowExpiry ..).keeps⟩
  | .rampTick => ⟨_, rfl, .onCab ((rampCabin_quiet ..).keeps)⟩
  | .mixSample _ => ⟨_, rfl, (mixSample_quiet ..).keeps⟩
  | .planBuildComplete => ⟨_, rfl, .onCab ((apart_completeBuild ..).keeps)⟩
  | .measurement _ _ => ⟨_, rfl, .onCab ((measurement_quiet ..).keeps)⟩
  | .diversityOff _ => ⟨_, rfl, .onCab ((diversityOff_quiet ..).keeps)⟩
  | .diversityTuneComplete => ⟨_, rfl, .onCab ((apart_diversityTuned ..).keeps)⟩
  | .retuneComplete _ => ⟨_, rfl, .onCab (retuneComplete_keepsRoutes ..)⟩
  | .followStart _ => ⟨_, rfl, .onCab (followStart_keepsRoutes ..)⟩
  | .followProbeComplete _ => ⟨_, rfl, .onCab ((followProbeComplete_quiet ..).keeps)⟩
  | .followWinnerTuned => ⟨_, rfl, .onCab ((followWinnerTuned_quiet ..).keeps)⟩
  | .excursionStart _ => ⟨_, rfl, .onCab (excursionStart_keepsRoutes ..)⟩
  | .excursionEnd _ _ => ⟨_, rfl, .onCab (excursionEnd_keepsRoutes ..)⟩
  | .scanMeasurement _ => ⟨_, rfl, .onCab (scanMeasurement_keepsRoutes ..)⟩
  | .dwellTimeout => ⟨_, rfl, .onCab (dwellEnd_keepsRoutes ..)⟩
  | .dataGroup _ _ => ⟨_, rfl, .onCab (dataGroup_keepsRoutes ..)⟩
  | .cadenceTick => ⟨_, rfl, .onCab ((apart_cadenceTick ..).keeps)⟩
  | .chimeCompleted _ => ⟨_, rfl, .onCab ((apart_chimeCompleted ..).keeps)⟩
  | .navTimeout => ⟨_, rfl, .onCab ((apart_navTimeout ..).keeps)⟩
  | .trafficTimeout _ => ⟨_, rfl, .onCab ((apart_trafficTimeout ..).keeps)⟩
  | .echoBlockEnd => ⟨_, rfl, .onCab ((apart_endBlock ..).keeps)⟩
  | .doubleTalkTimeout => ⟨_, rfl, .onCab ((apart_doubleTalkOut ..).keeps)⟩
  | .returnFrame _ => ⟨_, rfl, (apart_returnFrame ..).keeps⟩
  | .ringUp => ⟨_, rfl, (apart_ringUp ..).keeps⟩
  | .ringDown => ⟨_, rfl, (apart_ringDown ..).keeps⟩
  | .nodeLost _ => ⟨_, rfl, (apart_nodeLost ..).keeps⟩
  | .discoveryPoll => ⟨_, rfl, (apart_discoveryPoll ..).keeps⟩
  | .pollAnswer _ => ⟨_, rfl, (apart_pollAnswer ..).keeps⟩
  | .abilityPage _ _ => ⟨_, rfl, (apart_abilityPage ..).keeps⟩
  | .pageTimerExpiry _ => ⟨_, rfl, (apart_pageTimerExpiry ..).keeps⟩
  | .configPageAnswer _ _ => ⟨_, rfl, (apart_configPageAnswer ..).keeps⟩
  | .configTimeout _ => ⟨_, rfl, (apart_configTimeout ..).keeps⟩
  | .statusReport _ _ => ⟨_, rfl, (apart_statusReport ..).keeps⟩
  | .muteLineChange _ => ⟨_, rfl, (apart_muteLineChange ..).keeps⟩
  | .startUp _ _ => ⟨_, rfl, (apart_startUp ..).keeps⟩

theorem step_keepsRoutes {s t : State} (h : step s = .next t) : KeepsRoutes s.cab t.cab := by
  unfold step at h
  split at h
  · obtain rfl := Host.Outcome.next.inj h
    exact .refl _
  · rename_i i rest _
    obtain ⟨u, hu, hk⟩ := exec_keepsRoutes i { s with pending := rest }
    rw [hu] at h
    obtain rfl := Host.Outcome.next.inj h
    exact hk

/-- Settles O55: no command of `exec` breaks the books of the directory. -/
theorem everyStepKeepsTheDirectory : Obligations.EveryStepKeepsTheDirectory := fun _ _ h =>
  ⟨(step_keepsRoutes h).1.1, (step_keepsRoutes h).1.2⟩

end Sys2Proof.Machine
end

section
/-! SUPPORT. The table that derives a route's state (01 R7), and the state that reset leaves. -/

namespace Sys2Proof.Machine

theorem zone_mem_all (z : Zone) : z ∈ Zone.all := by cases z <;> decide

theorem linkedByPresent_iff {c : Cabin} {l : Fin 8} :
    linkedByPresent c l = true ↔ ∃ z, (c.zone z).present = true ∧ (c.zone z).list = some l := by
  simp [linkedByPresent, links, zone_mem_all]

theorem chanOf_eq_none {c : Cabin} {h : StationId} (hn : ∀ x, (c.chan x).station ≠ some h) : chanOf c h = none := by
  simp [chanOf, hn]

theorem chanOf_eq_some {c : Cabin} {h : StationId} {x : Chan} (hx : (c.chan x).station = some h)
    (ho : (c.chan x.other).station ≠ some h) : chanOf c h = some x := by
  cases x
  · simp [chanOf, hx]
  · simp only [Chan.other] at ho
    simp [chanOf, hx, ho]

theorem selfProbing_iff {v : ProgChan} : selfProbing v = true ↔ ∃ f, v.follow = some f ∧ f.phase = .away := by
  unfold selfProbing
  split <;> simp_all

theorem routeState_parked {c : Cabin} {l : Fin 8} {r : RouteRecord} (h : r.present = false) :
    routeState c l r = .parked := by simp [routeState, h]

theorem routeState_unlinked {c : Cabin} {l : Fin 8} {r : RouteRecord} (hp : r.present = true)
    (hl : ¬ linkedByPresent c l = true) : routeState c l r = .unlinked := by simp [routeState, hp, hl]

theorem routeState_waiting {c : Cabin} {l : Fin 8} {r : RouteRecord} {h : StationId} (hp : r.present = true)
    (hl : linkedByPresent c l = true) (hs : r.source = .station h) (hx : chanOf c h = none) :
    routeState c l r = .waiting := by simp [routeState, hp, hl, hs, hx]

theorem routeState_carried {c : Cabin} {l : Fin 8} {r : RouteRecord} {h : StationId} {x : Chan} (hp : r.present = true)
    (hl : linkedByPresent c l = true) (hs : r.source = .station h) (hx : chanOf c h = some x) :
    routeState c l r = if tunerAway c x then .tuning else .playing := by simp [routeState, hp, hl, hs, hx]

theorem routeState_media {c : Cabin} {l : Fin 8} {r : RouteRecord} {n : Fin 4} (hp : r.present = true)
    (hl : linkedByPresent c l = true) (hs : r.source = .media n) :
    routeState c l r = if c.dir.media.get n = true then .playing else .silent := by
  simp [routeState, hp, hl, hs]

/-- Settles O56: no command of `exec` leaves a route with another state than the derived one, and the rows of the table
are the branches of `routeState`. -/
theorem everyStepKeepsRouteStatesDerived : Obligations.EveryStepKeepsRouteStatesDerived := by
  refine ⟨fun s t h => (step_keepsRoutes h).2, fun c l r => ⟨routeState_parked, fun hp hl => ?_, fun hp hl => ?_⟩⟩
  · exact routeState_unlinked hp (mt linkedByPresent_iff.mp hl)
  · have hlinked := linkedByPresent_iff.mpr hl
    refine ⟨fun h hs => ⟨fun hn => ?_, fun x hx ho => ?_⟩, fun n => routeState_media hp hlinked⟩
    · exact routeState_waiting hp hlinked hs (chanOf_eq_none hn)
    · rw [routeState_carried hp hlinked hs (chanOf_eq_some hx ho)]
      simp [tunerAway, ← selfProbing_iff]

/-! ## Reset -/

theorem reset_zone (z : Zone) : State.reset.cab.zone z = resetZone builtInImage z := by
  simp [State.reset, Cabin.reset, Directory.reset, Cabin.zone, resetZones]

theorem reset_mixZone (z : Zone) : State.reset.cab.mixZone z = emptyMixZone := by
  simp [State.reset, Cabin.reset, Mix.reset, Cabin.mixZone]

theorem reset_entrySlot (i : Fin 8) : State.reset.cab.entrySlot i = ⟨0, none⟩ := by
  simp [State.reset, Cabin.reset, Queue.reset, Cabin.entrySlot]

theorem reset_callSlot (i : Fin 2) : State.reset.cab.callSlot i = ⟨0, none⟩ := by
  simp [State.reset, Cabin.reset, Calls.reset, Cabin.callSlot]

theorem reset_chan (x : Chan) : State.reset.cab.chan x = freeChan := by cases x <;> rfl

theorem reset_tuner (u : TunerId) : State.reset.cab.tuner u = idleTuner := by cases u <;> rfl

theorem reset_books : RoutesDiffer State.reset.cab ∧ RefsMatch State.reset.cab ∧ StatesDerived State.reset.cab :=
  books_of_noRoutes (fun l k => congrArg RouteSlot.record (reset_route l k)) fun i r hr => by simp [reset_stationSlot] at hr

theorem reset_callsFit : CallsFit State.reset.cab := by
  simp [CallsFit, callState, reset_callSlot]
  rfl

theorem reset_rolesFit : RolesFit State.reset.cab := by
  refine ⟨?_, ?_, ?_, fun u => ?_, ?_⟩
  · simp [reset_chan, freeChan]
  · simp [reset_chan, freeChan]
  · simp [reset_chan, freeChan]
  · cases u <;> rfl
  · simp [reset_tuner, idleTuner]

theorem reset_mixFits : MixFits State.reset.cab := by
  refine ⟨fun z => by simp [reset_mixZone, emptyMixZone], fun j hj => ?_⟩
  cases hj

theorem reset_audibleFits : AudibleFits State.reset.cab := by
  intro z
  have hcall : listenedCall State.reset.cab z = none := by cases z <;> decide
  refine ⟨by simp [reset_mixZone, emptyMixZone, hcall], by simp [reset_entrySlot], by simp [reset_mixZone, emptyMixZone], ?_⟩
  simp [reset_mixZone, emptyMixZone, wantedOverlays]

theorem reset_voicesFit : VoicesFit State.reset.cab := by
  have hvoice : ∀ v, State.reset.cab.queue.voices.get v = none := fun v => by
    simp [State.reset, Cabin.reset, Queue.reset]
  simp [VoicesFit, hvoice, reset_entrySlot]

theorem reset_safe : State.reset.Safe := by
  obtain ⟨hdiffer, hrefs, hstates⟩ := reset_books
  refine ⟨?supply, ?mute, reset_callsFit, ?hold, ?chans, reset_rolesFit, ?stations, ?alternates, hdiffer, hrefs, hstates,
    reset_mixFits, ?overlays, ?entries, ?priorities, reset_audibleFits, reset_voicesFit⟩
  case supply => simp [SupplyFits, State.reset, Supply.reset]
  case mute => rfl
  case hold => intro _; rfl
  case chans => simp [ChannelsDiffer, reset_chan, freeChan]
  case stations => simp [StationsDiffer, reset_stationSlot]
  case alternates => simp [AlternatesFit, reset_stationSlot]
  case overlays => simp [OverlaysDiffer, reset_mixZone, emptyMixZone]
  case entries => simp [EntriesDiffer, reset_entrySlot]
  case priorities => simp [PrioritiesFit, reset_entrySlot]

/-- Settles O3: every predicate of the list is evaluated on the reset state. -/
theorem resetLeavesASafeState : Obligations.ResetLeavesASafeState := by
  refine ⟨reset_safe, reset_route, fun n => ?media, rfl, fun z => ?zones, rfl, rfl, rfl, reset_stationSlot, rfl, rfl, rfl,
    fun x => ?chans, fun u => ?tuners, reset_entrySlot, rfl, rfl, rfl, reset_callSlot, rfl, rfl, rfl, rfl, rfl, fun n => ?nodes,
    rfl, rfl, rfl, fun p => ?ports, rfl⟩
  case media => simp [State.reset, Cabin.reset, Directory.reset]
  case zones =>
    simp only [reset_zone, reset_mixZone]
    cases z <;> decide
  case chans => simp [reset_chan, freeChan]
  case tuners => simp [reset_tuner, idleTuner]
  case nodes => simp [State.reset, Ring.reset, absentNode]
  case ports => cases p <;> exact ⟨rfl, rfl⟩

end Sys2Proof.Machine
end

section
/-! SUPPORT. What the arbitration, the announcement queue and the builder leave as it was while they follow a change of
the records: no event goes, calls lose no more than a displaced tone, contributions no more than the interval of
02 R36, and a build in flight stays (02 R28, 03 R43, R53, 07 R127, 10 R162). -/

namespace Sys2Proof.Machine

/-- A call record without what the queue makes of its tone (07 R127). -/
def CallRecord.toneless (r : CallRecord) : CallRecord := { r with tone := none, ringUnplayed := false }

/-- A contribution without the interval in which it has been audible (02 R36). -/
def RouteShare.timeless (x : RouteShare) : RouteShare := { x with audibleSince := false }

/-- No event of any port has gone. -/
def EventsKept (c d : Cabin) : Prop :=
  ∀ p k, EventSet.has (c.ports.events.get p) k = true → EventSet.has (d.ports.events.get p) k = true

/-- The calls are as they were, but for tones. -/
def TonesAside (c d : Cabin) : Prop :=
  ∀ i, (d.callSlot i).gen = (c.callSlot i).gen ∧
    (d.callSlot i).record.map CallRecord.toneless = (c.callSlot i).record.map CallRecord.toneless

/-- The recorded values and the contributions of every zone are as they were, but for their intervals. -/
def SharesKept (c d : Cabin) : Prop :=
  ∀ z, (d.mixZone z).recorded = (c.mixZone z).recorded ∧
    (d.mixZone z).routes.map RouteShare.timeless = (c.mixZone z).routes.map RouteShare.timeless ∧
    (d.mixZone z).leaving.map RouteShare.timeless = (c.mixZone z).leaving.map RouteShare.timeless

/-- A build in flight stays as it is; where there is none one may start. -/
def BuildKept (c d : Cabin) : Prop := ∀ j, c.builder.job = some j → d.builder.job = some j

structure Undisturbed (c d : Cabin) : Prop where
  events : EventsKept c d
  calls : TonesAside c d
  shares : SharesKept c d
  build : BuildKept c d

theorem Undisturbed.refl (c : Cabin) : Undisturbed c c :=
  ⟨fun _ _ h => h, fun _ => ⟨rfl, rfl⟩, fun _ => ⟨rfl, rfl, rfl⟩, fun _ h => h⟩

theorem Undisturbed.trans {c d e : Cabin} (h : Undisturbed c d) (g : Undisturbed d e) : Undisturbed c e where
  events p k hk := g.events p k (h.events p k hk)
  calls i := ⟨(g.calls i).1.trans (h.calls i).1, (g.calls i).2.trans (h.calls i).2⟩
  shares z := by
    obtain ⟨hr, hp, hl⟩ := h.shares z
    obtain ⟨gr, gp, gl⟩ := g.shares z
    exact ⟨gr.trans hr, gp.trans hp, gl.trans hl⟩
  build j hj := g.build j (h.build j hj)

theorem callSlot_of_slots {c d : Cabin} (h : d.calls.slots = c.calls.slots) (i : Fin 2) : d.callSlot i = c.callSlot i :=
  congrArg (fun t => t.get i) h

theorem mixZone_of_zones {c d : Cabin} (h : d.mix.zones = c.mix.zones) (z : Zone) : d.mixZone z = c.mixZone z :=
  congrArg (fun t => t.get z) h

theorem Undisturbed.of_eq {c d : Cabin} (hp : d.ports.events = c.ports.events) (hc : d.calls.slots = c.calls.slots)
    (hm : d.mix.zones = c.mix.zones) (hj : d.builder.job = c.builder.job) : Undisturbed c d where
  events p k hk := by rwa [hp]
  calls i := by simp [callSlot_of_slots hc]
  shares z := by simp [mixZone_of_zones hm]
  build j hk := by rwa [hj]

theorem has_set {e : EventSet} {k j : EventKind} (h : EventSet.has e k = true) :
    EventSet.has (e.set j.idx true) k = true := by
  unfold EventSet.has at *
  rw [Tab.get_set]
  split
  · rfl
  · exact h

theorem post_eventsKept (c : Cabin) (p : Port) (k : EventKind) : EventsKept c (post p k c) := fun q j h => by
  unfold post
  split
  · by_cases hq : q = p
    · subst hq
      simpa using has_set h
    · simpa [PerPort.get_set_ne _ _ _ _ hq] using h
  · exact h

theorem post_shows {c : Cabin} (h : c.ports.part.posts = true) (p : Port) (k : EventKind) :
    EventSet.has ((post p k c).ports.events.get p) k = true := by simp [post, h, EventSet.has]

theorem post_undisturbed (c : Cabin) (p : Port) (k : EventKind) : Undisturbed c (post p k c) where
  events := post_eventsKept c p k
  calls i := by simp [Cabin.callSlot]
  shares z := by simp [Cabin.mixZone]
  build j h := by simpa using h

theorem postIf_undisturbed (c : Cabin) (b : Bool) (p : Port) (k : EventKind) : Undisturbed c (postIf b p k c) := by
  unfold postIf
  split
  · exact post_undisturbed c p k
  · exact .refl c

theorem postBoth_undisturbed (c : Cabin) (k : EventKind) : Undisturbed c (postBoth k c) :=
  (post_undisturbed c .front k).trans (post_undisturbed (post .front k c) .rear k)

theorem postBoth_shows {c : Cabin} (h : c.ports.part.posts = true) (p : Port) (k : EventKind) :
    EventSet.has ((postBoth k c).ports.events.get p) k = true := by
  cases p
  · exact post_eventsKept (post .front k c) .rear k .front k (post_shows h .front k)
  · exact post_shows (by simpa using h) .rear k

/-! ## Audibility and voices -/

theorem enterOverlay_shares (k : OverlayKey) (m : MixZone) : (enterOverlay k m).recorded = m.recorded ∧
    (enterOverlay k m).routes = m.routes ∧ (enterOverlay k m).leaving = m.leaving := by
  unfold enterOverlay
  split
  · exact ⟨rfl, rfl, rfl⟩
  · split <;> exact ⟨rfl, rfl, rfl⟩

theorem enterOverlays_shares (l : List OverlayKey) (m : MixZone) :
    (l.foldl (fun m k => enterOverlay k m) m).recorded = m.recorded ∧
    (l.foldl (fun m k => enterOverlay k m) m).routes = m.routes ∧
    (l.foldl (fun m k => enterOverlay k m) m).leaving = m.leaving := by
  induction l generalizing m with
  | nil => exact ⟨rfl, rfl, rfl⟩
  | cons k l ih =>
    obtain ⟨hr, hp, hl⟩ := ih (enterOverlay k m)
    obtain ⟨gr, gp, gl⟩ := enterOverlay_shares k m
    exact ⟨hr.trans gr, hp.trans gp, hl.trans gl⟩

theorem updateOverlays_shares (present : Bool) (m : MixZone) : (updateOverlays present m).recorded = m.recorded ∧
    (updateOverlays present m).routes = m.routes ∧ (updateOverlays present m).leaving = m.leaving := by
  unfold updateOverlays
  extract_lets keys m1 m2
  exact enterOverlays_shares keys m1

theorem refreshDuck_undisturbed (c : Cabin) : Undisturbed c (refreshDuck c) := by
  have hmap : Undisturbed c (mapMixZones (refreshMixZone c) c) := by
    refine ⟨fun _ _ h => h, fun _ => ⟨rfl, rfl⟩, fun z => ?_, fun _ h => h⟩
    obtain ⟨hr, hp, hl⟩ := updateOverlays_shares (c.zone z).present
      { c.mixZone z with audible := audibleEntry c z, listened := listenedCall c z }
    simp [mapMixZones, Cabin.mixZone, refreshMixZone] at hr hp hl ⊢
    exact ⟨hr, by rw [hp], by rw [hl]⟩
  exact hmap.trans (postIf_undisturbed _ _ _ _)

theorem arbitrateVoices_undisturbed (c : Cabin) : Undisturbed c (arbitrateVoices c) :=
  .of_eq (by simp) (by simp) (by simp) (by simp)

theorem refreshSound_undisturbed (c : Cabin) : Undisturbed c (refreshSound c) :=
  (refreshDuck_undisturbed c).trans (arbitrateVoices_undisturbed (refreshDuck c))

/-! ## The announcement queue -/

theorem putCall_undisturbed {c : Cabin} {i : Fin 2} {v : CallSlot} (hg : v.gen = (c.callSlot i).gen)
    (hr : v.record.map CallRecord.toneless = (c.callSlot i).record.map CallRecord.toneless) :
    Undisturbed c (putCall i v c) := by
  have hset : Undisturbed c (setCallSlot i v c) := by
    refine ⟨fun _ _ h => h, fun j => ?_, fun _ => ⟨rfl, rfl, rfl⟩, fun _ h => h⟩
    by_cases hj : j = i
    · subst hj
      simpa [Cabin.callSlot, setCallSlot] using And.intro hg hr
    · simp [Cabin.callSlot, setCallSlot, Tab.get_set_ne _ _ _ _ hj]
  unfold putCall
  split
  · exact .refl c
  · exact (hset.trans (post_undisturbed ..)).trans (postIf_undisturbed ..)

theorem modifyCall_undisturbed {c : Cabin} {i : Fin 2} {g : CallRecord → CallRecord}
    (hg : ∀ r, (g r).toneless = r.toneless) : Undisturbed c (modifyCall i g c) := by
  unfold modifyCall
  split
  · exact .refl c
  · rename_i r hr
    exact putCall_undisturbed rfl (by simp [hr, hg])

theorem eachIdx_undisturbed {n : Nat} {f : Fin n → Cabin → Cabin} (h : ∀ i c, Undisturbed c (f i c)) (c : Cabin) :
    Undisturbed c (eachIdx n f c) := by
  unfold eachIdx
  induction List.finRange n generalizing c with
  | nil => exact .refl c
  | cons i l ih => exact (h i c).trans (ih (f i c))

theorem toneDisplaced_undisturbed (a : EntryId) (c : Cabin) : Undisturbed c (toneDisplaced a c) :=
  eachIdx_undisturbed (fun i c => modifyCall_undisturbed fun r => by split <;> rfl) c

theorem removeEntry_undisturbed (i : Fin 8) (e : Entry) (reason : EndReason) (c : Cabin) :
    Undisturbed c (removeEntry i e reason c) := by
  unfold removeEntry
  extract_lets id freed ended posted
  have hfreed : Undisturbed c freed := .of_eq rfl rfl rfl rfl
  have hrecord : Undisturbed freed (recordEnd id e.kind reason freed) := .of_eq rfl rfl rfl rfl
  have hended : Undisturbed freed ended := hrecord.trans (post_undisturbed _ .front .announce)
  have hposted : Undisturbed ended posted := by
    unfold posted
    split
    · exact postBoth_undisturbed ended .traffic
    · exact .refl ended
  refine ((hfreed.trans hended).trans hposted).trans ?_
  split
  · exact toneDisplaced_undisturbed id posted
  · exact .refl posted

theorem putEntry_undisturbed (i : Fin 8) (kind : EntryKind) (priority : Nat) (targets : ZoneSet) (timeLeft : Nat)
    (c : Cabin) : Undisturbed c (putEntry i kind priority targets timeLeft c) := .of_eq rfl rfl rfl rfl

theorem admitEntry_undisturbed (kind : EntryKind) (priority : Nat) (targets : ZoneSet) (timeLeft : Nat) (c : Cabin) :
    Undisturbed c (admitEntry kind priority targets timeLeft c).1 := by
  unfold admitEntry
  split
  · rename_i i _
    dsimp only
    have hput := putEntry_undisturbed i kind priority targets timeLeft c
    exact hput.trans (refreshSound_undisturbed (putEntry i kind priority targets timeLeft c))
  · rename_i i e _
    dsimp only
    have hremoved := (removeEntry_undisturbed i e .displaced c).trans (refreshSound_undisturbed (removeEntry i e .displaced c))
    generalize refreshSound (removeEntry i e .displaced c) = d at hremoved ⊢
    have hput := hremoved.trans (putEntry_undisturbed i kind priority targets timeLeft d)
    exact hput.trans (refreshSound_undisturbed (putEntry i kind priority targets timeLeft d))
  · exact .refl c

theorem retarget_undisturbed (i : Fin 8) (t : ZoneSet) (c : Cabin) : Undisturbed c (retarget i t c) := by
  unfold retarget
  split
  · exact .refl c
  · exact (Undisturbed.of_eq (by simp) (by simp) (by simp) (by simp)).trans (refreshSound_undisturbed _)

theorem testTrafficOn_undisturbed (x : Chan) (c : Cabin) : Undisturbed c (testTrafficOn x c) := by
  unfold testTrafficOn
  split
  · exact .refl c
  · rename_i h _
    split
    · exact retarget_undisturbed ..
    · split
      · have hadmit := admitEntry_undisturbed (.traffic h x) 3 (trafficTargets c h) trafficLimit c
        split
        · rename_i c' _ e
          rw [e] at hadmit
          exact hadmit.trans (postBoth_undisturbed c' .traffic)
        · rename_i c' e
          rw [e] at hadmit
          exact hadmit
      · exact .refl c

theorem testTraffic_undisturbed (c : Cabin) : Undisturbed c (testTraffic c) :=
  (testTrafficOn_undisturbed .pc0 c).trans (testTrafficOn_undisturbed .pc1 _)

theorem endEntry_undisturbed (i : Fin 8) (reason : EndReason) (c : Cabin) : Undisturbed c (endEntry i reason c) := by
  unfold endEntry
  split
  · exact .refl c
  · exact ((removeEntry_undisturbed ..).trans (refreshSound_undisturbed _)).trans (testTraffic_undisturbed _)

theorem endUncarried_undisturbed (c : Cabin) : Undisturbed c (endUncarried c) :=
  eachIdx_undisturbed (fun i c => by
    repeat' split
    · exact .refl c
    · exact .refl c
    · exact endEntry_undisturbed ..
    · exact .refl c) c

/-! ## The arbitration and what follows it -/

theorem staleIfMoved_undisturbed (old : Cabin) (h : Option StationId) (c : Cabin) :
    Undisturbed c (staleIfMoved old h c) := .of_eq (by simp) (by simp) (by simp) (by simp)

theorem applyAssignment_undisturbed (n : Option StationId × Option StationId) (c : Cabin) :
    Undisturbed c (applyAssignment n c) := by
  unfold applyAssignment
  extract_lets t assigned roles tuned tested moved
  have htuned : Undisturbed c tuned :=
    .of_eq (by simp [tuned, roles, assigned]) (by simp [tuned, roles, assigned]) (by simp [tuned, roles, assigned])
      (by simp [tuned, roles, assigned])
  have htested : Undisturbed tuned tested := (endUncarried_undisturbed tuned).trans (testTraffic_undisturbed _)
  exact (htuned.trans htested).trans
    ((staleIfMoved_undisturbed c _ tested).trans ((staleIfMoved_undisturbed ..).trans
      ((staleIfMoved_undisturbed ..).trans (staleIfMoved_undisturbed ..))))

theorem arbitrate_undisturbed (c : Cabin) : Undisturbed c (arbitrate c) := by
  unfold arbitrate
  repeat' split
  · exact .refl c
  · exact applyAssignment_undisturbed ..
  · exact .refl c

theorem rederiveAt_undisturbed (l : Fin 8) (k : Fin 6) (c : Cabin) : Undisturbed c (rederiveAt l k c) := by
  unfold rederiveAt
  repeat' split
  · exact .refl c
  · exact .refl c
  · refine .trans (?_ : Undisturbed c (setRouteRecord l k _ c)) (post_undisturbed ..)
    exact .of_eq rfl rfl rfl rfl

theorem breakIntervals_undisturbed (c : Cabin) : Undisturbed c (breakIntervals c) := by
  refine ⟨fun _ _ h => h, fun _ => ⟨rfl, rfl⟩, fun z => ?_, fun _ h => h⟩
  simp [breakIntervals, mapShares, mapMixZones, Cabin.mixZone, Function.comp_def, RouteShare.timeless]

theorem rederiveRoutes_undisturbed (c : Cabin) : Undisturbed c (rederiveRoutes c) := by
  have hfold : Undisturbed c (routeKeys.foldl (fun c x => rederiveAt x.1 x.2 c) c) := by
    induction routeKeys generalizing c with
    | nil => exact .refl c
    | cons x l ih => exact (rederiveAt_undisturbed x.1 x.2 c).trans (ih _)
  exact hfold.trans (breakIntervals_undisturbed _)

theorem startBuild_undisturbed (c : Cabin) : Undisturbed c (startBuild c) := by
  refine ⟨fun p k h => by simpa using h, fun i => by simp [Cabin.callSlot], fun z => by simp [Cabin.mixZone], fun j hj => ?_⟩
  have hmay : mayBuild c = false := by simp [mayBuild, hj]
  simpa [startBuild, hmay] using hj

theorem settleRoutes_undisturbed (c : Cabin) : Undisturbed c (settleRoutes c) :=
  ((rederiveRoutes_undisturbed c).trans (refreshSound_undisturbed _)).trans (startBuild_undisturbed _)

end Sys2Proof.Machine
end

section
/-! SUPPORT. While no identity is deferred one arbitration settles the stations (04 R78), and the channels carry its
winners; the zones that a change makes stale are rebuilt (03 R43 to R45, 05 R89). -/

namespace Sys2Proof.Machine

/-! ## Without deferred identities -/

theorem endedDeferral_eq_none {c : Cabin} (h : NoDeferrals c) : endedDeferral c = none := by
  have hfirst : firstIdx (fun i => match (c.stationSlot i).record with
      | none => false
      | some r => match r.deferred with
        | none => false
        | some code => !deferralStands c i code) = none := by
    refine List.find?_eq_none.mpr fun i _ => ?_
    cases hr : (c.stationSlot i).record with
    | none => simp
    | some r => simp [h i r hr]
  unfold endedDeferral
  exact congrArg (fun o => Option.bind o _) hfirst

theorem NoDeferrals.of_deferred {c d : Cabin} (h : NoDeferrals c)
    (hd : ∀ i, (d.stationSlot i).record.map (·.deferred) = (c.stationSlot i).record.map (·.deferred)) :
    NoDeferrals d := fun i r hr => by
  have hi := hd i
  rw [hr] at hi
  obtain ⟨q, hq, e⟩ := Option.map_eq_some_iff.mp hi.symm
  exact e.symm.trans (h i q hq)

theorem NoDeferrals.of_slots {c d : Cabin} (h : NoDeferrals c) (hd : d.table.slots = c.table.slots) : NoDeferrals d :=
  h.of_deferred fun i => by rw [stationSlot_of_slots hd]

theorem NoDeferrals.of_moved {c d : Cabin} (h : NoDeferrals c) {n m : Fin 40 → Nat}
    (hd : ∀ i, d.stationSlot i = StationSlot.moved (n i) (m i) (c.stationSlot i)) : NoDeferrals d :=
  h.of_deferred fun i => by
    rw [hd]
    cases hr : (c.stationSlot i).record <;> simp [StationSlot.moved, hr]

theorem settleAllocator_eq_arbitrate {c : Cabin} (h : NoDeferrals c) : settleAllocator c = arbitrate c := by
  simp only [settleAllocator, settleStations, endedDeferral_eq_none (h.of_slots (arbitrate_slots c))]

/-! ## The assignment -/

/-- Two cabins among whose stations the arbitration chooses alike: the same claims and priorities of the routes, the
same zones, station slots, watch station and carried stations (05 R88, R89). -/
structure SameDemand (c d : Cabin) : Prop where
  routes : ∀ l k, SameRoute (d.route l k) (c.route l k)
  zones : d.dir.zones = c.dir.zones
  slots : d.table.slots = c.table.slots
  watch : d.table.watch = c.table.watch
  chans : ∀ x, (d.chan x).station = (c.chan x).station

section Demand

variable {c d : Cabin} (h : SameDemand c d)
include h

theorem SameDemand.routeDemand (g : StationId) (x : Fin 8 × Fin 6) : routeDemand d g x = routeDemand c g x := by
  have hlink := linkedByPresent_of_zones h.zones x.1
  have hr := (h.routes x.1 x.2).2
  unfold Machine.routeDemand
  rw [hlink]
  cases hc : (c.route x.1 x.2).record <;> cases hd : (d.route x.1 x.2).record
  · rfl
  · simp [hc, hd] at hr
  · simp [hc, hd] at hr
  · simp only [hc, hd, Option.map_some, Option.some.injEq, RouteRecord.mk.injEq] at hr
    obtain ⟨hp, hs, -, hpr, -⟩ := hr
    simp [hp, hs, hpr]

theorem SameDemand.demand (g : StationId) : demand d g = demand c g := by
  have hfun : Machine.routeDemand d g = Machine.routeDemand c g := funext (h.routeDemand g)
  simp only [Machine.demand, hfun, h.watch]

theorem SameDemand.demanded : demanded d = demanded c := by
  have hslot := stationSlot_of_slots h.slots
  simp only [Machine.demanded, Cabin.stationId, hslot, h.demand]

theorem SameDemand.carried (g : StationId) : carried d g = carried c g := by
  simp only [Machine.carried, chanOf, h.chans]

theorem SameDemand.winners : winners d = winners c := by
  have hrank : ranksBefore d = ranksBefore c := by
    funext a b
    simp only [ranksBefore, h.carried]
  have hfirst : firstRanked d = firstRanked c := by
    funext l
    simp only [firstRanked, hrank]
  simp only [Machine.winners, hfirst, h.demanded]

theorem SameDemand.newAssignment : newAssignment d = newAssignment c := by
  have hkept : keptStation d = keptStation c := by
    funext x
    simp only [keptStation, h.chans, h.winners]
  simp only [Machine.newAssignment, hkept, h.winners, h.carried]

end Demand

theorem assignChan_station (x : Chan) (n : Option StationId) (t : Option TunerId) (c : Cabin) :
    ((assignChan x n t c).chan x).station = n := by
  unfold assignChan
  split
  · assumption
  · simp [setChan, Cabin.chan]

theorem assignChan_chan_other (x : Chan) (n : Option StationId) (t : Option TunerId) (c : Cabin) :
    (assignChan x n t c).chan x.other = c.chan x.other := by
  unfold assignChan
  split
  · rfl
  · simp [setChan, Cabin.chan]

theorem setChan_station {x : Chan} {v : ProgChan} {c : Cabin} (h : v.station = (c.chan x).station) (y : Chan) :
    ((setChan x v c).chan y).station = (c.chan y).station := by
  by_cases hy : y = x
  · subst hy
    simpa [setChan, Cabin.chan] using h
  · simp [setChan, Cabin.chan, PerChan.get_set_ne _ _ _ _ hy]

theorem chan_of_chans {c d : Cabin} (h : d.alloc.chans = c.alloc.chans) (x : Chan) : d.chan x = c.chan x :=
  congrArg (fun t => t.get x) h

theorem endDiversity_station (x : Chan) (c : Cabin) (y : Chan) :
    ((endDiversity x c).chan y).station = (c.chan y).station := by
  unfold endDiversity
  refine setChan_station ?_ y
  split
  · exact (takeQuality_fields c _).1
  · rfl

theorem abandonFollow_station (x : Chan) (c : Cabin) (y : Chan) :
    ((abandonFollow x c).chan y).station = (c.chan y).station := by
  unfold abandonFollow
  split
  · rfl
  · have hex : ∀ y, (endExcursion x c).chan y = c.chan y := chan_of_chans (by simp)
    rw [setChan_station (by rw [hex]) y, hex]

theorem loseSupport_station (x : Chan) (c : Cabin) (y : Chan) :
    ((loseSupport x c).chan y).station = (c.chan y).station := by
  unfold loseSupport
  split
  · simp only
    split
    · rw [abandonFollow_station, endDiversity_station]
    · exact endDiversity_station ..
  · rfl

theorem retuneIfGained_station (old : Cabin) (x : Chan) (c : Cabin) (y : Chan) :
    ((retuneIfGained old x c).chan y).station = (c.chan y).station := by
  unfold retuneIfGained beginRetune
  split
  · split
    · rw [chan_of_chans (setTuner_chans _ _ _)]
      refine setChan_station ?_ y
      rfl
    · rfl
  · rfl

theorem applyAssignment_station (n : Option StationId × Option StationId) (c : Cabin) :
    (((applyAssignment n c).chan .pc0).station, ((applyAssignment n c).chan .pc1).station) = n := by
  unfold applyAssignment
  extract_lets t assigned roles tuned tested moved
  have hassigned : (assigned.chan .pc0).station = n.1 ∧ (assigned.chan .pc1).station = n.2 := by
    refine ⟨?_, assignChan_station ..⟩
    exact (congrArg ProgChan.station (assignChan_chan_other .pc1 n.2 t.2 _)).trans (assignChan_station .pc0 ..)
  have htuned : ∀ x, (tuned.chan x).station = (assigned.chan x).station := fun x => by
    have hroles : roles.chan x = (loseSupport .pc1 (loseSupport .pc0 assigned)).chan x := chan_of_chans (by simp [roles]) x
    rw [retuneIfGained_station, retuneIfGained_station, hroles, loseSupport_station, loseSupport_station]
  have hlast : ∀ x, (staleIfMoved c n.1 (staleIfMoved c n.2 moved)).chan x = tuned.chan x :=
    chan_of_chans (by simp [moved, tested])
  rw [hlast, hlast, htuned, htuned, hassigned.1, hassigned.2]

theorem arbitrate_station {c : Cabin} (hpart : c.ports.part = .running) :
    (((arbitrate c).chan .pc0).station, ((arbitrate c).chan .pc1).station) =
      if c.builder.hold = .running then newAssignment c else ((c.chan .pc0).station, (c.chan .pc1).station) := by
  unfold arbitrate
  by_cases hhold : c.builder.hold = .running
  · simp only [hhold, hpart, if_true]
    rw [if_pos ⟨trivial, by decide⟩]
    split
    · rename_i h
      exact h.symm
    · exact applyAssignment_station ..
  · simp [hhold]

/-! ## Stale zones -/

/-- No zone is less stale. -/
def StaleKept (c d : Cabin) : Prop := ∀ z, c.builder.stale.get z = true → d.builder.stale.get z = true

theorem StaleKept.trans {c d e : Cabin} (h : StaleKept c d) (g : StaleKept d e) : StaleKept c e :=
  fun z hz => g z (h z hz)

theorem StaleKept.of_eq {c d : Cabin} (h : d.builder.stale = c.builder.stale) : StaleKept c d := fun z hz => by rwa [h]

theorem markStaleWhere_stale (q : Zone → Bool) (c : Cabin) (z : Zone) :
    (markStaleWhere q c).builder.stale.get z = (q z || c.builder.stale.get z) := by simp [markStaleWhere]

theorem markStaleWhere_staleKept (q : Zone → Bool) (c : Cabin) : StaleKept c (markStaleWhere q c) := fun z hz => by
  simp [markStaleWhere_stale, hz]

theorem markListStale_stale {l : Fin 8} {c : Cabin} {z : Zone} (h : links c l z = true) :
    (markListStale l c).builder.stale.get z = true := by simp [markListStale, markStaleWhere_stale, h]

theorem markListStale_staleKept (l : Fin 8) (c : Cabin) : StaleKept c (markListStale l c) := markStaleWhere_staleKept _ c

theorem staleIfMoved_staleKept (old : Cabin) (h : Option StationId) (c : Cabin) : StaleKept c (staleIfMoved old h c) := by
  unfold staleIfMoved
  repeat' split
  · exact fun _ h => h
  · exact markStaleWhere_staleKept _ c
  · exact fun _ h => h

theorem applyAssignment_staleKept (n : Option StationId × Option StationId) (c : Cabin) :
    StaleKept c (applyAssignment n c) := by
  unfold applyAssignment
  extract_lets t assigned roles tuned tested moved
  have htested : StaleKept c tested := .of_eq (by simp [tested, tuned, roles, assigned])
  exact htested.trans ((staleIfMoved_staleKept c _ tested).trans ((staleIfMoved_staleKept c _ _).trans
    ((staleIfMoved_staleKept c _ moved).trans (staleIfMoved_staleKept c _ _))))

theorem arbitrate_staleKept (c : Cabin) : StaleKept c (arbitrate c) := by
  unfold arbitrate
  repeat' split
  · exact fun _ h => h
  · exact applyAssignment_staleKept _ c
  · exact fun _ h => h

/-! ## What a build reads -/

theorem planSource_station {c : Cabin} {h : StationId} {v : PlanSource} (hv : planSource c (.station h) = some v) :
    ∃ x, v = .chan x ∧ (c.chan x).station = some h := by
  obtain ⟨x, hx, rfl⟩ := Option.map_eq_some_iff.mp hv
  refine ⟨x, rfl, ?_⟩
  unfold chanOf at hx
  split at hx
  · cases hx; assumption
  · split at hx
    · cases hx; assumption
    · cases hx

theorem chanOf_isSome {c : Cabin} {h : StationId} {x : Chan} (hx : (c.chan x).station = some h) :
    (chanOf c h).isSome = true := by
  unfold chanOf
  split
  · rfl
  · split
    · rfl
    · cases x <;> contradiction

theorem plannedLevel_eq (e : ZoneEntry) (gain : Int) : plannedLevel e gain =
    if e.volume + gain < -192 then .silent else .steps (min (e.volume + gain) e.ceiling) := by
  unfold plannedLevel Level.ofSum
  split <;> rfl

theorem planned_iff {v : RouteState} : v.planned = true ↔ v = .tuning ∨ v = .playing := by
  cases v <;> simp [RouteState.planned]

theorem builtShare_plans {c : Cabin} {e : ZoneEntry} {l : Fin 8} {k : Fin 6} {n : BuiltShare}
    (hn : builtShare c e l k = some n) : n.route = ⟨l, k, (c.route l k).gen⟩ ∧
      ∃ r, (c.route l k).record = some r ∧ PlansRoute c e r n := by
  unfold builtShare at hn
  split at hn
  · cases hn
  · rename_i r hr
    split at hn
    · rename_i hplayed
      obtain ⟨hp, hs⟩ := Bool.and_eq_true_iff.mp hplayed
      obtain ⟨v, hv, rfl⟩ := Option.map_eq_some_iff.mp hn
      refine ⟨rfl, r, hr, rfl, hp, planned_iff.mp hs, rfl, fun m hm => ?_, fun h hh => ?_, plannedLevel_eq e r.gain⟩
      · rw [hm] at hv
        cases hv
        rfl
      · rw [hh] at hv
        exact planSource_station hv
    · cases hn

theorem builtShare_isSome {c : Cabin} {e : ZoneEntry} {l : Fin 8} {k : Fin 6} {r : RouteRecord}
    (hr : (c.route l k).record = some r) (hp : r.present = true) (hs : r.state = .tuning ∨ r.state = .playing)
    (hc : ∀ h, r.source = .station h → ∃ x, (c.chan x).station = some h) :
    ∃ n, builtShare c e l k = some n := by
  have hsource : ∃ v, planSource c r.source = some v := by
    cases hsrc : r.source with
    | media m => exact ⟨_, rfl⟩
    | station h =>
      obtain ⟨x, hx⟩ := hc h hsrc
      obtain ⟨y, hy⟩ := Option.isSome_iff_exists.mp (chanOf_isSome hx)
      exact ⟨.chan y, by simp [planSource, hy]⟩
  obtain ⟨v, hv⟩ := hsource
  exact ⟨_, by simp [builtShare, hr, hp, planned_iff.mpr hs, hv]; rfl⟩

theorem builtShares_pairwise (c : Cabin) (z : Zone) :
    (builtShares c z).Pairwise (fun a b => a.route.slot < b.route.slot) := by
  unfold builtShares
  repeat' split
  · exact .nil
  · refine List.Pairwise.filterMap _ (fun a b hab n hn m hm => ?_) (List.pairwise_lt_finRange 6)
    rwa [(builtShare_plans hn).1, (builtShare_plans hm).1]
  · exact .nil

theorem mem_builtShares {c : Cabin} {z : Zone} {n : BuiltShare} : n ∈ builtShares c z ↔
    (c.zone z).present = true ∧ ∃ l k, (c.zone z).list = some l ∧ builtShare c (c.zone z) l k = some n := by
  unfold builtShares
  by_cases hp : (c.zone z).present = true
  · cases hl : (c.zone z).list <;> simp [hp]
  · simp [hp]

theorem buildJob_readsAtStart (c : Cabin) (z : Zone) : ReadsAtStart c (buildJob c z) := by
  refine ⟨rfl, builtShares_pairwise c z, fun n hn => ?_, fun hp l hl k r hr hrp hs hc => ?_⟩
  · obtain ⟨hp, l, k, hl, hb⟩ := mem_builtShares.mp hn
    obtain ⟨hroute, hplans⟩ := builtShare_plans hb
    exact ⟨hp, l, k, hl, hroute, hplans⟩
  · obtain ⟨n, hn⟩ := builtShare_isSome (e := c.zone z) hr hrp hs hc
    exact ⟨n, mem_builtShares.mpr ⟨hp, l, k, hl, hn⟩, (builtShare_plans hn).1⟩

theorem planSource_of_alloc {c d : Cabin} (h : d.alloc = c.alloc) : planSource d = planSource c := by
  funext v
  cases v
  · exact congrArg (Option.map PlanSource.chan) (chanOf_of_chans (congrArg Allocator.chans h) _)
  · rfl

theorem buildJob_of_eq {c d : Cabin} (hdir : d.dir = c.dir) (halloc : d.alloc = c.alloc) (z : Zone) :
    buildJob d z = buildJob c z := by
  have hshare : builtShare d = builtShare c := by
    funext e l k
    simp only [builtShare, Cabin.route, hdir, planSource_of_alloc halloc]
  have hzone : d.zone z = c.zone z := by simp only [Cabin.zone, hdir]
  simp only [buildJob, builtShares, hzone, hshare]

/-- The zone is stale, or its build has started with what it reads now. -/
def RebuildsIn (c : Cabin) (z : Zone) : Prop :=
  c.builder.stale.get z = true ∨ ∃ j, c.builder.job = some j ∧ j.zone = z ∧ ReadsAtStart c j

theorem RebuildsIn.rebuilds {c : Cabin} {z : Zone} (h : RebuildsIn c z) (p : Port) (r : Result) (ws : List Word) (s : State) :
    Rebuilds (s.onCab fun _ => respond p r ws c) z := h

theorem startBuild_rebuildsIn {c : Cabin} {z : Zone} (h : c.builder.stale.get z = true) : RebuildsIn (startBuild c) z := by
  have hjob := buildJob_of_eq (startBuild_dir c) (startBuild_alloc c)
  have hreads := buildJob_readsAtStart (startBuild c)
  unfold RebuildsIn
  generalize hd : startBuild c = d at hjob hreads ⊢
  unfold startBuild at hd
  split at hd
  · split at hd
    · exact .inl (hd ▸ h)
    · rename_i y _
      by_cases hz : z = y
      · subst hz
        exact .inr ⟨buildJob d z, by rw [hjob, ← hd], rfl, hreads z⟩
      · exact .inl (by simpa [← hd, PerZone.get_set_ne _ _ _ _ hz] using h)
  · exact .inl (hd ▸ h)

theorem settleRoutes_rebuildsIn {c : Cabin} {z : Zone} (h : c.builder.stale.get z = true) :
    RebuildsIn (settleRoutes c) z := by
  have hstale : (refreshSound (rederiveRoutes c)).builder.stale.get z = true := by simpa using h
  exact startBuild_rebuildsIn hstale

end Sys2Proof.Machine
end

section
/-! SUPPORT. The announcement queue while the arbitration and the traffic tests follow a change of the records: entries
go, and the only ones that come are bulletins of stations that a channel carries (06 R108, R109, R116, R117). -/

namespace Sys2Proof.Machine

/-! ## Displacement (06 R108) -/

/-- The step of `displaceable`'s fold. -/
def lowerOf (c : Cabin) (best : Option (Fin 8 × Entry)) (i : Fin 8) : Option (Fin 8 × Entry) :=
  match (c.entrySlot i).entry with
  | none => best
  | some e =>
    match best with
    | none => some (i, e)
    | some (j, b) =>
      if e.priority < b.priority ∨ (e.priority = b.priority ∧ b.order < e.order) then some (i, e) else some (j, b)

theorem displaceable_eq_foldl (c : Cabin) : displaceable c = (List.finRange 8).foldl (lowerOf c) none := rfl

/-- What the fold has found once it has seen the slots of `seen`. -/
def LowestOf (c : Cabin) (seen : List (Fin 8)) : Option (Fin 8 × Entry) → Prop
  | none => ∀ i ∈ seen, (c.entrySlot i).entry = none
  | some (i, e) => (c.entrySlot i).entry = some e ∧
      ∀ j ∈ seen, ∀ f, (c.entrySlot j).entry = some f → e.priority ≤ f.priority

theorem lowerOf_lowestOf {c : Cabin} {seen : List (Fin 8)} {best : Option (Fin 8 × Entry)} (h : LowestOf c seen best)
    (i : Fin 8) : LowestOf c (i :: seen) (lowerOf c best i) := by
  unfold lowerOf
  cases hi : (c.entrySlot i).entry with
  | none =>
    cases best with
    | none => simpa [LowestOf, hi] using h
    | some b => simpa [LowestOf, hi] using h
  | some e =>
    cases best with
    | none =>
      refine ⟨hi, fun j hj f hf => ?_⟩
      rcases List.mem_cons.mp hj with rfl | hj
      · rw [hi] at hf
        cases hf
        exact le_refl _
      · rw [h j hj] at hf
        cases hf
    | some b =>
      obtain ⟨hb, hmin⟩ := h
      dsimp only
      split
      · rename_i hlt
        refine ⟨hi, fun j hj f hf => ?_⟩
        rcases List.mem_cons.mp hj with rfl | hj
        · rw [hi] at hf
          cases hf
          exact le_refl _
        · have := hmin j hj f hf
          omega
      · rename_i hge
        refine ⟨hb, fun j hj f hf => ?_⟩
        rcases List.mem_cons.mp hj with rfl | hj
        · rw [hi] at hf
          cases hf
          omega
        · exact hmin j hj f hf

theorem foldl_lowestOf {c : Cabin} (l : List (Fin 8)) {seen : List (Fin 8)} {best : Option (Fin 8 × Entry)}
    (h : LowestOf c seen best) : LowestOf c (l.reverse ++ seen) (l.foldl (lowerOf c) best) := by
  induction l generalizing seen best with
  | nil => exact h
  | cons i l ih => simpa using ih (lowerOf_lowestOf h i)

theorem displaceable_lowest (c : Cabin) : LowestOf c (List.finRange 8).reverse (displaceable c) := by
  have h := foldl_lowestOf (c := c) (List.finRange 8) (seen := []) (best := none) (fun i hi => by cases hi)
  simpa [displaceable_eq_foldl] using h

/-- Every slot holds an entry of this priority or above, so that none of a lower one is admitted. -/
def FullAbove (c : Cabin) (n : Nat) : Prop := ∀ i, ∃ e, (c.entrySlot i).entry = some e ∧ n ≤ e.priority

theorem freeEntrySlot_some {c : Cabin} {i : Fin 8} (h : freeEntrySlot c = some i) : (c.entrySlot i).entry = none :=
  of_decide_eq_true (firstIdx_some h)

theorem freeEntrySlot_none {c : Cabin} (h : freeEntrySlot c = none) (i : Fin 8) : (c.entrySlot i).entry ≠ none :=
  of_decide_eq_false (by simpa using firstIdx_none h i)

theorem admission_refused {c : Cabin} {n : Nat} (h : admission c n = .refused) : FullAbove c n := by
  unfold admission at h
  split at h
  · cases h
  · rename_i hfree
    have hlow := displaceable_lowest c
    intro i
    obtain ⟨f, hf⟩ := Option.ne_none_iff_exists'.mp (freeEntrySlot_none hfree i)
    split at h
    · rename_i hnone
      rw [hnone] at hlow
      rw [hlow i (by simp)] at hf
      cases hf
    · rename_i j b hsome
      rw [hsome] at hlow
      split at h
      · cases h
      · have := hlow.2 i (by simp) f hf
        exact ⟨f, hf, by omega⟩

theorem admission_displaces {c : Cabin} {n : Nat} {i : Fin 8} {e : Entry} (h : admission c n = .displaces i e) :
    (c.entrySlot i).entry = some e ∧ e.priority < n := by
  unfold admission at h
  split at h
  · cases h
  · have hlow := displaceable_lowest c
    split at h
    · cases h
    · rename_i j b hsome
      rw [hsome] at hlow
      split at h
      · rename_i hlt
        cases h
        exact ⟨hlow.1, hlt⟩
      · cases h

theorem admission_takes {c : Cabin} {n : Nat} {i : Fin 8} (h : admission c n = .takes i) :
    (c.entrySlot i).entry = none := by
  unfold admission at h
  split at h
  · rename_i j hfree
    cases h
    exact freeEntrySlot_some hfree
  · repeat' split at h
    all_goals cases h

/-! ## The slots after an entry comes or goes -/

theorem entrySlot_of_slots {c d : Cabin} (h : d.queue.slots = c.queue.slots) (i : Fin 8) : d.entrySlot i = c.entrySlot i :=
  congrArg (fun t => t.get i) h

theorem setEntrySlot_entrySlot (i j : Fin 8) (v : EntrySlot) (c : Cabin) :
    (setEntrySlot i v c).entrySlot j = if j = i then v else c.entrySlot j := by
  simp [Cabin.entrySlot, Tab.get_set]

theorem removeEntry_entrySlot (i j : Fin 8) (e : Entry) (reason : EndReason) (c : Cabin) :
    (removeEntry i e reason c).entrySlot j =
      if j = i then ⟨(c.entrySlot i).gen + 1, none⟩ else c.entrySlot j := by
  have hslots : (removeEntry i e reason c).queue.slots = (setEntrySlot i ⟨(c.entrySlot i).gen + 1, none⟩ c).queue.slots := by
    unfold removeEntry
    extract_lets id freed ended posted
    have hposted : posted.queue.slots = freed.queue.slots := by
      unfold posted
      split <;> simp [ended]
    split
    · rw [toneDisplaced_queue, hposted]
      simp [freed]
    · rw [hposted]
      simp [freed]
  rw [entrySlot_of_slots hslots, setEntrySlot_entrySlot]

theorem putEntry_entrySlot (i j : Fin 8) (kind : EntryKind) (priority : Nat) (targets : ZoneSet) (timeLeft : Nat)
    (c : Cabin) : (putEntry i kind priority targets timeLeft c).entrySlot j =
      if j = i then { c.entrySlot i with entry := some ⟨kind, priority, targets, c.queue.order, timeLeft⟩ }
      else c.entrySlot j := setEntrySlot_entrySlot i j _ c

/-- `d` holds the entries of `c`, but for the new one in slot `i`, which was free or held an entry of lower priority. -/
def Admitted (kind : EntryKind) (priority : Nat) (targets : ZoneSet) (timeLeft : Nat) (c d : Cabin) : Prop :=
  ∃ i n, (d.entrySlot i).entry = some ⟨kind, priority, targets, n, timeLeft⟩ ∧
    (∀ j, j ≠ i → d.entrySlot j = c.entrySlot j) ∧ ∀ b, (c.entrySlot i).entry = some b → b.priority < priority

theorem admitEntry_some {kind : EntryKind} {priority : Nat} {targets : ZoneSet} {timeLeft : Nat} {c d : Cabin}
    {a : EntryId} (h : admitEntry kind priority targets timeLeft c = (d, some a)) :
    Admitted kind priority targets timeLeft c d := by
  unfold admitEntry at h
  split at h
  · rename_i i hi
    simp only [Prod.mk.injEq] at h
    obtain ⟨rfl, -⟩ := h
    have hslot := entrySlot_of_slots (refreshSound_slots (putEntry i kind priority targets timeLeft c))
    refine ⟨i, c.queue.order, ?_, fun j hj => ?_, fun b hb => ?_⟩
    · rw [hslot, putEntry_entrySlot, if_pos rfl]
    · rw [hslot, putEntry_entrySlot, if_neg hj]
    · rw [admission_takes hi] at hb
      cases hb
  · rename_i i e hi
    obtain ⟨he, hlt⟩ := admission_displaces hi
    simp only [Prod.mk.injEq] at h
    obtain ⟨rfl, -⟩ := h
    have hfreed := entrySlot_of_slots (refreshSound_slots (removeEntry i e .displaced c))
    have horder : (refreshSound (removeEntry i e .displaced c)).queue.order = c.queue.order := by simp
    generalize refreshSound (removeEntry i e .displaced c) = u at hfreed horder
    have hslot := entrySlot_of_slots (refreshSound_slots (putEntry i kind priority targets timeLeft u))
    refine ⟨i, c.queue.order, ?_, fun j hj => ?_, fun b hb => ?_⟩
    · rw [hslot, putEntry_entrySlot, if_pos rfl, horder]
    · rw [hslot, putEntry_entrySlot, if_neg hj, hfreed, removeEntry_entrySlot, if_neg hj]
    · rw [he] at hb
      cases hb
      exact hlt
  · simp only [Prod.mk.injEq, reduceCtorEq, and_false] at h

theorem admitEntry_none {kind : EntryKind} {priority : Nat} {targets : ZoneSet} {timeLeft : Nat} {c d : Cabin}
    (h : admitEntry kind priority targets timeLeft c = (d, none)) : d = c ∧ FullAbove c priority := by
  unfold admitEntry at h
  split at h
  · simp only [Prod.mk.injEq, reduceCtorEq, and_false] at h
  · simp only [Prod.mk.injEq, reduceCtorEq, and_false] at h
  · rename_i hr
    obtain ⟨rfl, -⟩ := Prod.mk.inj h
    exact ⟨rfl, admission_refused hr⟩

/-! ## Only bulletins come -/

/-- A bulletin as it is raised: the channel that carries its station, priority 3, 300 s, and TRAFFIC posted (06 R116). -/
def FreshBulletin (d : Cabin) (e : Entry) : Prop :=
  ∃ h x, e.kind = .traffic h x ∧ (d.chan x).station = some h ∧ e.priority = 3 ∧ e.timeLeft = 300000 ∧
    (d.ports.part.posts = true → ∀ p, EventSet.has (d.ports.events.get p) .traffic = true)

/-- Two entries alike but for their targets and place in the queue. -/
def SameEntry (b e : Entry) : Prop := b.kind = e.kind ∧ b.priority = e.priority ∧ b.timeLeft = e.timeLeft

/-- Every entry of `d` is one of `c`, or a bulletin raised since. -/
structure OnlyBulletins (c d : Cabin) : Prop where
  chans : d.alloc.chans = c.alloc.chans
  part : d.ports.part = c.ports.part
  patterns : d.queue.patterns = c.queue.patterns
  events : EventsKept c d
  entries : ∀ i e, (d.entrySlot i).entry = some e →
    (∃ b, (c.entrySlot i).entry = some b ∧ SameEntry b e) ∨ FreshBulletin d e

theorem FreshBulletin.of_later {c d : Cabin} {e : Entry} (h : FreshBulletin c e) (hchans : d.alloc.chans = c.alloc.chans)
    (hpart : d.ports.part = c.ports.part) (hev : EventsKept c d) : FreshBulletin d e := by
  obtain ⟨g, x, hk, hx, hp, ht, hs⟩ := h
  exact ⟨g, x, hk, by rwa [chan_of_chans hchans], hp, ht, fun hposts p => hev p _ (hs (hpart ▸ hposts) p)⟩

theorem FreshBulletin.of_same {d : Cabin} {b e : Entry} (h : FreshBulletin d b) (he : SameEntry b e) :
    FreshBulletin d e := by
  obtain ⟨g, x, hk, hx, hp, ht, hs⟩ := h
  obtain ⟨ek, ep, et⟩ := he
  exact ⟨g, x, ek ▸ hk, hx, ep ▸ hp, et ▸ ht, hs⟩

theorem OnlyBulletins.refl (c : Cabin) : OnlyBulletins c c :=
  ⟨rfl, rfl, rfl, fun _ _ h => h, fun _ e h => .inl ⟨e, h, rfl, rfl, rfl⟩⟩

theorem OnlyBulletins.trans {c d e : Cabin} (h : OnlyBulletins c d) (g : OnlyBulletins d e) : OnlyBulletins c e where
  chans := g.chans.trans h.chans
  part := g.part.trans h.part
  patterns := g.patterns.trans h.patterns
  events p k hk := g.events p k (h.events p k hk)
  entries i a ha := by
    rcases g.entries i a ha with ⟨b, hb, hsame⟩ | hfresh
    · rcases h.entries i b hb with ⟨b', hb', hsame'⟩ | hfresh
      · obtain ⟨ek, ep, et⟩ := hsame
        obtain ⟨ek', ep', et'⟩ := hsame'
        exact .inl ⟨b', hb', ek'.trans ek, ep'.trans ep, et'.trans et⟩
      · exact .inr ((hfresh.of_later g.chans g.part g.events).of_same hsame)
    · exact .inr hfresh

theorem OnlyBulletins.of_slots {c d : Cabin} (hchans : d.alloc.chans = c.alloc.chans) (hpart : d.ports.part = c.ports.part)
    (hpat : d.queue.patterns = c.queue.patterns) (hev : EventsKept c d) (hs : d.queue.slots = c.queue.slots) :
    OnlyBulletins c d :=
  ⟨hchans, hpart, hpat, hev, fun i e he => .inl ⟨e, entrySlot_of_slots hs i ▸ he, rfl, rfl, rfl⟩⟩

theorem refreshSound_onlyBulletins (c : Cabin) : OnlyBulletins c (refreshSound c) :=
  .of_slots (by simp) (by simp) (by simp) (refreshSound_undisturbed c).events (by simp)

theorem removeEntry_onlyBulletins (i : Fin 8) (e : Entry) (reason : EndReason) (c : Cabin) :
    OnlyBulletins c (removeEntry i e reason c) := by
  refine ⟨by simp, by simp, by simp, (removeEntry_undisturbed i e reason c).events, fun j b hb => ?_⟩
  rw [removeEntry_entrySlot] at hb
  split at hb
  · cases hb
  · exact .inl ⟨b, hb, rfl, rfl, rfl⟩

theorem retarget_entrySlot (i j : Fin 8) (t : ZoneSet) (c : Cabin) : ((retarget i t c).entrySlot j).entry =
    if j = i then (c.entrySlot i).entry.map fun e => { e with targets := t } else (c.entrySlot j).entry := by
  unfold retarget
  split
  · rename_i h
    split
    · rename_i hj
      subst hj
      cases he : (c.entrySlot j).entry with
      | none => rfl
      | some e =>
        rw [he] at h
        simp at h
        simp [← h]
    · rfl
  · rw [entrySlot_of_slots (refreshSound_slots _)]
    unfold modifyEntry
    split
    · rename_i he
      split
      · rename_i hj
        simp [hj, he]
      · rfl
    · rename_i e he
      rw [setEntrySlot_entrySlot]
      split
      · simp [he]
      · rfl

theorem retarget_onlyBulletins (i : Fin 8) (t : ZoneSet) (c : Cabin) : OnlyBulletins c (retarget i t c) := by
  refine ⟨by simp, by simp, by simp, (retarget_undisturbed i t c).events, fun j e he => .inl ?_⟩
  rw [retarget_entrySlot] at he
  split at he
  · rename_i hj
    subst hj
    obtain ⟨b, hb, rfl⟩ := Option.map_eq_some_iff.mp he
    exact ⟨b, hb, rfl, rfl, rfl⟩
  · exact ⟨e, he, rfl, rfl, rfl⟩

/-- What a test of a carried station does (06 R116): nothing, where the condition fails or the queue has no room for its
bulletin; or its bulletin is retargeted; or it is queued. -/
inductive TestOutcome (x : Chan) (h : StationId) (c : Cabin) : Cabin → Prop
  | idle (hn : trafficEntry c h = none) (hc : trafficCondition c h = false) : TestOutcome x h c c
  | refused (hn : trafficEntry c h = none) (hf : FullAbove c 3) : TestOutcome x h c c
  | retargeted (i : Fin 8) (hi : trafficEntry c h = some i) : TestOutcome x h c (retarget i (trafficTargets c h) c)
  | raised (d : Cabin) (hn : trafficEntry c h = none)
      (hd : Admitted (.traffic h x) 3 (trafficTargets c h) trafficLimit c d) : TestOutcome x h c (postBoth .traffic d)

theorem testTrafficOn_outcome {x : Chan} {h : StationId} {c : Cabin} (hx : (c.chan x).station = some h) :
    TestOutcome x h c (testTrafficOn x c) := by
  unfold testTrafficOn
  split
  · rename_i hnone
    rw [hx] at hnone
    cases hnone
  · rename_i g hg
    rw [hx] at hg
    cases hg
    split
    · rename_i i hi
      exact .retargeted i hi
    · rename_i hn
      split
      · split
        · rename_i d a hadmit
          exact .raised d hn (admitEntry_some hadmit)
        · rename_i d hadmit
          obtain ⟨rfl, hfull⟩ := admitEntry_none hadmit
          exact .refused hn hfull
      · rename_i hc
        exact .idle hn (by simpa using hc)

theorem testTrafficOn_of_none {x : Chan} {c : Cabin} (hx : (c.chan x).station = none) : testTrafficOn x c = c := by
  simp [testTrafficOn, hx]

end Sys2Proof.Machine
end

section
/-! SUPPORT. What the traffic tests leave (06 R116), and which bulletins a command raises. -/

namespace Sys2Proof.Machine

/-! ## The TRAFFIC entry of a station -/

/-- The entry is a bulletin of the station. -/
def Entry.bulletinOf (e : Entry) (h : StationId) : Bool :=
  match e.kind with
  | .traffic g _ => decide (g = h)
  | _ => false

theorem bulletinOf_iff {e : Entry} {h : StationId} : e.bulletinOf h = true ↔ ∃ x, e.kind = .traffic h x := by
  unfold Entry.bulletinOf
  split
  · rename_i g x hk
    rw [hk]
    simp
  · rename_i hk
    simpa using fun x hx => hk h x hx

/-- The slot holds a bulletin of the station. -/
def holdsBulletin (c : Cabin) (h : StationId) (i : Fin 8) : Bool := (c.entrySlot i).entry.any (·.bulletinOf h)

theorem trafficEntry_eq (c : Cabin) (h : StationId) : trafficEntry c h = firstIdx (holdsBulletin c h) := by
  unfold trafficEntry findEntry holdsBulletin
  congr 1
  funext i
  cases (c.entrySlot i).entry <;> rfl

theorem trafficEntry_some {c : Cabin} {h : StationId} {i : Fin 8} (hi : trafficEntry c h = some i) :
    holdsBulletin c h i = true := firstIdx_some (by rwa [trafficEntry_eq] at hi)

theorem trafficEntry_none {c : Cabin} {h : StationId} (hn : trafficEntry c h = none) (i : Fin 8) :
    holdsBulletin c h i = false := firstIdx_none (by rwa [trafficEntry_eq] at hn) i

theorem trafficEntry_isSome {c : Cabin} {h : StationId} {i : Fin 8} (hi : holdsBulletin c h i = true) :
    (trafficEntry c h).isSome = true := by
  by_contra hne
  have hn := trafficEntry_none (Option.not_isSome_iff_eq_none.mp hne) i
  rw [hi] at hn
  cases hn

theorem holdsBulletin_of_entry {c : Cabin} {h : StationId} {x : Chan} {i : Fin 8} {e : Entry}
    (hi : (c.entrySlot i).entry = some e) (hk : e.kind = .traffic h x) : holdsBulletin c h i = true := by
  simp [holdsBulletin, hi, bulletinOf_iff.mpr ⟨x, hk⟩]

theorem entry_of_holdsBulletin {c : Cabin} {h : StationId} {i : Fin 8} (hi : holdsBulletin c h i = true) :
    ∃ e x, (c.entrySlot i).entry = some e ∧ e.kind = .traffic h x := by
  unfold holdsBulletin at hi
  cases he : (c.entrySlot i).entry with
  | none => simp [he] at hi
  | some e =>
    rw [he] at hi
    obtain ⟨x, hx⟩ := bulletinOf_iff.mp hi
    exact ⟨e, x, rfl, hx⟩

theorem trafficEntry_congr {c d : Cabin} {h : StationId} (hd : ∀ i, holdsBulletin d h i = holdsBulletin c h i) :
    trafficEntry d h = trafficEntry c h := by
  rw [trafficEntry_eq, trafficEntry_eq, funext hd]

theorem PrioritiesFit.bulletin {c : Cabin} (hf : PrioritiesFit c) {h : StationId} {i : Fin 8} {e : Entry}
    (he : (c.entrySlot i).entry = some e) (hb : holdsBulletin c h i = true) : e.priority = 3 := by
  obtain ⟨b, x, hb', hk⟩ := entry_of_holdsBulletin hb
  rw [he] at hb'
  cases hb'
  have := hf i e he
  rwa [hk] at this

/-! ## Which entries come -/

theorem testTrafficOn_onlyBulletins (x : Chan) (c : Cabin) : OnlyBulletins c (testTrafficOn x c) := by
  cases hx : (c.chan x).station with
  | none => rw [testTrafficOn_of_none hx]; exact .refl c
  | some h =>
    have hchans : (testTrafficOn x c).alloc.chans = c.alloc.chans := by simp
    have hpart : (testTrafficOn x c).ports.part = c.ports.part := by simp
    have hpat : (testTrafficOn x c).queue.patterns = c.queue.patterns := by simp
    have hev := (testTrafficOn_undisturbed x c).events
    have hout := testTrafficOn_outcome hx
    generalize testTrafficOn x c = d at hchans hpart hpat hev hout
    cases hout with
    | idle => exact .refl c
    | refused => exact .refl c
    | retargeted i => exact retarget_onlyBulletins i _ c
    | raised u hn hu =>
      obtain ⟨i, n, hi, hother, -⟩ := hu
      have hslot : ∀ j, (postBoth .traffic u).entrySlot j = u.entrySlot j := entrySlot_of_slots (by simp)
      refine ⟨hchans, hpart, hpat, hev, fun j e he => ?_⟩
      rw [hslot] at he
      by_cases hj : j = i
      · subst hj
        rw [hi] at he
        cases he
        exact .inr ⟨h, x, rfl, by rwa [chan_of_chans hchans], rfl, rfl,
          fun hposts p => postBoth_shows (by simpa using hposts) p .traffic⟩
      · rw [hother j hj] at he
        exact .inl ⟨e, he, rfl, rfl, rfl⟩

theorem testTraffic_onlyBulletins (c : Cabin) : OnlyBulletins c (testTraffic c) :=
  (testTrafficOn_onlyBulletins .pc0 c).trans (testTrafficOn_onlyBulletins .pc1 _)

theorem endEntry_onlyBulletins (i : Fin 8) (reason : EndReason) (c : Cabin) : OnlyBulletins c (endEntry i reason c) := by
  unfold endEntry
  split
  · exact .refl c
  · exact ((removeEntry_onlyBulletins ..).trans (refreshSound_onlyBulletins _)).trans (testTraffic_onlyBulletins _)

theorem eachIdx_onlyBulletins {n : Nat} {f : Fin n → Cabin → Cabin} (h : ∀ i c, OnlyBulletins c (f i c)) (c : Cabin) :
    OnlyBulletins c (eachIdx n f c) := by
  unfold eachIdx
  induction List.finRange n generalizing c with
  | nil => exact .refl c
  | cons i l ih => exact (h i c).trans (ih (f i c))

theorem endUncarried_onlyBulletins (c : Cabin) : OnlyBulletins c (endUncarried c) :=
  eachIdx_onlyBulletins (fun i c => by
    repeat' split
    · exact .refl c
    · exact .refl c
    · exact endEntry_onlyBulletins ..
    · exact .refl c) c

/-- Every entry of `d` is one of `c`, or a bulletin of a station that a channel carries now. -/
structure BulletinsCome (c d : Cabin) : Prop where
  part : d.ports.part = c.ports.part
  patterns : d.queue.patterns = c.queue.patterns
  entries : ∀ i e, (d.entrySlot i).entry = some e →
    (∃ b, (c.entrySlot i).entry = some b ∧ SameEntry b e) ∨ FreshBulletin d e

theorem BulletinsCome.of_queue {c d : Cabin} (hpart : d.ports.part = c.ports.part) (hq : d.queue = c.queue) :
    BulletinsCome c d :=
  ⟨hpart, by rw [hq], fun i e he => .inl ⟨e, by rwa [entrySlot_of_slots (congrArg Queue.slots hq)] at he, rfl, rfl, rfl⟩⟩

theorem BulletinsCome.only {c d e : Cabin} (h : BulletinsCome c d) (g : OnlyBulletins d e) : BulletinsCome c e where
  part := g.part.trans h.part
  patterns := g.patterns.trans h.patterns
  entries i a ha := by
    rcases g.entries i a ha with ⟨b, hb, ek, ep, et⟩ | hfresh
    · rcases h.entries i b hb with ⟨b', hb', ek', ep', et'⟩ | hfresh
      · exact .inl ⟨b', hb', ek'.trans ek, ep'.trans ep, et'.trans et⟩
      · exact .inr ((hfresh.of_later g.chans g.part g.events).of_same ⟨ek, ep, et⟩)
    · exact .inr hfresh

theorem BulletinsCome.after {c d e : Cabin} (hpart : d.ports.part = c.ports.part) (hq : d.queue = c.queue)
    (g : BulletinsCome d e) : BulletinsCome c e where
  part := g.part.trans hpart
  patterns := g.patterns.trans (congrArg Queue.patterns hq)
  entries i a ha := by
    rw [← entrySlot_of_slots (congrArg Queue.slots hq)]
    exact g.entries i a ha

theorem applyAssignment_bulletinsCome (n : Option StationId × Option StationId) (c : Cabin) :
    BulletinsCome c (applyAssignment n c) := by
  unfold applyAssignment
  extract_lets t assigned roles tuned tested moved
  have htuned : BulletinsCome c tuned :=
    .of_queue (by simp [tuned, roles, assigned]) (by simp [tuned, roles, assigned])
  have htested : OnlyBulletins tuned tested := (endUncarried_onlyBulletins tuned).trans (testTraffic_onlyBulletins _)
  have hstale : OnlyBulletins tested (staleIfMoved c n.1 (staleIfMoved c n.2 moved)) :=
    .of_slots (by simp [moved]) (by simp [moved]) (by simp [moved]) (fun p k h => by simpa [moved] using h) (by simp [moved])
  exact htuned.only (htested.trans hstale)

theorem arbitrate_bulletinsCome (c : Cabin) : BulletinsCome c (arbitrate c) := by
  unfold arbitrate
  repeat' split
  · exact .of_queue rfl rfl
  · exact applyAssignment_bulletinsCome ..
  · exact .of_queue rfl rfl

theorem settleRoutes_onlyBulletins (c : Cabin) : OnlyBulletins c (settleRoutes c) :=
  .of_slots (by simp) (by simp) (by simp) (settleRoutes_undisturbed c).events (by simp)

theorem BulletinsCome.prioritiesFit {c d : Cabin} (h : BulletinsCome c d) (hf : PrioritiesFit c) : PrioritiesFit d := by
  intro i e he
  rcases h.entries i e he with ⟨b, hb, ek, ep, -⟩ | ⟨g, x, hk, -, hp, -, -⟩
  · rw [← ek, ← ep, h.patterns]
    exact hf i b hb
  · rw [hk]
    exact hp

/-! ## Tested conditions -/

/-- What a test of the station `h` leaves (06 R116). -/
def TestedFor (c : Cabin) (h : StationId) : Prop :=
  (trafficCondition c h = true → (trafficEntry c h).isSome = true ∨ FullAbove c 3) ∧
  ∀ i, trafficEntry c h = some i → ∀ e, (c.entrySlot i).entry = some e → e.targets = trafficTargets c h

theorem trafficTested_iff {c : Cabin} : TrafficTested c ↔ ∀ x h, (c.chan x).station = some h → TestedFor c h := Iff.rfl

/-- The same inputs of the traffic conditions and targets (06 R116). -/
structure SameTraffic (c d : Cabin) : Prop where
  zones : d.dir.zones = c.dir.zones
  names : ∀ l v, listNames d l v = listNames c l v
  slots : d.table.slots = c.table.slots
  watch : d.table.watch = c.table.watch
  ignored : d.queue.ignored = c.queue.ignored

theorem SameTraffic.of_eq {c d : Cabin} (hd : d.dir = c.dir) (ht : d.table = c.table)
    (hi : d.queue.ignored = c.queue.ignored) : SameTraffic c d :=
  ⟨by rw [hd], fun l v => by simp only [listNames, duplicateIn, Cabin.route, hd], by rw [ht], by rw [ht], hi⟩

theorem SameTraffic.targets {c d : Cabin} (h : SameTraffic c d) (g : StationId) : trafficTargets d g = trafficTargets c g := by
  have hzone : ∀ z, d.zone z = c.zone z := fun z => congrArg (fun t => t.get z) h.zones
  simp only [trafficTargets, hzone, h.watch, h.names]

theorem SameTraffic.condition {c d : Cabin} (h : SameTraffic c d) (g : StationId) :
    trafficCondition d g = trafficCondition c g := by
  have hstation : d.station g = c.station g := by simp only [Cabin.station, stationSlot_of_slots h.slots]
  simp only [trafficCondition, hstation, h.targets, h.ignored]

theorem testTrafficOn_sameTraffic (x : Chan) (c : Cabin) : SameTraffic c (testTrafficOn x c) :=
  .of_eq (by simp) (by simp) (by simp)

theorem TestedFor.of_same {c d : Cabin} (h : SameTraffic c d) (hs : d.queue.slots = c.queue.slots) {g : StationId}
    (hc : TestedFor c g) : TestedFor d g := by
  have hslot := entrySlot_of_slots hs
  have hentry : trafficEntry d g = trafficEntry c g := trafficEntry_congr fun i => by simp only [holdsBulletin, hslot]
  simpa only [TestedFor, FullAbove, h.condition, h.targets, hentry, hslot] using hc

/-! ### A bulletin is retargeted -/

theorem retarget_holdsBulletin (i : Fin 8) (t : ZoneSet) (c : Cabin) (g : StationId) (j : Fin 8) :
    holdsBulletin (retarget i t c) g j = holdsBulletin c g j := by
  unfold holdsBulletin
  rw [retarget_entrySlot]
  split
  · rename_i hj
    subst hj
    cases (c.entrySlot j).entry <;> rfl
  · rfl

theorem retarget_trafficEntry (i : Fin 8) (t : ZoneSet) (c : Cabin) (g : StationId) :
    trafficEntry (retarget i t c) g = trafficEntry c g := trafficEntry_congr (retarget_holdsBulletin i t c g)

theorem FullAbove.retarget {c : Cabin} {n : Nat} (h : FullAbove c n) (i : Fin 8) (t : ZoneSet) :
    FullAbove (retarget i t c) n := fun j => by
  obtain ⟨e, he, hn⟩ := h j
  rw [retarget_entrySlot]
  split
  · rename_i hj
    subst hj
    exact ⟨{ e with targets := t }, by rw [he]; rfl, hn⟩
  · exact ⟨e, he, hn⟩

theorem holdsBulletin_unique {c : Cabin} {g h : StationId} {i : Fin 8} (hg : holdsBulletin c g i = true)
    (hh : holdsBulletin c h i = true) : g = h := by
  obtain ⟨e, x, he, hx⟩ := entry_of_holdsBulletin hg
  obtain ⟨b, y, hb, hy⟩ := entry_of_holdsBulletin hh
  rw [he] at hb
  cases hb
  rw [hx] at hy
  cases hy
  rfl

theorem retarget_testedFor_self {c : Cabin} {h : StationId} {i : Fin 8} (hi : trafficEntry c h = some i) :
    TestedFor (retarget i (trafficTargets c h) c) h := by
  have hsame : SameTraffic c (retarget i (trafficTargets c h) c) := .of_eq (by simp) (by simp) (by simp)
  refine ⟨fun _ => .inl (by rw [retarget_trafficEntry, hi]; rfl), fun j hj e he => ?_⟩
  rw [retarget_trafficEntry, hi] at hj
  cases hj
  rw [retarget_entrySlot, if_pos rfl] at he
  obtain ⟨b, -, rfl⟩ := Option.map_eq_some_iff.mp he
  exact (hsame.targets h).symm

theorem TestedFor.retarget {c : Cabin} {g h : StationId} (hc : TestedFor c g) {i : Fin 8} (hi : trafficEntry c h = some i) :
    TestedFor (retarget i (trafficTargets c h) c) g := by
  by_cases hg : g = h
  · subst hg
    exact retarget_testedFor_self hi
  · have hsame : SameTraffic c (Machine.retarget i (trafficTargets c h) c) := .of_eq (by simp) (by simp) (by simp)
    obtain ⟨hraised, htargets⟩ := hc
    refine ⟨fun hcond => ?_, fun j hj e he => ?_⟩
    · rw [hsame.condition] at hcond
      rw [retarget_trafficEntry]
      exact (hraised hcond).imp id (·.retarget i _)
    · rw [retarget_trafficEntry] at hj
      have hne : j ≠ i := fun e => hg (holdsBulletin_unique (trafficEntry_some hj) (e ▸ trafficEntry_some hi))
      rw [retarget_entrySlot, if_neg hne] at he
      rw [hsame.targets]
      exact htargets j hj e he

/-! ### A bulletin is raised -/

section Raised

variable {c d : Cabin} {h : StationId} {x : Chan} {i : Fin 8} {n : Nat}
  (hi : (d.entrySlot i).entry = some ⟨.traffic h x, 3, trafficTargets c h, n, trafficLimit⟩)
  (hother : ∀ j, j ≠ i → d.entrySlot j = c.entrySlot j)
  (hlow : ∀ b, (c.entrySlot i).entry = some b → b.priority < 3)

include hlow in
theorem displaced_not_bulletin (hf : PrioritiesFit c) (g : StationId) : holdsBulletin c g i = false := by
  by_contra hb
  have hb := Bool.eq_true_of_not_eq_false hb
  obtain ⟨e, y, he, -⟩ := entry_of_holdsBulletin hb
  have := hf.bulletin he hb
  have := hlow e he
  omega

include hlow in
theorem displaced_not_full : ¬ FullAbove c 3 := fun hfull => by
  obtain ⟨e, he, hn⟩ := hfull i
  have := hlow e he
  omega

include hi in
theorem raised_holdsBulletin : holdsBulletin d h i = true := holdsBulletin_of_entry hi rfl

include hother in
theorem raised_holdsBulletin_other (g : StationId) {j : Fin 8} (hj : j ≠ i) : holdsBulletin d g j = holdsBulletin c g j := by
  simp only [holdsBulletin, hother j hj]

include hi hother in
theorem raised_testedFor_self (hsame : SameTraffic c d) (hn : trafficEntry c h = none) : TestedFor d h := by
  refine ⟨fun _ => .inl (trafficEntry_isSome (raised_holdsBulletin hi)), fun j hj e he => ?_⟩
  have hji : j = i := by
    by_contra hne
    have hb := trafficEntry_some hj
    rw [raised_holdsBulletin_other hother h hne, trafficEntry_none hn j] at hb
    cases hb
  subst hji
  rw [hi] at he
  cases he
  exact (hsame.targets h).symm

include hi hother hlow in
theorem TestedFor.raised {g : StationId} (hc : TestedFor c g) (hf : PrioritiesFit c) (hsame : SameTraffic c d)
    (hn : trafficEntry c h = none) : TestedFor d g := by
  by_cases hg : g = h
  · subst hg
    exact raised_testedFor_self hi hother hsame hn
  · have hentry : trafficEntry d g = trafficEntry c g := trafficEntry_congr fun j => by
      by_cases hj : j = i
      · subst hj
        rw [displaced_not_bulletin hlow hf g]
        by_contra hb
        exact hg (holdsBulletin_unique (Bool.eq_true_of_not_eq_false hb) (raised_holdsBulletin hi))
      · exact raised_holdsBulletin_other hother g hj
    obtain ⟨hraised, htargets⟩ := hc
    refine ⟨fun hcond => .inl ?_, fun j hj e he => ?_⟩
    · rw [hentry]
      exact (hraised (by rwa [hsame.condition] at hcond)).resolve_right (displaced_not_full hlow)
    · rw [hentry] at hj
      have hne : j ≠ i := fun e => by
        have hb := trafficEntry_some hj
        rw [e, displaced_not_bulletin hlow hf g] at hb
        cases hb
      rw [hother j hne] at he
      rw [hsame.targets]
      exact htargets j hj e he

end Raised

/-! ### Both tests -/

theorem testTrafficOn_testedFor_self {c : Cabin} {x : Chan} {h : StationId} (hx : (c.chan x).station = some h) :
    TestedFor (testTrafficOn x c) h := by
  have hsame := testTrafficOn_sameTraffic x c
  have hout := testTrafficOn_outcome hx
  generalize testTrafficOn x c = d at hsame hout
  cases hout with
  | idle hn hc =>
    exact ⟨fun hcond => (by rw [hc] at hcond; cases hcond), fun i hi => (by rw [hn] at hi; cases hi)⟩
  | refused hn hf => exact ⟨fun _ => .inr hf, fun i hi => by rw [hn] at hi; cases hi⟩
  | retargeted i hi => exact retarget_testedFor_self hi
  | raised u hn hu =>
    obtain ⟨i, n, hi, hother, -⟩ := hu
    have hslot : ∀ j, (postBoth .traffic u).entrySlot j = u.entrySlot j := entrySlot_of_slots (by simp)
    exact raised_testedFor_self (by rwa [hslot]) (fun j hj => (hslot j).trans (hother j hj)) hsame hn

theorem TestedFor.testTrafficOn {c : Cabin} {g : StationId} (hc : TestedFor c g) (hf : PrioritiesFit c) (x : Chan) :
    TestedFor (testTrafficOn x c) g := by
  cases hx : (c.chan x).station with
  | none => rwa [testTrafficOn_of_none hx]
  | some h =>
    have hsame := testTrafficOn_sameTraffic x c
    have hout := testTrafficOn_outcome hx
    generalize Machine.testTrafficOn x c = d at hsame hout
    cases hout with
    | idle => exact hc
    | refused => exact hc
    | retargeted i hi => exact hc.retarget hi
    | raised u hn hu =>
      obtain ⟨i, n, hi, hother, hlow⟩ := hu
      have hslot : ∀ j, (postBoth .traffic u).entrySlot j = u.entrySlot j := entrySlot_of_slots (by simp)
      exact hc.raised (by rwa [hslot]) (fun j hj => (hslot j).trans (hother j hj)) hlow hf hsame hn

theorem testTraffic_tested {c : Cabin} (hf : PrioritiesFit c) : TrafficTested (testTraffic c) := by
  have hfirst : OnlyBulletins c (testTrafficOn .pc0 c) := testTrafficOn_onlyBulletins .pc0 c
  have hf' : PrioritiesFit (testTrafficOn .pc0 c) :=
    ((BulletinsCome.of_queue rfl rfl).only hfirst).prioritiesFit hf
  intro x h hx
  have hx' : (c.chan x).station = some h := by
    rwa [chan_of_chans (testTraffic_onlyBulletins c).chans] at hx
  cases x
  · exact (testTrafficOn_testedFor_self hx').testTrafficOn hf' .pc1
  · exact testTrafficOn_testedFor_self (by rwa [chan_of_chans hfirst.chans])

theorem TrafficTested.of_same {c d : Cabin} (hc : TrafficTested c) (h : SameTraffic c d)
    (hchans : d.alloc.chans = c.alloc.chans) (hs : d.queue.slots = c.queue.slots) : TrafficTested d := fun x g hx =>
  TestedFor.of_same h hs (hc x g (by rwa [chan_of_chans hchans] at hx))

/-! ## What a command raises -/

/-- The bulletins of a command whose records change, the traffic test coming after the arbitration. -/
theorem raisesBulletins_of {s t : State} (hcome : BulletinsCome s.cab t.cab) (htested : TrafficTested t.cab) :
    RaisesBulletins s t := by
  refine ⟨htested, fun i e he h x hk hn => ?_⟩
  rcases hcome.entries i e he with ⟨b, hb, ek, -, -⟩ | ⟨g, y, hg, hx, hp, ht, hs⟩
  · have hsome := trafficEntry_isSome (holdsBulletin_of_entry hb (ek.trans hk))
    rw [hn] at hsome
    cases hsome
  · rw [hk] at hg
    cases hg
    exact ⟨hx, hp, ht, fun hposts => ⟨hs (hcome.part ▸ hposts) .front, hs (hcome.part ▸ hposts) .rear⟩⟩

end Sys2Proof.Machine
end

section
/-! SUPPORT. A request that changes the records, and what follows it: the arbitration, the traffic tests, the derived
states and the builder (01 section 1.5, 03 R45, 05 R89, 06 R116). -/

namespace Sys2Proof.Machine

/-! ## What is left alone -/

/-- The fields that neither a change of the records nor what follows it touches. -/
structure Frame (c d : Cabin) : Prop where
  part : d.ports.part = c.ports.part
  relay : d.ports.relay = c.ports.relay
  liteNumber : d.ports.liteNumber = c.ports.liteNumber
  status : d.ports.status = c.ports.status
  response : d.ports.response = c.ports.response
  canceller : d.calls.canceller = c.calls.canceller
  uplinkGain : d.calls.uplinkGain = c.calls.uplinkGain
  uplinkLevel : d.calls.uplinkLevel = c.calls.uplinkLevel
  phoneUl : d.calls.phoneUl = c.calls.phoneUl
  channels : d.mix.channels = c.mix.channels
  hold : d.builder.hold = c.builder.hold
  position : d.table.position = c.table.position
  tableFull : d.table.tableFull = c.table.tableFull
  stopped : d.alloc.stopped = c.alloc.stopped
  patterns : d.queue.patterns = c.queue.patterns
  ignored : d.queue.ignored = c.queue.ignored

theorem Frame.refl (c : Cabin) : Frame c c := by constructor <;> rfl

theorem Frame.trans {c d e : Cabin} (h : Frame c d) (g : Frame d e) : Frame c e where
  part := g.part.trans h.part
  relay := g.relay.trans h.relay
  liteNumber := g.liteNumber.trans h.liteNumber
  status := g.status.trans h.status
  response := g.response.trans h.response
  canceller := g.canceller.trans h.canceller
  uplinkGain := g.uplinkGain.trans h.uplinkGain
  uplinkLevel := g.uplinkLevel.trans h.uplinkLevel
  phoneUl := g.phoneUl.trans h.phoneUl
  channels := g.channels.trans h.channels
  hold := g.hold.trans h.hold
  position := g.position.trans h.position
  tableFull := g.tableFull.trans h.tableFull
  stopped := g.stopped.trans h.stopped
  patterns := g.patterns.trans h.patterns
  ignored := g.ignored.trans h.ignored

/-- What `KeptAround` says of the cabin blocks, before the request is answered. -/
structure Around (c d : Cabin) : Prop where
  frame : Frame c d
  events : EventsKept c d
  calls : TonesAside c d
  plans : ∀ z, (d.mixZone z).recorded = (c.mixZone z).recorded ∧
    (d.mixZone z).routes.map RouteShare.planOf = (c.mixZone z).routes.map RouteShare.planOf
  levels : ∀ z, (d.mixZone z).routes.map (·.current) = (c.mixZone z).routes.map (·.current) ∧
    (d.mixZone z).leaving.map (·.current) = (c.mixZone z).leaving.map (·.current)
  build : ∀ j, c.builder.job = some j → ∃ b, d.builder.job = some b ∧ b.zone = j.zone ∧ b.values = j.values ∧
    b.shares.map (fun n => { n with orphaned := false }) = j.shares.map fun n => { n with orphaned := false }

theorem Around.trans {c d e : Cabin} (h : Around c d) (g : Around d e) : Around c e where
  frame := h.frame.trans g.frame
  events p k hk := g.events p k (h.events p k hk)
  calls i := ⟨(g.calls i).1.trans (h.calls i).1, (g.calls i).2.trans (h.calls i).2⟩
  plans z := ⟨(g.plans z).1.trans (h.plans z).1, (g.plans z).2.trans (h.plans z).2⟩
  levels z := ⟨(g.levels z).1.trans (h.levels z).1, (g.levels z).2.trans (h.levels z).2⟩
  build j hj := by
    obtain ⟨a, ha, az, av, as⟩ := h.build j hj
    obtain ⟨b, hb, bz, bv, bs⟩ := g.build a ha
    exact ⟨b, hb, bz.trans az, bv.trans av, bs.trans as⟩

theorem map_of_timeless {α : Type} {f : RouteShare → α} (hf : ∀ x, f x.timeless = f x) {l m : List RouteShare}
    (h : l.map RouteShare.timeless = m.map RouteShare.timeless) : l.map f = m.map f := by
  have hcomp : f = f ∘ RouteShare.timeless := funext fun x => (hf x).symm
  rw [hcomp, ← List.map_map, ← List.map_map, h]

theorem Undisturbed.around {c d : Cabin} (h : Undisturbed c d) (hf : Frame c d) : Around c d where
  frame := hf
  events := h.events
  calls := h.calls
  plans z := ⟨(h.shares z).1, map_of_timeless (fun _ => rfl) (h.shares z).2.1⟩
  levels z := ⟨map_of_timeless (fun _ => rfl) (h.shares z).2.1, map_of_timeless (fun _ => rfl) (h.shares z).2.2⟩
  build j hj := ⟨j, h.build j hj, rfl, rfl, rfl⟩

theorem Around.refl (c : Cabin) : Around c c := (Undisturbed.refl c).around (.refl c)

theorem Around.keptAround {s : State} {d : Cabin} (h : Around s.cab d) (p : Port) (r : Result) (ws : List Word) :
    KeptAround p s (s.onCab fun _ => respond p r ws d) := by
  have hf := h.frame
  refine ⟨⟨rfl, rfl, rfl, rfl⟩, ⟨hf.part, hf.relay, hf.liteNumber, hf.status, ?_⟩, h.events,
    ⟨hf.canceller, hf.uplinkGain, hf.uplinkLevel, hf.phoneUl, h.calls⟩, h.plans, h.levels, h.build, hf.channels, hf.hold,
    hf.position, hf.tableFull, hf.stopped, hf.patterns, hf.ignored⟩
  simp [State.answer, hf.response]

/-! ## What follows a change of the records -/

theorem listNames_congr {c d : Cabin} {l : Fin 8} {v : Source} (h : ∀ k, SameRoute (d.route l k) (c.route l k)) :
    listNames d l v = listNames c l v := by
  have hfalse : listNames d l v = false ↔ listNames c l v = false := by
    simp only [listNames, duplicateIn_eq_false_iff, claim_of_sameRoute (h _)]
  simpa using not_congr hfalse

/-- `e` follows from the changed records of `d`: the channels carry the winners, the states are derived, the stale
zones are rebuilt, and nothing else of the records has changed. -/
structure FollowsUp (d e : Cabin) : Prop where
  around : Around d e
  undisturbed : Undisturbed d e
  states : StatesDerived e
  routes : ∀ l k, SameRoute (e.route l k) (d.route l k)
  zones : e.dir.zones = d.dir.zones
  rearControl : e.dir.rearControl = d.dir.rearControl
  media : e.dir.media = d.dir.media
  slots : e.table.slots = d.table.slots
  watch : e.table.watch = d.table.watch
  cursor : e.table.cursor = d.table.cursor
  stations : d.ports.part = .running → ((e.chan .pc0).station, (e.chan .pc1).station) =
    if d.builder.hold = .running then newAssignment d else ((d.chan .pc0).station, (d.chan .pc1).station)
  rebuilds : ∀ z, d.builder.stale.get z = true → RebuildsIn e z

/-- The bulletins that a change of the records lets in have been raised. -/
structure RaisesIn (d e : Cabin) : Prop where
  come : BulletinsCome d e
  tested : PrioritiesFit d → TrafficTested e

theorem arbitrate_frame (c : Cabin) : Frame c (arbitrate c) := by constructor <;> simp

theorem testTraffic_frame (c : Cabin) : Frame c (testTraffic c) := by constructor <;> simp

theorem settleRoutes_frame (c : Cabin) : Frame c (settleRoutes c) := by constructor <;> simp

/-- `m` comes between the changed records of `d` and their derived states: the channels are those of the arbitration. -/
structure Midway (d m : Cabin) : Prop where
  undisturbed : Undisturbed d m
  frame : Frame d m
  routes : ∀ l k, SameRoute (m.route l k) (d.route l k)
  zones : m.dir.zones = d.dir.zones
  rearControl : m.dir.rearControl = d.dir.rearControl
  media : m.dir.media = d.dir.media
  slots : m.table.slots = d.table.slots
  watch : m.table.watch = d.table.watch
  cursor : m.table.cursor = d.table.cursor
  chans : m.alloc.chans = (arbitrate d).alloc.chans
  stale : StaleKept d m
  bulletins : BulletinsCome d m

theorem arbitrate_midway (d : Cabin) : Midway d (arbitrate d) where
  undisturbed := arbitrate_undisturbed d
  frame := arbitrate_frame d
  routes l k := by rw [route_of_lists (c := d) (by simp)]; exact ⟨rfl, rfl⟩
  zones := by simp
  rearControl := by simp
  media := by simp
  slots := by simp
  watch := by simp
  cursor := by simp
  chans := rfl
  stale := arbitrate_staleKept d
  bulletins := arbitrate_bulletinsCome d

section Midway

variable {d m : Cabin} (h : Midway d m)
include h

theorem Midway.testTraffic : Midway d (testTraffic m) where
  undisturbed := h.undisturbed.trans (testTraffic_undisturbed m)
  frame := h.frame.trans (testTraffic_frame m)
  routes l k := by rw [route_of_lists (c := m) (by simp)]; exact h.routes l k
  zones := by simpa using h.zones
  rearControl := by simpa using h.rearControl
  media := by simpa using h.media
  slots := by simpa using h.slots
  watch := by simpa using h.watch
  cursor := by simpa using h.cursor
  chans := by simpa using h.chans
  stale := h.stale.trans (.of_eq (by simp))
  bulletins := h.bulletins.only (testTraffic_onlyBulletins m)

/-- Where the traffic conditions are not tested (01 R19). -/
theorem Midway.settleRoutes : FollowsUp d (settleRoutes m) where
  around := (h.undisturbed.trans (settleRoutes_undisturbed m)).around (h.frame.trans (settleRoutes_frame m))
  undisturbed := h.undisturbed.trans (settleRoutes_undisturbed m)
  states := settleRoutes_statesDerived m
  routes l k := by
    rw [settleRoutes_route]
    obtain ⟨hg, hr⟩ := derivedSlot_sameRoute m l (m.route l k)
    exact ⟨hg.trans (h.routes l k).1, hr.trans (h.routes l k).2⟩
  zones := by simpa using h.zones
  rearControl := by simpa using h.rearControl
  media := by simpa using h.media
  slots := by simpa using h.slots
  watch := by simpa using h.watch
  cursor := by simpa using h.cursor
  stations hpart := by
    have hchan : ∀ x, (Machine.settleRoutes m).chan x = (arbitrate d).chan x := chan_of_chans (by simp [h.chans])
    rw [hchan, hchan]
    exact arbitrate_station hpart
  rebuilds z hz := settleRoutes_rebuildsIn (h.stale z hz)

/-- Where the traffic conditions are tested (06 R116). -/
theorem Midway.raises : RaisesIn d (Machine.settleRoutes (Machine.testTraffic m)) where
  come := h.testTraffic.bulletins.only (settleRoutes_onlyBulletins _)
  tested hf := by
    have hsame : SameTraffic (Machine.testTraffic m) (Machine.settleRoutes (Machine.testTraffic m)) :=
      ⟨by simp, fun l v => listNames_congr fun k => by rw [settleRoutes_route]; exact derivedSlot_sameRoute .., by simp,
        by simp, by simp⟩
    exact (testTraffic_tested (h.bulletins.prioritiesFit hf)).of_same hsame (by simp) (by simp)

end Midway

theorem settleInputs_followsUp {d : Cabin} (h : NoDeferrals d) :
    FollowsUp d (settleInputs d) ∧ RaisesIn d (settleInputs d) := by
  unfold settleInputs
  rw [settleAllocator_eq_arbitrate h]
  exact ⟨(arbitrate_midway d).testTraffic.settleRoutes, (arbitrate_midway d).raises⟩

theorem settleDirectory_followsUp {d : Cabin} (h : NoDeferrals d) : FollowsUp d (settleDirectory d) := by
  unfold settleDirectory
  rw [settleAllocator_eq_arbitrate h]
  exact (arbitrate_midway d).settleRoutes

/-! ## A request as a whole -/

theorem cabRequest_running {s : State} (h : s.Running) (p : Port) (k : Cabin → Cabin) :
    cabRequest p k s = s.onCab fun _ => k s.cab := by
  have hpart : s.cab.ports.part = .running := h
  simp only [cabRequest, takeRequest, hpart]
  rfl

end Sys2Proof.Machine
end

section
/-! SUPPORT. The requests on the route directory as changes of the records with what follows them (01 sections 1.5, 1.6). -/

namespace Sys2Proof.Machine

/-! ## Changes of the records alone -/

/-- Only the directory, the station records and the stale zones have changed. -/
structure OnlyRecords (c d : Cabin) : Prop where
  ports : d.ports = c.ports
  mix : d.mix = c.mix
  alloc : d.alloc = c.alloc
  queue : d.queue = c.queue
  calls : d.calls = c.calls
  table : d.table = { c.table with slots := d.table.slots }
  builder : d.builder = { c.builder with stale := d.builder.stale }

theorem OnlyRecords.trans {c d e : Cabin} (h : OnlyRecords c d) (g : OnlyRecords d e) : OnlyRecords c e where
  ports := g.ports.trans h.ports
  mix := g.mix.trans h.mix
  alloc := g.alloc.trans h.alloc
  queue := g.queue.trans h.queue
  calls := g.calls.trans h.calls
  table := g.table.trans (by rw [h.table])
  builder := g.builder.trans (by rw [h.builder])

theorem OnlyRecords.refl (c : Cabin) : OnlyRecords c c := by constructor <;> rfl

theorem OnlyRecords.of_dir (c : Cabin) (d : Directory) : OnlyRecords c { c with dir := d } := by constructor <;> rfl

theorem markStaleWhere_only (q : Zone → Bool) (c : Cabin) : OnlyRecords c (markStaleWhere q c) := by constructor <;> rfl

theorem modifyLive_only (h : StationId) (g : Station → Station) (c : Cabin) : OnlyRecords c (modifyLive h g c) := by
  unfold modifyLive modifyStation
  repeat' split
  all_goals constructor <;> rfl

theorem addRef_only (src : Source) (c : Cabin) : OnlyRecords c (addRef src c) := by
  cases src
  · exact modifyLive_only ..
  · exact .refl c

theorem dropRef_only (src : Source) (c : Cabin) : OnlyRecords c (dropRef src c) := by
  cases src
  · exact modifyLive_only ..
  · exact .refl c

theorem moveRef_only (old new : Source) (c : Cabin) : OnlyRecords c (moveRef old new c) := by
  unfold moveRef
  split
  · exact .refl c
  · exact (dropRef_only old c).trans (addRef_only new _)

/-- A change of the records that leaves the ports, the channels and the queue to what follows it. -/
structure RecordsChange (c d : Cabin) : Prop where
  around : Around c d
  chans : d.alloc.chans = c.alloc.chans
  queue : d.queue = c.queue
  watch : d.table.watch = c.table.watch
  cursor : d.table.cursor = c.table.cursor

theorem RecordsChange.trans {c d e : Cabin} (h : RecordsChange c d) (g : RecordsChange d e) : RecordsChange c e :=
  ⟨h.around.trans g.around, g.chans.trans h.chans, g.queue.trans h.queue, g.watch.trans h.watch, g.cursor.trans h.cursor⟩

theorem OnlyRecords.undisturbed {c d : Cabin} (h : OnlyRecords c d) : Undisturbed c d :=
  .of_eq (by rw [h.ports]) (by rw [h.calls]) (by rw [h.mix]) (by rw [h.builder])

theorem OnlyRecords.change {c d : Cabin} (h : OnlyRecords c d) : RecordsChange c d where
  around := h.undisturbed.around
    ⟨by rw [h.ports], by rw [h.ports], by rw [h.ports], by rw [h.ports], by rw [h.ports], by rw [h.calls], by rw [h.calls],
      by rw [h.calls], by rw [h.calls], by rw [h.mix], by rw [h.builder], by rw [h.table], by rw [h.table], by rw [h.alloc],
      by rw [h.queue], by rw [h.queue]⟩
  chans := by rw [h.alloc]
  queue := h.queue
  watch := by rw [h.table]
  cursor := by rw [h.table]

theorem post_change (p : Port) (k : EventKind) (c : Cabin) : RecordsChange c (post p k c) where
  around := (post_undisturbed c p k).around (by constructor <;> simp)
  chans := by simp
  queue := by simp
  watch := by simp
  cursor := by simp

theorem postIf_change (b : Bool) (p : Port) (k : EventKind) (c : Cabin) : RecordsChange c (postIf b p k c) := by
  cases b
  · exact (OnlyRecords.refl c).change
  · exact post_change p k c

theorem placed_change (l : Fin 8) (k : Fin 6) (r : RouteRecord) (c : Cabin) : RecordsChange c (placed l k r c) :=
  (((OnlyRecords.of_dir c _).trans (addRef_only r.source (setRouteRecord l k r c))).trans (markStaleWhere_only _ _)).change

theorem changeRoute_change (p : Port) (l : Fin 8) (k : Fin 6) (old new : RouteRecord) (c : Cabin) :
    RecordsChange c (changeRoute p l k old new c) := by
  have hset : RecordsChange c (setRouteRecord l k { new with altered := old.altered || decide (p ≠ old.owner) } c) :=
    (OnlyRecords.of_dir c _).change
  exact (hset.trans (postIf_change ..)).trans (markStaleWhere_only _ _).change

theorem altered_change (p : Port) (l : Fin 8) (k : Fin 6) (old new : RouteRecord) (c : Cabin) :
    RecordsChange c (altered p l k old new c) := (changeRoute_change ..).trans (moveRef_only ..).change

theorem changeZone_change (z : Zone) (e : ZoneEntry) (c : Cabin) : RecordsChange c (changeZone z e c) := by
  have hset : OnlyRecords c (markStale z (setZoneEntry z e c)) := by constructor <;> rfl
  exact (hset.change.trans (post_change .front .zone _)).trans (post_change .rear .zone _)

/-! ## A request as a whole -/

section Request

variable {s : State} {d e : Cabin} (hrun : s.Running) (hc : RecordsChange s.cab d) (hf : FollowsUp d e)
  (p : Port) (r : Result) (ws : List Word)
include hc hf

theorem keptAround_of_followsUp : KeptAround p s (s.onCab fun _ => respond p r ws e) :=
  (hc.around.trans hf.around).keptAround p r ws

include hrun in
theorem carriesTheWinners_of_followsUp : CarriesTheWinners s (s.onCab fun _ => respond p r ws e) := by
  have hpart : d.ports.part = .running := hc.around.frame.part.trans hrun
  have hdemand : SameDemand d { respond p r ws e with alloc := { e.alloc with chans := s.cab.alloc.chans } } :=
    ⟨hf.routes, hf.zones, hf.slots, hf.watch, fun x => by simp [Cabin.chan, hc.chans]⟩
  have hchan : ∀ x, d.chan x = s.cab.chan x := chan_of_chans hc.chans
  refine (hf.stations hpart).trans ?_
  rw [hc.around.frame.hold, hchan, hchan, ← hdemand.newAssignment]
  rfl

omit hf in
theorem raisesBulletins_of_followsUp (hr : RaisesIn d e) (hfit : PrioritiesFit s.cab) :
    RaisesBulletins s (s.onCab fun _ => respond p r ws e) := by
  have hcome : BulletinsCome s.cab e := hr.come.after hc.around.frame.part hc.queue
  have hanswer : OnlyBulletins e (respond p r ws e) := .of_slots rfl rfl rfl (fun _ _ h => h) rfl
  have hfit' : PrioritiesFit d := (BulletinsCome.of_queue hc.around.frame.part hc.queue).prioritiesFit hfit
  exact raisesBulletins_of (hcome.only hanswer) (hr.tested hfit')

end Request

end Sys2Proof.Machine
end

section
/-! SUPPORT. Park, Unpark, Place Route and Alter Route (01 sections 1.5, 1.6). -/

namespace Sys2Proof.Machine

/-! ## What the settling tells of one slot -/

theorem FollowsUp.route_some {d e : Cabin} (h : FollowsUp d e) {l : Fin 8} {k : Fin 6} {g : Fin 16} {n : RouteRecord}
    (hd : d.route l k = ⟨g, some n⟩) :
    ∃ r, e.route l k = ⟨g, some r⟩ ∧ { r with state := n.state } = n ∧ r.state = routeState e l r := by
  obtain ⟨hg, hr⟩ := h.routes l k
  rw [hd] at hg hr
  obtain ⟨r, hr, hn⟩ := Option.map_eq_some_iff.mp hr
  have hgen : (e.route l k).gen = g := hg
  refine ⟨r, ?_, ?_, h.states l k r hr⟩
  · rw [← hgen, ← hr]
  · have := congrArg (fun q : RouteRecord => { q with state := n.state }) hn
    exact this

theorem FollowsUp.route_none {d e : Cabin} (h : FollowsUp d e) {l : Fin 8} {k : Fin 6} {g : Fin 16}
    (hd : d.route l k = ⟨g, none⟩) : e.route l k = ⟨g, none⟩ := by
  obtain ⟨hg, hr⟩ := h.routes l k
  rw [hd] at hg hr
  have hnone : (e.route l k).record = none := Option.map_eq_none_iff.mp hr
  have hgen : (e.route l k).gen = g := hg
  rw [← hgen, ← hnone]

theorem FollowsUp.route_other {c d e : Cabin} (h : FollowsUp d e) {l : Fin 8} {k : Fin 6} (hd : d.route l k = c.route l k) :
    SameRoute (e.route l k) (c.route l k) := hd ▸ h.routes l k

theorem running_posts {c : Cabin} (h : c.ports.part = .running) : c.ports.part.posts = true := by rw [h]; rfl

/-- The ends that the requests on a route have in common. -/
theorem directory_kept {s : State} {d e : Cabin} (hrun : s.Running) (hc : RecordsChange s.cab d) (hf : FollowsUp d e)
    (hr : RaisesIn d e) (hzones : d.dir.zones = s.cab.dir.zones) (hrear : d.dir.rearControl = s.cab.dir.rearControl)
    (hmedia : d.dir.media = s.cab.dir.media) (p : Port) (r : Result) (ws : List Word) {t : State}
    (ht : t = s.onCab fun _ => respond p r ws e) :
    t.cab.dir.zones = s.cab.dir.zones ∧ t.cab.dir.rearControl = s.cab.dir.rearControl ∧
    t.cab.dir.media = s.cab.dir.media ∧ t.cab.table.watch = s.cab.table.watch ∧
    t.cab.table.cursor = s.cab.table.cursor ∧ KeptAround p s t ∧ CarriesTheWinners s t ∧
    (PrioritiesFit s.cab → RaisesBulletins s t) := by
  subst ht
  exact ⟨hf.zones.trans hzones, hf.rearControl.trans hrear, hf.media.trans hmedia, hf.watch.trans hc.watch,
    hf.cursor.trans hc.cursor, keptAround_of_followsUp hc hf p r ws, carriesTheWinners_of_followsUp hrun hc hf p r ws,
    raisesBulletins_of_followsUp hc p r ws hr⟩

theorem onCab_const_answer (s : State) (p : Port) (r : Result) (ws : List Word) (e : Cabin) :
    (s.onCab fun _ => respond p r ws e).answer p = some ⟨r, ws⟩ := by simp [State.answer]

/-! ## A changed record -/

section Change

variable {s : State} {p : Port} {l : Fin 8} {k : Fin 6} {old new : RouteRecord}

theorem links_of_zones {c d : Cabin} (h : d.dir.zones = c.dir.zones) (l : Fin 8) (z : Zone) : links d l z = links c l z := by
  have hz : d.zone z = c.zone z := by rw [Cabin.zone, h, Cabin.zone]
  unfold links
  rw [hz]

theorem changeRoute_stale {c : Cabin} {z : Zone} (h : links c l z = true) :
    (changeRoute p l k old new c).builder.stale.get z = true :=
  markListStale_stale ((links_of_zones (by simp) l z).trans h)

theorem changeRoute_shows {c : Cabin} (hpart : c.ports.part = .running) (hp : p ≠ old.owner) :
    EventSet.has ((changeRoute p l k old new c).ports.events.get old.owner) .route = true := by
  simp only [changeRoute, hp, ne_eq, not_false_eq_true, decide_true, postIf, if_true, markListStale_ports]
  refine post_shows ?_ old.owner .route
  simpa using running_posts hpart

theorem moveRef_stale {c : Cabin} (a b : Source) : (moveRef a b c).builder.stale = c.builder.stale := by
  unfold moveRef addRef dropRef modifyLive
  repeat' split
  all_goals simp

theorem altered_stale {c : Cabin} {z : Zone} (h : links c l z = true) :
    (altered p l k old new c).builder.stale.get z = true := by
  rw [altered, moveRef_stale]
  exact changeRoute_stale h

theorem altered_shows {c : Cabin} (hpart : c.ports.part = .running) (hp : p ≠ old.owner) :
    EventSet.has ((altered p l k old new c).ports.events.get old.owner) .route = true :=
  (moveRef_only _ _ _).undisturbed.events _ _ (changeRoute_shows hpart hp)

end Change

/-! ## Park and Unpark (01 R17) -/

theorem exec_parkOrUnpark {p : Port} {h : Handle} {l : Fin 8} {k : Fin 6} {old : RouteRecord} {s : State} (hrun : s.Running)
    (hkey : routeKey? h = some (l, k)) (hr : routeOf s.cab l k h = some old) (hmay : mayChangeRoute s.cab p l old = true)
    (hdup : old.present = false → duplicateIn s.cab l (some k) old.source = false) :
    exec (if old.present then .park p h else .unpark p h) s = .next (s.onCab fun _ => respond p .done []
      (settleInputs (changeRoute p l k old { old with present := !old.present } s.cab))) := by
  cases hpresent : old.present with
  | true =>
    have hpark : parkRoute p h s.cab = setPresent p l k old false s.cab := by simp [parkRoute, hkey, hr, hmay, hpresent]
    exact congrArg Host.Outcome.next ((cabRequest_running hrun p _).trans (by rw [hpark]; rfl))
  | false =>
    have hunpark : unparkRoute p h s.cab = setPresent p l k old true s.cab := by
      simp [unparkRoute, hkey, hr, hmay, hpresent, hdup hpresent]
    exact congrArg Host.Outcome.next ((cabRequest_running hrun p _).trans (by rw [hunpark]; rfl))

/-- Settles O12: the present field is the one change of the records, and the arbitration, the traffic tests and the
derived states follow it. -/
theorem parkAndUnparkSetPresent : Obligations.ParkAndUnparkSetPresent := by
  intro p h l k old s hrun hdef hkey hr hmay hdup
  have hchange := changeRoute_change p l k old { old with present := !old.present } s.cab
  have hslots : (changeRoute p l k old { old with present := !old.present } s.cab).table.slots = s.cab.table.slots := by
    simp [changeRoute]
  have hroute := changeRoute_route s.cab p l (k := k) (old := old) (new := { old with present := !old.present })
  have hshows := changeRoute_shows (l := l) (k := k) (new := { old with present := !old.present }) hrun (p := p) (old := old)
  have hstale := fun z => changeRoute_stale (p := p) (k := k) (old := old) (new := { old with present := !old.present })
    (c := s.cab) (l := l) (z := z)
  have hdir : (changeRoute p l k old { old with present := !old.present } s.cab).dir.zones = s.cab.dir.zones ∧
    (changeRoute p l k old { old with present := !old.present } s.cab).dir.rearControl = s.cab.dir.rearControl ∧
    (changeRoute p l k old { old with present := !old.present } s.cab).dir.media = s.cab.dir.media := by simp [changeRoute]
  have hexec := exec_parkOrUnpark hrun hkey hr hmay hdup
  generalize changeRoute p l k old { old with present := !old.present } s.cab = d at *
  obtain ⟨hf, hraise⟩ := settleInputs_followsUp (hdef.of_slots hslots)
  generalize settleInputs d = e at *
  obtain ⟨r, hslot, hrec, hstate⟩ := hf.route_some ((hroute l k).trans (if_pos rfl))
  refine ⟨_, r, hexec, hslot, hrec, hstate, fun hp => ?_, fun hp => hf.around.events _ _ (hshows hp),
    onCab_const_answer .., fun m j hne => hf.route_other ((hroute m j).trans (if_neg hne)), hf.slots.trans hslots,
    fun z hz => (hf.rebuilds z (hstale z hz)).rebuilds .., directory_kept hrun hchange hf hraise hdir.1 hdir.2.1 hdir.2.2 _ _ _ rfl⟩
  have hpresent : r.present = !old.present := congrArg RouteRecord.present hrec
  rw [hstate]
  exact routeState_parked (by simp [hpresent, hp])

/-! ## Limited numbers and enumerations (00, 10 R167) -/

theorem limited_eq_false_iff {lo hi v : Int} (h : lo ≤ hi) : limited lo hi v = false ↔ lo ≤ v ∧ v ≤ hi := by
  unfold limited limit
  rw [decide_eq_false_iff_not, not_not]
  omega

theorem limit_toNat (hi v : Int) : ((limit 0 hi v).toNat : Int) = max 0 (min hi v) :=
  Int.toNat_of_nonneg (le_max_left 0 _)

theorem optLimit_eq (lo hi old : Int) (v : Option Int) :
    optLimit lo hi old v = v.elim old (fun v => max lo (min hi v)) := by cases v <;> rfl

theorem optLimitNat_eq (hi : Int) (old : Nat) (v : Option Int) :
    (optLimitNat 0 hi old v : Int) = v.elim (old : Int) (fun v => max 0 (min hi v)) := by
  cases v
  · rfl
  · exact limit_toNat ..

theorem optRead_yesNo {old : Bool} {v : Option Nat} (h : optOk yesNo? v = true) :
    optRead yesNo? old v = v.elim old (fun v => decide (v = 1)) := by
  match v, h with
  | none, _ => rfl
  | some 0, _ => rfl
  | some 1, _ => rfl

theorem optRead_duckClass (old : DuckClass) (v : Option Nat) :
    optRead duckClass? old v = v.elim old (fun v => (duckClass? v).getD old) := by cases v <;> rfl

/-! ## Alter Route (01 R16) -/

theorem alterForm_iff {a : AlterArgs} : alterForm a = true ↔ optSourceOk a.source = true ∧ optOk duckClass? a.duck = true ∧
    optOk yesNo? a.shared = true ∧ optOk yesNo? a.pinned = true := by simp [alterForm, and_assoc]

theorem exec_alterRoute {p : Port} {h : Handle} {a : AlterArgs} {l : Fin 8} {k : Fin 6} {old : RouteRecord} {src : Source}
    {s : State} (hrun : s.Running) (hkey : routeKey? h = some (l, k)) (hform : alterForm a = true)
    (hr : routeOf s.cab l k h = some old) (hsrc : optSource s.cab old.source a.source = some src)
    (hmay : alterDenied s.cab p l old a = false)
    (hdup : old.present = true → src ≠ old.source → duplicateIn s.cab l (some k) src = false) :
    exec (.alterRoute p h a) s = .next (s.onCab fun _ => respond p (doneOr (alterClamped a)) []
      (if alteredRecord old src a = old then s.cab
        else settleInputs (altered p l k old (alteredRecord old src a) s.cab))) := by
  have halter : alterRoute p h a s.cab = alterAt p l k old src a s.cab := by
    simp only [alterRoute, hkey, hform, hr, hsrc, hmay, if_true, Bool.false_eq_true, if_false]
    refine if_neg fun hconflict => ?_
    obtain ⟨⟨hp, hs⟩, hd⟩ := by simpa only [Bool.and_eq_true, decide_eq_true_eq] using hconflict
    rw [hdup hp hs] at hd
    cases hd
  exact congrArg Host.Outcome.next ((cabRequest_running hrun p _).trans (by rw [halter]; rfl))

/-- Settles O11: the altered record is the one change of the records, and where it is none, nothing follows. -/
theorem alterRouteChangesTheNamedFields : Obligations.AlterRouteChangesTheNamedFields := by
  refine ⟨fun p h a l k old src s hrun hkey hform hr hsrc hmay hsame => ?_,
    fun p h a l k old src s hrun hdef hkey hform hr hsrc hmay hdup hnew => ?_⟩
  · have hexec := exec_alterRoute hrun hkey hform hr hsrc hmay
      (fun _ hne => absurd (congrArg RouteRecord.source hsame) hne)
    rwa [if_pos hsame] at hexec
  · have hexec := exec_alterRoute hrun hkey hform hr hsrc hmay hdup
    rw [if_neg hnew] at hexec
    have hsource : (alteredRecord old src a).source = src := rfl
    have hchange := altered_change p l k old (alteredRecord old src a) s.cab
    have hroute := altered_route s.cab p l (k := k) (old := old) (new := alteredRecord old src a)
    have hstation := altered_stationSlot s.cab p l k old (alteredRecord old src a)
    have hshows := altered_shows (l := l) (k := k) (new := alteredRecord old src a) hrun (p := p) (old := old)
    have hstale := fun z => altered_stale (p := p) (k := k) (old := old) (new := alteredRecord old src a) (c := s.cab) (l := l)
      (z := z)
    have hdir : (altered p l k old (alteredRecord old src a) s.cab).dir.zones = s.cab.dir.zones ∧
      (altered p l k old (alteredRecord old src a) s.cab).dir.rearControl = s.cab.dir.rearControl ∧
      (altered p l k old (alteredRecord old src a) s.cab).dir.media = s.cab.dir.media := by simp [altered, changeRoute, moveRef_dir]
    generalize altered p l k old (alteredRecord old src a) s.cab = d at *
    obtain ⟨hf, hraise⟩ := settleInputs_followsUp (hdef.of_moved hstation)
    generalize settleInputs d = e at *
    obtain ⟨r, hslot, hrec, hstate⟩ := hf.route_some ((hroute l k).trans (if_pos rfl))
    simp only [alteredRecord, RouteRecord.mk.injEq] at hrec
    obtain ⟨rpresent, rsource, rgain, rpriority, rduck, rowner, rshared, rpinned, rheard, raltered, -⟩ := hrec
    obtain ⟨-, -, hshared, hpinned⟩ := alterForm_iff.mp hform
    refine ⟨_, r, hexec, hslot, rsource, rgain.trans (optLimit_eq ..), ?_, rduck.trans (optRead_duckClass ..),
      rshared.trans (optRead_yesNo hshared), rpinned.trans (optRead_yesNo hpinned), rpresent, rowner, rheard, raltered,
      hstate, fun hp => hf.around.events _ _ (hshows hp), onCab_const_answer ..,
      fun m j hne => hf.route_other ((hroute m j).trans (if_neg hne)), fun i => ?_,
      fun z hz => (hf.rebuilds z (hstale z hz)).rebuilds ..,
      directory_kept hrun hchange hf hraise hdir.1 hdir.2.1 hdir.2.2 _ _ _ rfl⟩
    · rw [rpriority]
      exact optLimitNat_eq ..
    · exact (stationSlot_of_slots hf.slots i).trans (hstation i)

/-! ## Place Route (01 R15) -/

theorem settlePlaced_lists_route (l m : Fin 8) (k j : Fin 6) (c : Cabin) :
    SameRoute ((settlePlaced l k c).route m j) (c.route m j) := by
  unfold settlePlaced
  split
  · exact ⟨rfl, rfl⟩
  · rename_i r hr
    rw [setRouteRecord_route]
    split
    · rename_i h
      obtain ⟨rfl, rfl⟩ := Prod.mk.inj h
      exact ⟨rfl, by simp [hr]⟩
    · exact ⟨rfl, rfl⟩

theorem settlePlaced_only (l : Fin 8) (k : Fin 6) (c : Cabin) : OnlyRecords c (settlePlaced l k c) ∧
    (settlePlaced l k c).dir.zones = c.dir.zones ∧ (settlePlaced l k c).dir.rearControl = c.dir.rearControl ∧
    (settlePlaced l k c).dir.media = c.dir.media ∧ (settlePlaced l k c).table = c.table ∧
    (settlePlaced l k c).builder = c.builder := by
  unfold settlePlaced
  split
  · exact ⟨.refl c, rfl, rfl, rfl, rfl, rfl⟩
  · exact ⟨.of_dir c _, rfl, rfl, rfl, rfl, rfl⟩

theorem Midway.settlePlaced {d m : Cabin} (h : Midway d m) (l : Fin 8) (k : Fin 6) : Midway d (settlePlaced l k m) := by
  obtain ⟨honly, hzones, hrear, hmedia, htable, hbuilder⟩ := settlePlaced_only l k m
  have hchange := honly.change
  exact {
    undisturbed := h.undisturbed.trans honly.undisturbed
    frame := h.frame.trans hchange.around.frame
    routes := fun x j => by
      obtain ⟨hg, hr⟩ := settlePlaced_lists_route l x k j m
      exact ⟨hg.trans (h.routes x j).1, hr.trans (h.routes x j).2⟩
    zones := hzones.trans h.zones
    rearControl := hrear.trans h.rearControl
    media := hmedia.trans h.media
    slots := (congrArg StationTable.slots htable).trans h.slots
    watch := hchange.watch.trans h.watch
    cursor := hchange.cursor.trans h.cursor
    chans := hchange.chans.trans h.chans
    stale := h.stale.trans (.of_eq (congrArg Builder.stale hbuilder))
    bulletins := h.bulletins.only (.of_slots hchange.chans hchange.around.frame.part hchange.around.frame.patterns
      honly.undisturbed.events (congrArg Queue.slots honly.queue)) }

theorem placed_stale {l : Fin 8} {k : Fin 6} {r : RouteRecord} {c : Cabin} {z : Zone} (h : links c l z = true) :
    (placed l k r c).builder.stale.get z = true :=
  markListStale_stale ((links_of_zones (congrArg Directory.zones (addRef_dir _ r.source)) l z).trans h)

theorem placeClamped_eq (a : PlaceArgs) : doneOr (placeClamped a) =
    if (-48 ≤ a.gain ∧ a.gain ≤ 24) ∧ 0 ≤ a.priority ∧ a.priority ≤ 7 then .done else .clamped := by
  have hgain := limited_eq_false_iff (lo := -48) (hi := 24) (v := a.gain) (by decide)
  have hpriority := limited_eq_false_iff (lo := 0) (hi := 7) (v := a.priority) (by decide)
  have hiff : placeClamped a = false ↔ (-48 ≤ a.gain ∧ a.gain ≤ 24) ∧ 0 ≤ a.priority ∧ a.priority ≤ 7 := by
    rw [placeClamped, Bool.or_eq_false_iff, hgain, hpriority]
  cases h : placeClamped a with
  | false => rw [if_pos (hiff.mp h)]; rfl
  | true => rw [if_neg fun hin => by rw [hiff.mpr hin] at h; cases h]; rfl

theorem exec_placeRoute {p : Port} {a : PlaceArgs} {f : PlaceForm} {src : Source} {k : Fin 6} {s : State} (hrun : s.Running)
    (hdef : NoDeferrals s.cab) (hform : placeForm? a = some f) (hsrc : resolveSource s.cab f.source = some src)
    (hrear : p = .rear → rearMayChangeList s.cab f.list = true ∧ f.pinned = false)
    (hdup : f.present = true → listNames s.cab f.list src = false) (hslot : placeSlot s.cab f = some k) :
    ∃ e, exec (.placeRoute p a) s = .next (s.onCab fun _ => respond p (doneOr (placeClamped a))
        [routeWord ⟨f.list, k, (s.cab.route f.list k).gen⟩, natWord (stateNum e f.list k)] e) ∧
      FollowsUp (placed f.list k (placedRecord p f src a) s.cab) e ∧
      RaisesIn (placed f.list k (placedRecord p f src a) s.cab) e := by
  have hdenied : ¬ (p = .rear ∧ (rearMayChangeList s.cab f.list = false ∨ f.pinned = true)) := by
    rintro ⟨hp, hl | hpin⟩
    · rw [(hrear hp).1] at hl; cases hl
    · rw [(hrear hp).2] at hpin; cases hpin
  have hconflict : (f.present && listNames s.cab f.list src) = false := by
    cases hp : f.present with
    | false => rfl
    | true => exact hdup hp
  have hplace : placeRoute p a s.cab = placeAt p f.list k (placedRecord p f src a) (placeClamped a) s.cab := by
    simp [placeRoute, hform, hsrc, hdenied, hconflict, hslot]
  have hmoved : NoDeferrals (placed f.list k (placedRecord p f src a) s.cab) :=
    hdef.of_moved (placed_stationSlot s.cab f.list k (placedRecord p f src a))
  refine ⟨_, congrArg Host.Outcome.next ((cabRequest_running hrun p _).trans (by rw [hplace, placeAt_eq])), ?_⟩
  rw [settleAllocator_eq_arbitrate hmoved]
  have hmid := (arbitrate_midway (placed f.list k (placedRecord p f src a) s.cab)).settlePlaced f.list k
  exact ⟨hmid.testTraffic.settleRoutes, hmid.raises⟩

/-- Settles O10: the new record and its reference are the one change of the records; its state is derived after the
arbitration. -/
theorem placeRouteCreatesTheRecord : Obligations.PlaceRouteCreatesTheRecord := by
  intro p a f src k s hrun hdef hform hsrc hrear hdup hslot
  obtain ⟨e, hexec, hf, hraise⟩ := exec_placeRoute hrun hdef hform hsrc hrear hdup hslot
  have hchange := placed_change f.list k (placedRecord p f src a) s.cab
  have hroute := fun m j => placed_route s.cab f.list m k j (placedRecord p f src a)
  have hstation := placed_stationSlot s.cab f.list k (placedRecord p f src a)
  have hstale := fun z => placed_stale (l := f.list) (k := k) (r := placedRecord p f src a) (c := s.cab) (z := z)
  have hdir : (placed f.list k (placedRecord p f src a) s.cab).dir.zones = s.cab.dir.zones ∧
    (placed f.list k (placedRecord p f src a) s.cab).dir.rearControl = s.cab.dir.rearControl ∧
    (placed f.list k (placedRecord p f src a) s.cab).dir.media = s.cab.dir.media := by simp [placed, addRef_dir]
  generalize placed f.list k (placedRecord p f src a) s.cab = d at *
  obtain ⟨r, hrslot, hrec, hstate⟩ := hf.route_some ((hroute f.list k).trans (if_pos rfl))
  simp only [placedRecord, RouteRecord.mk.injEq] at hrec
  obtain ⟨rpresent, rsource, rgain, rpriority, rduck, rowner, rshared, rpinned, rheard, raltered, -⟩ := hrec
  have hnum : stateNum e f.list k = r.state.num := by simp [stateNum, hrslot]
  rw [hnum, placeClamped_eq] at hexec
  refine ⟨_, r, hexec, hrslot, rpresent, rsource, rgain, ?_, rduck, rowner, rshared, rpinned, rheard, raltered, hstate,
    onCab_const_answer .., fun m j hne => hf.route_other ((hroute m j).trans (if_neg hne)), fun i => ?_,
    fun z hz => (hf.rebuilds z (hstale z hz)).rebuilds ..,
    directory_kept hrun hchange hf hraise hdir.1 hdir.2.1 hdir.2.2 _ _ _ rfl⟩
  · rw [rpriority]
    exact limit_toNat ..
  · exact (stationSlot_of_slots hf.slots i).trans (hstation i)

end Sys2Proof.Machine
end

section
/-! SUPPORT. Retire Route and Clear Zone Routes (01 R18, R21, 03 R46, R53). -/

namespace Sys2Proof.Machine

/-! ## Orphaned contributions -/

/-- The route of a contribution and its orphaned mark. -/
def RouteShare.mark (x : RouteShare) : RouteId × Bool := (x.route, x.orphaned)

def BuiltShare.mark (x : BuiltShare) : RouteId × Bool := (x.route, x.orphaned)

/-- A mark once the contributions of these routes are orphaned. -/
def orphanedBy (gone : List RouteId) (m : RouteId × Bool) : RouteId × Bool := (m.1, m.2 || decide (m.1 ∈ gone))

theorem orphanedBy_append (a b : List RouteId) : orphanedBy (a ++ b) = orphanedBy b ∘ orphanedBy a := by
  funext m
  by_cases ha : m.1 ∈ a <;> simp [orphanedBy, ha]

theorem orphanedBy_nil : orphanedBy [] = id := by
  funext m
  simp [orphanedBy]

/-- What `Orphans` says of the cabin blocks. -/
structure OrphansIn (gone : List RouteId) (c d : Cabin) : Prop where
  planned : ∀ z, (d.mixZone z).routes.map RouteShare.mark = (c.mixZone z).routes.map (orphanedBy gone ∘ RouteShare.mark)
  leaving : ∀ z, (d.mixZone z).leaving.map RouteShare.mark = (c.mixZone z).leaving.map (orphanedBy gone ∘ RouteShare.mark)
  build : ∀ j, c.builder.job = some j → ∃ b, d.builder.job = some b ∧
    b.shares.map BuiltShare.mark = j.shares.map (orphanedBy gone ∘ BuiltShare.mark)

theorem map_comp_of_map {α β : Type} {f : α → β} {g h : β → β} {l m n : List α} (h₁ : m.map f = l.map (g ∘ f))
    (h₂ : n.map f = m.map (h ∘ f)) : n.map f = l.map ((h ∘ g) ∘ f) := by
  rw [h₂, ← List.map_map, h₁, List.map_map]
  rfl

theorem OrphansIn.trans {a b : List RouteId} {c d e : Cabin} (h : OrphansIn a c d) (g : OrphansIn b d e) :
    OrphansIn (a ++ b) c e where
  planned z := by rw [orphanedBy_append]; exact map_comp_of_map (h.planned z) (g.planned z)
  leaving z := by rw [orphanedBy_append]; exact map_comp_of_map (h.leaving z) (g.leaving z)
  build j hj := by
    obtain ⟨m, hm, hs⟩ := h.build j hj
    obtain ⟨n, hn, gs⟩ := g.build m hm
    rw [orphanedBy_append]
    exact ⟨n, hn, map_comp_of_map hs gs⟩

theorem Undisturbed.orphans {c d : Cabin} (h : Undisturbed c d) : OrphansIn [] c d where
  planned z := by simpa [orphanedBy_nil] using map_of_timeless (f := RouteShare.mark) (fun _ => rfl) (h.shares z).2.1
  leaving z := by simpa [orphanedBy_nil] using map_of_timeless (f := RouteShare.mark) (fun _ => rfl) (h.shares z).2.2
  build j hj := ⟨j, h.build j hj, by simp [orphanedBy_nil]⟩

theorem OrphansIn.orphans {gone : List RouteId} {s : State} {d : Cabin} (h : OrphansIn gone s.cab d) (p : Port) (r : Result)
    (ws : List Word) : Orphans gone s (s.onCab fun _ => respond p r ws d) := by
  have hsnd : ∀ {α : Type} {f : α → RouteId × Bool} {l m : List α}, l.map f = m.map (orphanedBy gone ∘ f) →
      l.map (fun x => (f x).2) = m.map fun x => (f x).2 || decide ((f x).1 ∈ gone) := fun hm => by
    simpa [Function.comp_def, orphanedBy] using congrArg (List.map Prod.snd) hm
  refine ⟨fun z => ⟨hsnd (h.planned z), hsnd (h.leaving z)⟩, fun j hj => ?_⟩
  obtain ⟨b, hb, hs⟩ := h.build j hj
  exact ⟨b, hb, hsnd hs⟩

theorem orphanRoute_mixZone (h : RouteId) (c : Cabin) (z : Zone) : (orphanRoute h c).mixZone z = { c.mixZone z with
    routes := (c.mixZone z).routes.map fun x => if x.route = h then { x with orphaned := true, audibleSince := false } else x
    leaving := (c.mixZone z).leaving.map fun x =>
      if x.route = h then { x with orphaned := true, audibleSince := false } else x } := by
  simp [orphanRoute, mapShares, mapMixZones, Cabin.mixZone]

theorem orphanRoute_job {h : RouteId} {c : Cabin} {j : BuildJob} (hj : c.builder.job = some j) :
    (orphanRoute h c).builder.job = some { j with
      shares := j.shares.map fun x => if x.route = h then { x with orphaned := true } else x } := by
  simp [orphanRoute, mapShares, mapMixZones, hj]

theorem orphanRoute_orphans (h : RouteId) (c : Cabin) : OrphansIn [h] c (orphanRoute h c) := by
  have hmark : ∀ x : RouteShare, RouteShare.mark (if x.route = h then { x with orphaned := true, audibleSince := false } else x) =
      orphanedBy [h] x.mark := fun x => by
    by_cases hx : x.route = h <;> simp [RouteShare.mark, orphanedBy, hx]
  have hbuilt : ∀ x : BuiltShare, BuiltShare.mark (if x.route = h then { x with orphaned := true } else x) =
      orphanedBy [h] x.mark := fun x => by
    by_cases hx : x.route = h <;> simp [BuiltShare.mark, orphanedBy, hx]
  refine ⟨fun z => ?_, fun z => ?_, fun j hj => ⟨_, orphanRoute_job hj, ?_⟩⟩
  · simp [orphanRoute_mixZone, Function.comp_def, hmark]
  · simp [orphanRoute_mixZone, Function.comp_def, hmark]
  · simp [Function.comp_def, hbuilt]

theorem orphanRoute_change (h : RouteId) (c : Cabin) : RecordsChange c (orphanRoute h c) := by
  refine ⟨⟨?_, fun p k hk => by simpa using hk, fun i => by simp [Cabin.callSlot], fun z => ?_, fun z => ?_, fun j hj => ?_⟩,
    by simp, by simp, by simp, by simp⟩
  · constructor <;> simp
  · refine ⟨by simp [orphanRoute_mixZone], ?_⟩
    simp only [orphanRoute_mixZone, List.map_map]
    exact List.map_congr_left fun x _ => by simp only [Function.comp]; split <;> rfl
  · simp only [orphanRoute_mixZone, List.map_map]
    exact ⟨List.map_congr_left fun x _ => by simp only [Function.comp]; split <;> rfl,
      List.map_congr_left fun x _ => by simp only [Function.comp]; split <;> rfl⟩
  · refine ⟨_, orphanRoute_job hj, rfl, rfl, ?_⟩
    simp only [List.map_map]
    exact List.map_congr_left fun x _ => by simp only [Function.comp]; split <;> rfl

/-! ## Retired routes -/

/-- The handle of the record in a route slot. -/
def Cabin.routeId (c : Cabin) (x : Fin 8 × Fin 6) : RouteId := ⟨x.1, x.2, (c.route x.1 x.2).gen⟩

/-- `d` is `c` once port `p` has retired the routes of these slots. -/
structure Retires (p : Port) (keys : List (Fin 8 × Fin 6)) (c d : Cabin) : Prop where
  change : RecordsChange c d
  routes : ∀ x : Fin 8 × Fin 6, d.route x.1 x.2 =
    if x ∈ keys then ⟨(c.route x.1 x.2).gen + 1, none⟩ else c.route x.1 x.2
  stations : ∀ i, d.stationSlot i = StationSlot.moved 0 (namers c i keys) (c.stationSlot i)
  orphans : OrphansIn (keys.map c.routeId) c d
  shows : c.ports.part = .running → ∀ x ∈ keys, ∀ r, (c.route x.1 x.2).record = some r → p ≠ r.owner →
    EventSet.has (d.ports.events.get r.owner) .route = true
  stale : ∀ x ∈ keys, ∀ z, links c x.1 z = true → d.builder.stale.get z = true
  staleKept : StaleKept c d
  zones : d.dir.zones = c.dir.zones
  rearControl : d.dir.rearControl = c.dir.rearControl
  media : d.dir.media = c.dir.media

theorem Retires.nil (p : Port) (c : Cabin) : Retires p [] c c where
  change := (OnlyRecords.refl c).change
  routes x := by simp
  stations i := by simp [namers]
  orphans := (Undisturbed.refl c).orphans
  shows _ x hx := by cases hx
  stale x hx := by cases hx
  staleKept := fun _ h => h
  zones := rfl
  rearControl := rfl
  media := rfl

theorem Retires.trans {p : Port} {a b : List (Fin 8 × Fin 6)} {c d e : Cabin} (h : Retires p a c d) (g : Retires p b d e)
    (hdisj : ∀ x ∈ b, x ∉ a) : Retires p (a ++ b) c e := by
  have hsame : ∀ x ∈ b, d.route x.1 x.2 = c.route x.1 x.2 := fun x hx => by rw [h.routes, if_neg (hdisj x hx)]
  refine ⟨h.change.trans g.change, fun x => ?_, fun i => ?_, ?_, fun hpart x hx r hr hp => ?_, fun x hx z hz => ?_,
    h.staleKept.trans g.staleKept, g.zones.trans h.zones, g.rearControl.trans h.rearControl, g.media.trans h.media⟩
  · rw [g.routes]
    by_cases hb : x ∈ b
    · simp [hb, hsame x hb]
    · simp [hb, h.routes]
  · have hid : d.stationId i = c.stationId i := stationId_of_gen (by rw [h.stations]; rfl)
    have hnamers : namers d i b = namers c i b := List.countP_congr fun x hx => by rw [hsame x hx, hid]
    rw [g.stations, h.stations, moved_moved_drop, hnamers]
    simp [namers]
  · have hids : b.map d.routeId = b.map c.routeId := List.map_congr_left fun x hx => by
      simp only [Cabin.routeId, hsame x hx]
    have := h.orphans.trans g.orphans
    rwa [hids, ← List.map_append] at this
  · rcases List.mem_append.mp hx with ha | hb
    · exact g.change.around.events _ _ (h.shows hpart x ha r hr hp)
    · exact g.shows (h.change.around.frame.part.trans hpart) x hb r (by rwa [hsame x hb]) hp
  · rcases List.mem_append.mp hx with ha | hb
    · exact g.staleKept z (h.stale x ha z hz)
    · exact g.stale x hb z ((links_of_zones h.zones x.1 z).trans hz)

/-- A retired route's slot, its contributions and its reference, before anyone is told. -/
def freedRoute (l : Fin 8) (k : Fin 6) (r : RouteRecord) (c : Cabin) : Cabin :=
  dropRef r.source (setRouteSlot l k ⟨(c.route l k).gen + 1, none⟩ (orphanRoute ⟨l, k, (c.route l k).gen⟩ c))

theorem retireRouteAt_eq (p : Port) (l : Fin 8) (k : Fin 6) (r : RouteRecord) (c : Cabin) : retireRouteAt p l k r c =
    markListStale l (postIf (decide (p ≠ r.owner)) r.owner .route (freedRoute l k r c)) := rfl

theorem freedRoute_only (l : Fin 8) (k : Fin 6) (r : RouteRecord) (c : Cabin) :
    OnlyRecords (orphanRoute ⟨l, k, (c.route l k).gen⟩ c) (freedRoute l k r c) :=
  (OnlyRecords.of_dir _ _).trans (dropRef_only ..)

theorem freedRoute_dir (l : Fin 8) (k : Fin 6) (r : RouteRecord) (c : Cabin) :
    (freedRoute l k r c).dir.zones = c.dir.zones ∧ (freedRoute l k r c).dir.rearControl = c.dir.rearControl ∧
    (freedRoute l k r c).dir.media = c.dir.media := by simp [freedRoute, dropRef_dir]

theorem dropRef_stale (src : Source) (c : Cabin) : (dropRef src c).builder.stale = c.builder.stale := by
  unfold dropRef modifyLive
  repeat' split
  all_goals simp

theorem freedRoute_stale (l : Fin 8) (k : Fin 6) (r : RouteRecord) (c : Cabin) :
    (freedRoute l k r c).builder.stale = c.builder.stale := by simp [freedRoute, dropRef_stale]

theorem retireRouteAt_retires {p : Port} {l : Fin 8} {k : Fin 6} {r : RouteRecord} {c : Cabin}
    (hr : (c.route l k).record = some r) : Retires p [(l, k)] c (retireRouteAt p l k r c) := by
  have horphan := orphanRoute_change ⟨l, k, (c.route l k).gen⟩ c
  have hmarks := orphanRoute_orphans ⟨l, k, (c.route l k).gen⟩ c
  have hfree := freedRoute_only l k r c
  have hroute := retireRouteAt_route c p l (k := k) (r := r)
  have hstation := retireRouteAt_stationSlot c p l k r
  obtain ⟨hzones, hrear, hmedia⟩ := freedRoute_dir l k r c
  have hstale := freedRoute_stale l k r c
  rw [retireRouteAt_eq] at hroute hstation ⊢
  generalize freedRoute l k r c = d at *
  have hpost := postIf_undisturbed d (decide (p ≠ r.owner)) r.owner .route
  have hmark := markStaleWhere_only (links (postIf (decide (p ≠ r.owner)) r.owner .route d) l)
    (postIf (decide (p ≠ r.owner)) r.owner .route d)
  have hchange := ((horphan.trans hfree.change).trans (postIf_change (decide (p ≠ r.owner)) r.owner .route d))
  refine ⟨hchange.trans hmark.change, fun x => ?_, fun i => ?_,
    hmarks.trans ((hfree.undisturbed.trans hpost).trans hmark.undisturbed).orphans,
    fun hpart x hx q hq hp => ?_, fun x hx z hz => ?_, ?_, by simpa using hzones, by simpa using hrear, by simpa using hmedia⟩
  · rw [hroute]
    by_cases hx : x = (l, k)
    · subst hx
      simp
    · simp [hx]
  · rw [hstation]
    simp [namers, hr, List.countP_cons]
  · obtain rfl := List.mem_singleton.mp hx
    rw [hr] at hq
    obtain rfl := Option.some.inj hq
    refine hmark.undisturbed.events _ _ ?_
    have hdpart : d.ports.part = .running := (horphan.trans hfree.change).around.frame.part.trans hpart
    simpa [postIf, hp] using post_shows (running_posts hdpart) r.owner .route
  · obtain rfl := List.mem_singleton.mp hx
    exact markListStale_stale ((links_of_zones (by simpa using hzones) l z).trans hz)
  · exact (StaleKept.of_eq (by simp [hstale])).trans (markListStale_staleKept l _)

theorem retireIfOccupied_retires {p : Port} {x : Fin 8 × Fin 6} {c : Cabin}
    (hx : (c.route x.1 x.2).record.isSome = true) : Retires p [x] c (retireIfOccupied p x c) := by
  obtain ⟨r, hr⟩ := Option.isSome_iff_exists.mp hx
  unfold retireIfOccupied
  split
  · rename_i hnone
    rw [hnone] at hr
    cases hr
  · exact retireRouteAt_retires ‹_›

theorem retireAll_retires {p : Port} {keys : List (Fin 8 × Fin 6)} {c : Cabin} (hnodup : keys.Nodup)
    (hocc : ∀ x ∈ keys, (c.route x.1 x.2).record.isSome = true) :
    Retires p keys c (keys.foldl (fun c x => retireIfOccupied p x c) c) := by
  induction keys generalizing c with
  | nil => exact .nil p c
  | cons x l ih =>
    obtain ⟨hx, hl⟩ := List.nodup_cons.mp hnodup
    have hfirst := retireIfOccupied_retires (p := p) (hocc x (by simp))
    have hrest := ih (c := retireIfOccupied p x c) hl fun y hy => by
      have hne : y ∉ [x] := fun h => hx (List.mem_singleton.mp h ▸ hy)
      rw [hfirst.routes, if_neg hne]
      exact hocc y (List.mem_cons_of_mem x hy)
    exact hfirst.trans hrest fun y hy h => hx (List.mem_singleton.mp h ▸ hy)

/-! ## The requests -/

theorem Retires.noDeferrals {p : Port} {keys : List (Fin 8 × Fin 6)} {c d : Cabin} (h : Retires p keys c d)
    (hc : NoDeferrals c) : NoDeferrals d := hc.of_moved h.stations

section Settled

variable {p : Port} {keys : List (Fin 8 × Fin 6)} {s : State} {d e : Cabin} (hrun : s.Running)
  (h : Retires p keys s.cab d) (hf : FollowsUp d e)
include h hf

theorem retired_route {x : Fin 8 × Fin 6} (hx : x ∈ keys) : e.route x.1 x.2 = ⟨(s.cab.route x.1 x.2).gen + 1, none⟩ :=
  hf.route_none ((h.routes x).trans (if_pos hx))

theorem retired_route_other {x : Fin 8 × Fin 6} (hx : x ∉ keys) : SameRoute (e.route x.1 x.2) (s.cab.route x.1 x.2) :=
  hf.route_other ((h.routes x).trans (if_neg hx))

theorem retired_station (i : Fin 40) :
    e.stationSlot i = StationSlot.moved 0 (namers s.cab i keys) (s.cab.stationSlot i) :=
  (stationSlot_of_slots hf.slots i).trans (h.stations i)

theorem retired_orphans (r : Result) (ws : List Word) :
    Orphans (keys.map s.cab.routeId) s (s.onCab fun _ => respond p r ws e) := by
  have := (h.orphans.trans hf.undisturbed.orphans).orphans p r ws
  rwa [List.append_nil] at this

include hrun in
theorem retired_shows {x : Fin 8 × Fin 6} (hx : x ∈ keys) {r : RouteRecord}
    (hr : (s.cab.route x.1 x.2).record = some r) (hp : p ≠ r.owner) :
    EventSet.has (e.ports.events.get r.owner) .route = true :=
  hf.around.events _ _ (h.shows hrun x hx r hr hp)

theorem retired_rebuilds {x : Fin 8 × Fin 6} (hx : x ∈ keys) {z : Zone} (hz : links s.cab x.1 z = true) : RebuildsIn e z :=
  hf.rebuilds z (h.stale x hx z hz)

end Settled

theorem exec_retireRoute {p : Port} {h : Handle} {l : Fin 8} {k : Fin 6} {old : RouteRecord} {s : State} (hrun : s.Running)
    (hkey : routeKey? h = some (l, k)) (hr : routeOf s.cab l k h = some old) (hmay : mayChangeRoute s.cab p l old = true) :
    exec (.retireRoute p h) s =
      .next (s.onCab fun _ => respond p .done [] (settleInputs (retireRouteAt p l k old s.cab))) := by
  have hretire : retireRoute p h s.cab = respond p .done [] (settleInputs (retireRouteAt p l k old s.cab)) := by
    simp [retireRoute, hkey, hr, hmay]
  exact congrArg Host.Outcome.next ((cabRequest_running hrun p _).trans (by rw [hretire]))

theorem clearableRoutes_eq (c : Cabin) (p : Port) (zs : ZoneSet) : clearableRoutes c p zs = routeKeys.filter (fun x =>
    ((c.route x.1 x.2).record.any fun r => !r.pinned && mayChangeRoute c p x.1 r) &&
      Zone.all.any fun z => zs.get z && links c x.1 z) := by
  refine List.filter_congr fun x _ => ?_
  rw [Bool.and_comm]
  congr 1
  cases (c.route x.1 x.2).record <;> rfl

theorem clearableRoutes_occupied {c : Cabin} {p : Port} {zs : ZoneSet} {x : Fin 8 × Fin 6}
    (hx : x ∈ clearableRoutes c p zs) : (c.route x.1 x.2).record.isSome = true := by
  rw [clearableRoutes_eq] at hx
  cases hr : (c.route x.1 x.2).record with
  | none => simp [hr] at hx
  | some r => rfl

theorem exec_clearZoneRoutes {p : Port} {mask : Nat} {zs : ZoneSet} {s : State} (hrun : s.Running)
    (hmask : zoneSet? mask = some zs) : exec (.clearZoneRoutes p mask) s = .next (s.onCab fun _ =>
      respond p .done [natWord (clearableRoutes s.cab p zs).length]
        (if clearableRoutes s.cab p zs = [] then s.cab
          else settleInputs ((clearableRoutes s.cab p zs).foldl (fun c x => retireIfOccupied p x c) s.cab))) := by
  have hclear : clearZoneRoutes p mask s.cab = respond p .done [natWord (clearableRoutes s.cab p zs).length]
      (if clearableRoutes s.cab p zs = [] then s.cab
        else settleInputs ((clearableRoutes s.cab p zs).foldl (fun c x => retireIfOccupied p x c) s.cab)) := by
    simp [clearZoneRoutes, hmask]
  exact congrArg Host.Outcome.next ((cabRequest_running hrun p _).trans (by rw [hclear]))

/-- Settles O13: each route retired frees its slot, drops its reference and orphans its contributions, and one
arbitration follows all of them. -/
theorem retiringFreesTheSlots : Obligations.RetiringFreesTheSlots := by
  refine ⟨fun p h l k old s hrun hdef hkey hr hmay => ?_, fun p mask zs s hrun hdef hmask => ?_⟩
  · have hexec := exec_retireRoute hrun hkey hr hmay
    have hret := retireRouteAt_retires (p := p) (routeOf_record hr)
    generalize retireRouteAt p l k old s.cab = d at *
    obtain ⟨hf, hraise⟩ := settleInputs_followsUp (hret.noDeferrals hdef)
    generalize settleInputs d = e at *
    have hmem : (l, k) ∈ [(l, k)] := List.mem_singleton.mpr rfl
    exact ⟨_, hexec, retired_route hret hf hmem, fun hp => retired_shows hrun hret hf hmem (routeOf_record hr) hp,
      onCab_const_answer .., fun m j hne => retired_route_other hret hf (x := (m, j)) (mt List.mem_singleton.mp hne),
      fun i => (retired_station hret hf i :), retired_orphans hret hf .., fun z hz => (retired_rebuilds hret hf hmem hz).rebuilds ..,
      directory_kept hrun hret.change hf hraise hret.zones hret.rearControl hret.media _ _ _ rfl⟩
  · have hexec := exec_clearZoneRoutes (p := p) hrun hmask
    have hret := retireAll_retires (p := p) (c := s.cab) (keys := clearableRoutes s.cab p zs)
      (routeKeys_nodup.filter _) (fun x hx => clearableRoutes_occupied hx)
    refine ⟨_, clearableRoutes s.cab p zs, hexec, clearableRoutes_eq .., onCab_const_answer .., ?_⟩
    clear hexec
    generalize clearableRoutes s.cab p zs = keys at *
    split
    · rename_i hnil
      subst hnil
      exact ⟨fun l k hx => by (cases hx), fun l k _ => ⟨rfl, rfl⟩, fun i => (moved_zero _).symm,
        (Undisturbed.refl s.cab).orphans.orphans .., rfl, rfl, rfl, rfl, rfl, (Around.refl s.cab).keptAround ..,
        fun hne => absurd rfl hne⟩
    · generalize keys.foldl (fun c x => retireIfOccupied p x c) s.cab = d at *
      obtain ⟨hf, hraise⟩ := settleInputs_followsUp (hret.noDeferrals hdef)
      generalize settleInputs d = e at *
      obtain ⟨hzones, hrear, hmedia, hwatch, hcursor, hkept, hcarries, hraises⟩ :=
        directory_kept hrun hret.change hf hraise hret.zones hret.rearControl hret.media p .done [natWord keys.length] rfl
      exact ⟨fun l k hx => ⟨retired_route hret hf hx, fun r hr hp => retired_shows hrun hret hf hx hr hp,
          fun z hz => (retired_rebuilds hret hf hx hz).rebuilds ..⟩,
        fun l k hx => retired_route_other hret hf hx, fun i => (retired_station hret hf i :), retired_orphans hret hf ..,
        hzones, hrear, hmedia, hwatch, hcursor, hkept, fun _ => ⟨hcarries, hraises⟩⟩

end Sys2Proof.Machine
end

section
/-! SUPPORT. Read Route, Read Zone and Clear Marks, and the words of their records (01 R9, R18, R20, 10 R167). -/

namespace Sys2Proof.Machine

theorem exec_cabRequest {i : Instr} {p : Port} {k f : Cabin → Cabin} {s : State} (hrun : s.Running)
    (hi : exec i s = .next (cabRequest p k s)) (hk : k s.cab = f s.cab) : exec i s = .next (s.onCab f) := by
  rw [hi, cabRequest_running hrun, hk]
  rfl

theorem packBits_cons (b : Bool) (l : List Bool) : packBits (b :: l) = b.toNat + 2 * packBits l := by
  cases b <;> rfl

theorem packBits_nil : packBits [] = 0 := rfl

theorem packBits_three (a b c : Bool) : packBits [a, b, c] = a.toNat + 2 * b.toNat + 4 * c.toNat := by
  simp only [packBits_cons, packBits_nil]
  omega

theorem packBits_six (a b c d e f : Bool) : packBits [a, b, c, d, e, f] =
    a.toNat + 2 * b.toNat + 4 * c.toNat + 8 * d.toNat + 16 * e.toNat + 32 * f.toNat := by
  simp only [packBits_cons, packBits_nil]
  omega

theorem flagWord_eq (b : Bool) : flagWord b = BitVec.ofNat 16 b.toNat := by cases b <;> rfl

theorem routeWords_spelled (h : RouteId) (r : RouteRecord) : routeWords h r = [
    BitVec.ofNat 16 (h.gen.val * 4096 + h.list.val * 256 + h.slot.val),
    (match r.source with | .station _ => 0 | .media n => BitVec.ofNat 16 (256 + n.val)),
    (match r.source with | .station a => BitVec.ofNat 16 (a.gen.val * 4096 + a.slot.val) | .media _ => 65535),
    BitVec.ofInt 16 r.gain, BitVec.ofNat 16 r.priority, (match r.duck with | .duck => 0 | .mute => 1 | .ignore => 2),
    BitVec.ofNat 16 (r.present.toNat + 2 * r.shared.toNat + 4 * r.pinned.toNat + 8 * r.heard.toNat +
      16 * r.altered.toNat + 32 * (decide (r.owner = .rear)).toNat),
    (match r.state with
      | .parked => 0 | .unlinked => 1 | .waiting => 2 | .tuning => 3 | .silent => 4 | .playing => 5)] := by
  rw [← packBits_six]
  have hduck : natWord r.duck.num = match r.duck with | .duck => 0 | .mute => 1 | .ignore => 2 := by cases r.duck <;> rfl
  have hstate : natWord r.state.num = match r.state with
      | .parked => 0 | .unlinked => 1 | .waiting => 2 | .tuning => 3 | .silent => 4 | .playing => 5 := by
    cases r.state <;> rfl
  cases hs : r.source with
  | station a =>
    simp only [routeWords, hs, sourceWords, hduck, hstate, stationWord, handleWord, Nat.zero_mul, Nat.add_zero]
    rfl
  | media n =>
    simp only [routeWords, hs, sourceWords, hduck, hstate]
    rfl

theorem rearChangeable_iff {c : Cabin} {z : Zone} :
    rearChangeable c z = true ↔ z = .z3 ∨ z = .z4 ∨ (z = .z1 ∧ c.dir.rearControl = true) := by
  cases z <;> simp [rearChangeable]

theorem zoneWords_spelled (c : Cabin) (p : Port) (z : Zone) : zoneWords c p z =
    [BitVec.ofNat 16 (c.zone z).present.toNat,
      (match (c.zone z).list with | none => 65535 | some l => BitVec.ofNat 16 l.val)] ++
    [(c.zone z).volume, (c.zone z).ceiling, (c.zone z).duckDepth, (c.zone z).callDuckDepth, (c.zone z).traffic,
      (c.zone z).nav, (c.zone z).chime, (c.zone z).ring].map (BitVec.ofInt 16) ++
    [BitVec.ofNat 16 ((c.zone z).accept.traffic.toNat + 2 * (c.zone z).accept.nav.toNat + 4 * (c.zone z).accept.chime.toNat),
     BitVec.ofNat 16 (c.zone z).userMute.toNat, BitVec.ofNat 16 ((c.zone z).clip.get p).toNat,
     BitVec.ofNat 16 (decide (z = .z1) && c.dir.rearControl).toNat,
     BitVec.ofNat 16 (decide (z = .z3 ∨ z = .z4 ∨ (z = .z1 ∧ c.dir.rearControl = true))).toNat] := by
  have hlist : optWord ((c.zone z).list.map (·.val)) =
      match (c.zone z).list with | none => 65535 | some l => BitVec.ofNat 16 l.val := by
    cases (c.zone z).list <;> rfl
  have hrear : rearChangeable c z = decide (z = .z3 ∨ z = .z4 ∨ (z = .z1 ∧ c.dir.rearControl = true)) := by
    rw [Bool.eq_iff_iff, rearChangeable_iff, decide_eq_true_iff]
  simp only [zoneWords, hlist, hrear, flagWord_eq, acceptWord, bitsWord, packBits_three]
  rfl

/-- Settles O14: each read is its one equation of `exec`, and the words are spelled field by field. -/
theorem directoryReadsAndMarks : Obligations.DirectoryReadsAndMarks := by
  refine ⟨fun p h l k r s hrun hkey hr => ⟨exec_cabRequest hrun rfl ?_, exec_cabRequest hrun rfl ?_⟩,
    fun p n z s hrun hz => ⟨_, s.cab.zone z, exec_cabRequest hrun rfl ?_, rfl, ?_, rfl⟩, routeWords_spelled,
    fun c p z e he => he ▸ zoneWords_spelled c p z⟩
  · simp [readRoute, hkey, hr]
  · by_cases hp : p = r.owner <;> simp [clearMarks, hkey, hr, hp]
  · simp [readZone, hz]
    rfl
  · simp [State.answer]

end Sys2Proof.Machine
end

section
/-! SUPPORT. Link List and Set Zone (01 R5, R19). -/

namespace Sys2Proof.Machine

/-! ## A changed zone entry -/

section ChangeZone

variable (z : Zone) (e : ZoneEntry) (c : Cabin)

theorem changeZone_zone (y : Zone) : (changeZone z e c).zone y = if y = z then e else c.zone y := by
  have hzones : (changeZone z e c).dir.zones = c.dir.zones.set z e := by simp [changeZone]
  simp only [Cabin.zone, hzones]
  split
  · rename_i h
    subst h
    exact PerZone.get_set_same ..
  · exact PerZone.get_set_ne _ _ _ _ ‹_›

theorem changeZone_route (l : Fin 8) (k : Fin 6) : (changeZone z e c).route l k = c.route l k :=
  route_of_lists (by simp [changeZone]) l k

theorem changeZone_stale : (changeZone z e c).builder.stale.get z = true := by simp [changeZone, markStale]

theorem changeZone_shows {c : Cabin} (h : c.ports.part = .running) (p : Port) :
    EventSet.has ((changeZone z e c).ports.events.get p) .zone = true :=
  postBoth_shows (c := markStale z (setZoneEntry z e c)) (running_posts h) p .zone

end ChangeZone

/-- What follows a changed zone entry, whether or not the traffic conditions are tested. -/
structure ZoneFollows (z : Zone) (e : ZoneEntry) (c d : Cabin) : Prop where
  change : RecordsChange c (changeZone z e c)
  follows : FollowsUp (changeZone z e c) d

section ZoneFollows

variable {z : Zone} {e : ZoneEntry} {s : State} {d : Cabin} (h : ZoneFollows z e s.cab d)
include h

theorem ZoneFollows.zone (y : Zone) : d.zone y = if y = z then e else s.cab.zone y := by
  rw [← changeZone_zone]
  exact congrArg (fun t => t.get y) h.follows.zones

theorem ZoneFollows.route (l : Fin 8) (k : Fin 6) : SameRoute (d.route l k) (s.cab.route l k) :=
  h.follows.route_other (changeZone_route ..)

theorem ZoneFollows.slots : d.table.slots = s.cab.table.slots := h.follows.slots.trans (by simp [changeZone])

theorem ZoneFollows.rearControl : d.dir.rearControl = s.cab.dir.rearControl :=
  h.follows.rearControl.trans (by simp [changeZone])

theorem ZoneFollows.media : d.dir.media = s.cab.dir.media := h.follows.media.trans (by simp [changeZone])

theorem ZoneFollows.watch : d.table.watch = s.cab.table.watch := h.follows.watch.trans h.change.watch

theorem ZoneFollows.cursor : d.table.cursor = s.cab.table.cursor := h.follows.cursor.trans h.change.cursor

theorem ZoneFollows.rebuilds : RebuildsIn d z := h.follows.rebuilds z (changeZone_stale ..)

theorem ZoneFollows.shows (hrun : s.Running) (p : Port) : EventSet.has (d.ports.events.get p) .zone = true :=
  h.follows.around.events _ _ (changeZone_shows z e hrun p)

end ZoneFollows

theorem changeZone_noDeferrals {c : Cabin} (h : NoDeferrals c) (z : Zone) (e : ZoneEntry) : NoDeferrals (changeZone z e c) :=
  h.of_slots (by simp [changeZone])

theorem settleInputs_zoneFollows {c : Cabin} (h : NoDeferrals c) (z : Zone) (e : ZoneEntry) :
    ZoneFollows z e c (settleInputs (changeZone z e c)) :=
  ⟨changeZone_change .., (settleInputs_followsUp (changeZone_noDeferrals h z e)).1⟩

theorem settleDirectory_zoneFollows {c : Cabin} (h : NoDeferrals c) (z : Zone) (e : ZoneEntry) :
    ZoneFollows z e c (settleDirectory (changeZone z e c)) :=
  ⟨changeZone_change .., settleDirectory_followsUp (changeZone_noDeferrals h z e)⟩

/-! ## Link List (01 R5) -/

theorem exec_linkList {p : Port} {n : Nat} {m : Option Nat} {z : Zone} {l : Option (Fin 8)} {s : State} (hrun : s.Running)
    (hz : Zone.ofNat? n = some z) (hl : listForm m = some l) (hmay : mayChangeZone s.cab p z = true) :
    exec (.linkList p n m) s = .next (s.onCab fun _ => respond p .done [] (if (s.cab.zone z).list = l then s.cab
      else settleInputs (changeZone z { s.cab.zone z with list := l } s.cab))) :=
  exec_cabRequest hrun rfl (by simp [linkList, hz, hl, hmay])

theorem linkList_links (p : Port) (n : Nat) (m : Option Nat) (z : Zone) (l : Option (Fin 8)) (s : State) (hrun : s.Running)
    (hdef : NoDeferrals s.cab) (hz : Zone.ofNat? n = some z) (hl : listForm m = some l)
    (hmay : mayChangeZone s.cab p z = true) :
    ∃ t, exec (.linkList p n m) s = .next t ∧ t.answer p = some ⟨.done, []⟩ ∧
      t.cab.zone z = { s.cab.zone z with list := l } ∧ (∀ y, y ≠ z → t.cab.zone y = s.cab.zone y) ∧
      ((s.cab.zone z).list = l → t = s.onCab (respond p .done [])) ∧
      ((s.cab.zone z).list ≠ l → CarriesTheWinners s t ∧ (PrioritiesFit s.cab → RaisesBulletins s t) ∧
        Rebuilds t z ∧ t.shows .front .zone ∧ t.shows .rear .zone ∧
        ∀ x k r, (t.cab.route x k).record = some r → r.state = routeState t.cab x r) ∧
      (∀ x k, SameRoute (t.cab.route x k) (s.cab.route x k)) ∧
      t.cab.table.slots = s.cab.table.slots ∧ t.cab.dir.rearControl = s.cab.dir.rearControl ∧
      t.cab.dir.media = s.cab.dir.media ∧ t.cab.table.watch = s.cab.table.watch ∧
      t.cab.table.cursor = s.cab.table.cursor ∧ KeptAround p s t := by
  refine ⟨_, exec_linkList hrun hz hl hmay, onCab_const_answer .., ?_⟩
  split
  · rename_i hsame
    exact ⟨by rw [← hsame]; rfl, fun _ _ => rfl, fun _ => rfl, fun hne => absurd hsame hne, fun _ _ => ⟨rfl, rfl⟩, rfl, rfl,
      rfl, rfl, rfl, (Around.refl s.cab).keptAround ..⟩
  · rename_i hne
    have hd := settleInputs_zoneFollows hdef z { s.cab.zone z with list := l }
    have hraise := (settleInputs_followsUp (changeZone_noDeferrals hdef z { s.cab.zone z with list := l })).2
    generalize settleInputs (changeZone z { s.cab.zone z with list := l } s.cab) = d at *
    exact ⟨(hd.zone z).trans (if_pos rfl), fun y hy => (hd.zone y).trans (if_neg hy), fun h => absurd h hne,
      fun _ => ⟨carriesTheWinners_of_followsUp hrun hd.change hd.follows .., raisesBulletins_of_followsUp hd.change _ _ _ hraise,
        hd.rebuilds.rebuilds .., hd.shows hrun .front, hd.shows hrun .rear, hd.follows.states⟩,
      hd.route, hd.slots, hd.rearControl, hd.media, hd.watch, hd.cursor, keptAround_of_followsUp hd.change hd.follows ..⟩

/-! ## Media State (01 R22) -/

/-- The zone holds or names the stream (01 R22). -/
def concernsMedia (c : Cabin) (n : Fin 4) (z : Zone) : Prop :=
  (∃ x ∈ (c.mixZone z).routes, x.source = .media n) ∨ ∃ l, (c.zone z).list = some l ∧ listNames c l (.media n) = true

/-- Streams have been declared, and the zones that a changed one concerns are stale. -/
structure Declares (c d : Cabin) : Prop where
  rest : d = { c with dir := { c.dir with media := d.dir.media }, builder := { c.builder with stale := d.builder.stale } }
  kept : StaleKept c d
  stale : ∀ n z, concernsMedia c n z → d.dir.media.get n ≠ c.dir.media.get n → d.builder.stale.get z = true

theorem Declares.refl (c : Cabin) : Declares c c := ⟨rfl, fun _ h => h, fun _ _ _ hne => absurd rfl hne⟩

theorem Declares.concernsMedia {c d : Cabin} (h : Declares c d) {n : Fin 4} {z : Zone} (hz : concernsMedia c n z) :
    concernsMedia d n z := by
  rw [h.rest]
  exact hz

theorem Declares.trans {c d e : Cabin} (h : Declares c d) (g : Declares d e) : Declares c e := by
  refine ⟨g.rest.trans (by rw [h.rest]), h.kept.trans g.kept, fun n z hz hne => ?_⟩
  by_cases hd : d.dir.media.get n = c.dir.media.get n
  · exact g.stale n z (h.concernsMedia hz) (by rwa [hd])
  · exact g.kept z (h.stale n z hz hd)

theorem declareMedia_media (n k : Fin 4) (v : Option Bool) (c : Cabin) :
    (declareMedia n v c).dir.media.get k = if k = n then v.getD (c.dir.media.get k) else c.dir.media.get k := by
  unfold declareMedia
  split
  · simp
  · rename_i o
    split
    · rename_i ho
      split
      · rename_i hk
        subst hk
        simpa using ho
      · rfl
    · simp [Tab.get_set]

theorem declareMedia_stale {n : Fin 4} {v : Option Bool} {c : Cabin} {z : Zone} (hz : concernsMedia c n z)
    (hne : (declareMedia n v c).dir.media.get n ≠ c.dir.media.get n) :
    (declareMedia n v c).builder.stale.get z = true := by
  unfold declareMedia at *
  split
  · exact absurd rfl hne
  · rename_i o
    split
    · rename_i ho
      simp [ho] at hne
    · rw [markStaleWhere_stale, Bool.or_eq_true]
      left
      rcases hz with ⟨x, hx, hs⟩ | ⟨l, hl, hn⟩
      · exact Bool.or_eq_true_iff.mpr (.inl (List.any_eq_true.mpr ⟨x, hx, decide_eq_true hs⟩))
      · refine Bool.or_eq_true_iff.mpr (.inr ?_)
        have hl' : (c.dir.zones.get z).list = some l := hl
        simp only [Cabin.zone, hl']
        exact hn

theorem declareMedia_declares (n : Fin 4) (v : Option Bool) (c : Cabin) : Declares c (declareMedia n v c) := by
  refine ⟨?_, ?_, fun k z hz hne => ?_⟩
  · unfold declareMedia
    repeat' split
    all_goals rfl
  · unfold declareMedia
    repeat' split
    · exact fun _ h => h
    · exact fun _ h => h
    · exact (StaleKept.of_eq rfl).trans (markStaleWhere_staleKept _ _)
  · by_cases hk : k = n
    · subst hk
      exact declareMedia_stale hz hne
    · rw [declareMedia_media, if_neg hk] at hne
      exact absurd rfl hne

/-- All four declarations of a request. -/
def declaredMedia (m0 m1 m2 m3 : Option Nat) (c : Cabin) : Cabin :=
  declareMedia 3 (optDeclared m3) (declareMedia 2 (optDeclared m2) (declareMedia 1 (optDeclared m1)
    (declareMedia 0 (optDeclared m0) c)))

theorem declaredMedia_declares (m0 m1 m2 m3 : Option Nat) (c : Cabin) : Declares c (declaredMedia m0 m1 m2 m3 c) :=
  (((declareMedia_declares ..).trans (declareMedia_declares ..)).trans (declareMedia_declares ..)).trans
    (declareMedia_declares ..)

theorem optDeclared_getD {m : Option Nat} (h : optOk firstOfTwo? m = true) (old : Bool) :
    (optDeclared m).getD old = m.elim old (fun v => decide (v = 0)) := by
  match m, h with
  | none, _ => rfl
  | some 0, _ => rfl
  | some 1, _ => rfl

theorem mediaForm_iff {m0 m1 m2 m3 : Option Nat} (h : mediaForm m0 m1 m2 m3 = true) : optOk firstOfTwo? m0 = true ∧
    optOk firstOfTwo? m1 = true ∧ optOk firstOfTwo? m2 = true ∧ optOk firstOfTwo? m3 = true := by
  simp only [mediaForm, Bool.and_eq_true, and_assoc] at h
  exact h.2

theorem declaredMedia_media {m0 m1 m2 m3 : Option Nat} (h : mediaForm m0 m1 m2 m3 = true) (c : Cabin) (n : Fin 4) :
    (declaredMedia m0 m1 m2 m3 c).dir.media.get n =
      (match n with | 0 => m0 | 1 => m1 | 2 => m2 | 3 => m3).elim (c.dir.media.get n) (fun v => decide (v = 0)) := by
  obtain ⟨h0, h1, h2, h3⟩ := mediaForm_iff h
  match n with
  | 0 => simp [declaredMedia, declareMedia_media, optDeclared_getD h0]
  | 1 => simp [declaredMedia, declareMedia_media, optDeclared_getD h1]
  | 2 => simp [declaredMedia, declareMedia_media, optDeclared_getD h2]
  | 3 => simp [declaredMedia, declareMedia_media, optDeclared_getD h3]

theorem exec_mediaState {m0 m1 m2 m3 : Option Nat} {s : State} (hrun : s.Running) (h : mediaForm m0 m1 m2 m3 = true) :
    exec (.mediaState .front m0 m1 m2 m3) s = .next (s.onCab fun _ => respond .front .done []
      (if (declaredMedia m0 m1 m2 m3 s.cab).dir.media = s.cab.dir.media then s.cab
        else startBuild (rederiveRoutes (declaredMedia m0 m1 m2 m3 s.cab)))) :=
  exec_cabRequest hrun rfl (by unfold mediaState; rw [h]; rfl)

theorem Declares.only {c d : Cabin} (h : Declares c d) : OnlyRecords c d := by
  constructor <;> rw [h.rest]

/-! ### A change of state is posted (01 R7) -/

theorem rederiveAt_shows {c : Cabin} {l : Fin 8} {k : Fin 6} {a : RouteRecord} (hposts : c.ports.part.posts = true)
    (ha : (c.route l k).record = some a) (hne : routeState c l a ≠ a.state) :
    EventSet.has ((rederiveAt l k c).ports.events.get a.owner) .route = true := by
  unfold rederiveAt
  split
  · rename_i hnone
    rw [ha] at hnone
    cases hnone
  · rename_i r hr
    rw [ha] at hr
    obtain rfl := Option.some.inj hr
    rw [if_neg hne]
    exact post_shows (by simpa using hposts) a.owner .route

theorem foldl_rederiveAt_undisturbed (keys : List (Fin 8 × Fin 6)) (c : Cabin) :
    Undisturbed c (keys.foldl (fun c x => rederiveAt x.1 x.2 c) c) := by
  induction keys generalizing c with
  | nil => exact .refl c
  | cons x l ih => exact (rederiveAt_undisturbed x.1 x.2 c).trans (ih _)

theorem foldl_rederiveAt_shows {keys : List (Fin 8 × Fin 6)} {c : Cabin} {x : Fin 8 × Fin 6} {a : RouteRecord}
    (hx : x ∈ keys) (hposts : c.ports.part.posts = true) (ha : (c.route x.1 x.2).record = some a)
    (hne : routeState c x.1 a ≠ a.state) :
    EventSet.has ((keys.foldl (fun c x => rederiveAt x.1 x.2 c) c).ports.events.get a.owner) .route = true := by
  induction keys generalizing c with
  | nil => cases hx
  | cons y l ih =>
    rw [List.foldl_cons]
    by_cases hy : x = y
    · subst hy
      exact (foldl_rederiveAt_undisturbed l _).events _ _ (rederiveAt_shows hposts ha hne)
    · have hroute : (rederiveAt y.1 y.2 c).route x.1 x.2 = c.route x.1 x.2 := by
        rw [rederiveAt_route]
        exact if_neg hy
      refine ih ((List.mem_cons.mp hx).resolve_left hy) (by simpa using hposts) (by rwa [hroute]) ?_
      rwa [routeState_of_eq (c := c) (by simp) (by simp) (by simp)]

theorem rederiveRoutes_shows {c : Cabin} {l : Fin 8} {k : Fin 6} {a b : RouteRecord} (hposts : c.ports.part.posts = true)
    (ha : (c.route l k).record = some a) (hb : ((rederiveRoutes c).route l k).record = some b) (hne : a.state ≠ b.state) :
    EventSet.has ((rederiveRoutes c).ports.events.get b.owner) .route = true := by
  rw [rederiveRoutes_route, derivedSlot, ha] at hb
  obtain rfl := Option.some.inj hb
  exact (breakIntervals_undisturbed _).events _ _
    (foldl_rederiveAt_shows (x := (l, k)) (a := a) (mem_routeKeys (l, k)) hposts ha (Ne.symm hne))

/-- `e` is `d` with the states derived again and the builder started: what follows a declaration of streams. -/
structure Rederived (d e : Cabin) : Prop where
  around : Around d e
  states : StatesDerived e
  routes : ∀ l k, SameRoute (e.route l k) (d.route l k)
  zones : e.dir.zones = d.dir.zones
  rearControl : e.dir.rearControl = d.dir.rearControl
  media : e.dir.media = d.dir.media
  table : e.table = d.table
  alloc : e.alloc = d.alloc
  queue : e.queue = d.queue
  calls : e.calls = d.calls
  rebuilds : ∀ z, d.builder.stale.get z = true → RebuildsIn e z
  shows : d.ports.part.posts = true → ∀ l k a, (d.route l k).record = some a → ∀ b, (e.route l k).record = some b →
    a.state ≠ b.state → EventSet.has (e.ports.events.get b.owner) .route = true

theorem rederived_follows (d : Cabin) : Rederived d (startBuild (rederiveRoutes d)) := by
  have hroute : ∀ l k, (startBuild (rederiveRoutes d)).route l k = (rederiveRoutes d).route l k := route_of_lists (by simp)
  have hbuild := startBuild_undisturbed (rederiveRoutes d)
  exact {
    around := ((rederiveRoutes_undisturbed d).trans hbuild).around (by constructor <;> simp)
    states := .of_eq (by simp) (by simp) (rederiveRoutes_statesDerived d)
    routes := fun l k => by
      rw [hroute, rederiveRoutes_route]
      exact derivedSlot_sameRoute ..
    zones := by simp
    rearControl := by simp
    media := by simp
    table := by simp
    alloc := by simp
    queue := by simp
    calls := by simp
    rebuilds := fun z hz => startBuild_rebuildsIn (by simpa using hz)
    shows := fun hposts l k a ha b hb hne => by
      rw [hroute] at hb
      exact hbuild.events _ _ (rederiveRoutes_shows hposts ha hb hne) }

theorem mediaState_declares (m0 m1 m2 m3 : Option Nat) (s : State) (hrun : s.Running) (hform : mediaForm m0 m1 m2 m3 = true) :
    ∃ t, exec (.mediaState .front m0 m1 m2 m3) s = .next t ∧ t.answer .front = some ⟨.done, []⟩ ∧
      (∀ n, t.cab.dir.media.get n =
        (match n with | 0 => m0 | 1 => m1 | 2 => m2 | 3 => m3).elim (s.cab.dir.media.get n) (fun v => decide (v = 0))) ∧
      (∀ n z, t.cab.dir.media.get n ≠ s.cab.dir.media.get n → concernsMedia s.cab n z → Rebuilds t z) ∧
      (t.cab.dir.media ≠ s.cab.dir.media →
        ∀ l k r, (t.cab.route l k).record = some r → r.state = routeState t.cab l r) ∧
      (∀ l k a, (s.cab.route l k).record = some a → ∀ b, (t.cab.route l k).record = some b → a.state ≠ b.state →
        t.shows b.owner .route) ∧
      (∀ l k, SameRoute (t.cab.route l k) (s.cab.route l k)) ∧ t.cab.dir.zones = s.cab.dir.zones ∧
      t.cab.dir.rearControl = s.cab.dir.rearControl ∧ t.cab.table = s.cab.table ∧ t.cab.alloc = s.cab.alloc ∧
      t.cab.queue = s.cab.queue ∧ t.cab.calls = s.cab.calls ∧ KeptAround .front s t := by
  have hdecl := declaredMedia_declares m0 m1 m2 m3 s.cab
  have hmedia := declaredMedia_media hform s.cab
  refine ⟨_, exec_mediaState hrun hform, onCab_const_answer .., ?_⟩
  generalize declaredMedia m0 m1 m2 m3 s.cab = d at *
  split
  · rename_i hsame
    exact ⟨fun n => (congrArg (fun t => t.get n) hsame).symm.trans (hmedia n), fun n z hne => absurd rfl hne,
      fun hne => absurd rfl hne, fun l k a ha b hb hne => absurd (by rw [Option.some.inj (ha.symm.trans hb)]) hne,
      fun _ _ => ⟨rfl, rfl⟩, rfl, rfl, rfl, rfl, rfl, rfl, (Around.refl s.cab).keptAround ..⟩
  · have hroute : ∀ l k, d.route l k = s.cab.route l k := route_of_lists (by rw [hdecl.rest])
    have hfollow := rederived_follows d
    generalize startBuild (rederiveRoutes d) = e at *
    have hpart : d.ports.part = s.cab.ports.part := by rw [hdecl.only.ports]
    refine ⟨fun n => (congrArg (fun t => t.get n) hfollow.media).trans (hmedia n), fun n z hne hz => ?_,
      fun _ => hfollow.states, fun l k a ha b hb hne => ?_, fun l k => hroute l k ▸ hfollow.routes l k,
      hfollow.zones.trans (by rw [hdecl.rest]), hfollow.rearControl.trans (by rw [hdecl.rest]),
      hfollow.table.trans (by rw [hdecl.rest]), hfollow.alloc.trans (by rw [hdecl.rest]),
      hfollow.queue.trans (by rw [hdecl.rest]), hfollow.calls.trans (by rw [hdecl.rest]),
      (hdecl.only.change.around.trans hfollow.around).keptAround ..⟩
    · have hmoved : d.dir.media.get n ≠ s.cab.dir.media.get n := fun he =>
        hne ((congrArg (fun t => t.get n) hfollow.media).trans he)
      exact (hfollow.rebuilds z (hdecl.stale n z hz hmoved)).rebuilds ..
    · exact hfollow.shows (running_posts (hpart.trans hrun)) l k a ((congrArg RouteSlot.record (hroute l k)).trans ha) b hb hne

/-! ## Grant Rear Control (01 R4) -/

theorem exec_grantRearControl {v : Nat} {grant : Bool} {s : State} (hrun : s.Running) (hv : firstOfTwo? v = some grant) :
    exec (.grantRearControl .front v) s = .next (s.onCab fun c => respond .front .done []
      (if c.dir.rearControl = grant then c
       else postBoth .zone { c with dir := { c.dir with rearControl := grant } })) ∧
    exec (.grantRearControl .rear v) s = .next (s.onCab (refuse .rear .denied)) :=
  ⟨exec_cabRequest hrun rfl (by simp [grantRearControl, hv]), exec_cabRequest hrun rfl (by simp [grantRearControl, hv])⟩

/-- Settles O16: a new link and a new declaration are changes of the records with what follows them; the grant is one
equation of `exec`. -/
theorem linksGrantsAndStreams : Obligations.LinksGrantsAndStreams :=
  ⟨linkList_links, fun _ _ _ => exec_grantRearControl, mediaState_declares⟩

end Sys2Proof.Machine
end

section
/-! SUPPORT. Set Zone (01 R19). -/

namespace Sys2Proof.Machine

/-! ## The changed fields -/

theorem zoneForm_iff {a : ZoneArgs} : zoneForm a = true ↔ optOk yesNo? a.present = true ∧ optOk yesNo? a.userMute = true ∧
    optOk acceptSet? a.accept = true := by simp [zoneForm, and_assoc]

theorem optRead_acceptSet {old : AcceptSet} {m : Nat} (h : optOk acceptSet? (some m) = true) :
    optRead acceptSet? old (some m) = ⟨m.testBit 0, m.testBit 1, m.testBit 2⟩ := by
  have hm : m < 8 := by
    by_contra hge
    simp [optOk, acceptSet?, hge] at h
  simp [optRead, acceptSet?, hm]

theorem newCeiling_front (img : ZoneImage) (old asked : Int) :
    newCeiling .front img old (some asked) = min (max (-192) (min 0 asked)) img.absoluteCeiling := rfl

theorem newCeiling_rear_lower {img : ZoneImage} {old asked : Int} (h : max (-192) (min 0 asked) ≤ old) :
    newCeiling .rear img old (some asked) = max (-192) (min 0 asked) := if_pos h

theorem newCeiling_rear_raise {img : ZoneImage} {old asked : Int} (h : old < max (-192) (min 0 asked)) :
    newCeiling .rear img old (some asked) =
      max old (min (max (-192) (min 0 asked)) (min img.defaultCeiling img.absoluteCeiling)) := if_neg (not_le.mpr h)

theorem zoneClamped_of_ceiling {p : Port} {img : ZoneImage} {e : ZoneEntry} {a : ZoneArgs} {asked : Int}
    (ha : a.ceiling = some asked) (hne : (changedZone p img e a).ceiling ≠ asked) : zoneClamped p img e a = true := by
  unfold zoneClamped
  rw [Bool.or_eq_true]
  right
  have hnew : newCeiling p img e.ceiling a.ceiling ≠ asked := hne
  rw [ha] at hnew ⊢
  exact decide_eq_true hnew

/-! ## Without a new accept set the queue stays, unless the channels change -/

theorem arbitrate_queueSlots {c : Cabin} (h : (arbitrate c).alloc.chans = c.alloc.chans) :
    (arbitrate c).queue.slots = c.queue.slots := by
  have hstation : ∀ x, ((arbitrate c).chan x).station = (c.chan x).station := fun x =>
    congrArg ProgChan.station (chan_of_chans h x)
  unfold arbitrate at hstation ⊢
  split
  · rename_i hgo
    rw [if_pos hgo] at hstation
    split
    · rfl
    · rename_i hne
      rw [if_neg hne] at hstation
      have happlied := applyAssignment_station (newAssignment c) c
      rw [hstation, hstation] at happlied
      exact absurd happlied.symm hne
  · rfl

theorem settleDirectory_queueSlots {c : Cabin} (hdef : NoDeferrals c) (h : (settleDirectory c).alloc.chans = c.alloc.chans) :
    (settleDirectory c).queue.slots = c.queue.slots := by
  unfold settleDirectory at *
  rw [settleAllocator_eq_arbitrate hdef] at *
  rw [settleRoutes_slots]
  exact arbitrate_queueSlots (by simpa using h)

/-! ## The request -/

theorem exec_setZone {p : Port} {n : Nat} {a : ZoneArgs} {z : Zone} {s : State} (hrun : s.Running)
    (hz : Zone.ofNat? n = some z) (hform : zoneForm a = true) (hmay : mayChangeZone s.cab p z = true)
    (hrear : p = .rear → a.present = none) :
    exec (.setZone p n a) s = .next (s.onCab fun _ =>
      respond p (doneOr (zoneClamped p (s.supply.image.zones.get z) (s.cab.zone z) a)) []
        (if changedZone p (s.supply.image.zones.get z) (s.cab.zone z) a = s.cab.zone z then s.cab
          else zoneChanged z (s.cab.zone z) (changedZone p (s.supply.image.zones.get z) (s.cab.zone z) a) s.cab)) := by
  have hdenied : ¬ (p = .rear ∧ a.present.isSome = true) := fun ⟨hp, hsome⟩ => by
    rw [hrear hp] at hsome
    cases hsome
  exact exec_cabRequest hrun rfl (by simp [setZone, hz, hform, hmay, hdenied])

/-- What Set Zone makes of the cabin, `e` being the entry with its new fields: nothing where no field changes, and the
traffic conditions are tested only for a new accept set. -/
inductive SetsZone (z : Zone) (e : ZoneEntry) (c : Cabin) : Cabin → Prop
  | same (h : e = c.zone z) : SetsZone z e c c
  | changed {d : Cabin} (hne : e ≠ c.zone z) (follows : ZoneFollows z e c d)
      (raises : e.accept ≠ (c.zone z).accept → RaisesIn (changeZone z e c) d)
      (queue : e.accept = (c.zone z).accept → d.alloc.chans = c.alloc.chans → d.queue.slots = c.queue.slots) :
      SetsZone z e c d

theorem zoneChanged_sets {c : Cabin} (hdef : NoDeferrals c) (z : Zone) (e : ZoneEntry) :
    SetsZone z e c (if e = c.zone z then c else zoneChanged z (c.zone z) e c) := by
  have hchange := changeZone_change z e c
  have hmoved := changeZone_noDeferrals hdef z e
  split
  · exact .same ‹_›
  · rename_i hne
    unfold zoneChanged
    split
    · rename_i hsame
      refine .changed hne (settleDirectory_zoneFollows hdef z e) (fun h => absurd hsame.symm h) fun _ hchans => ?_
      rw [settleDirectory_queueSlots hmoved (hchans.trans hchange.chans.symm), hchange.queue]
    · rename_i haccept
      exact .changed hne (settleInputs_zoneFollows hdef z e) (fun _ => (settleInputs_followsUp hmoved).2)
        fun h => absurd h.symm haccept

section SetsZone

variable {z : Zone} {e : ZoneEntry} {s : State} {d : Cabin} (h : SetsZone z e s.cab d)
include h

theorem SetsZone.zone (y : Zone) : d.zone y = if y = z then e else s.cab.zone y := by
  cases h with
  | same he =>
    split
    · rename_i hy
      rw [hy, he]
    · rfl
  | changed _ hf => exact hf.zone y

theorem SetsZone.eq_self (he : e = s.cab.zone z) : d = s.cab := by
  cases h with
  | same _ => rfl
  | changed hne => exact absurd he hne

theorem SetsZone.queueSlots (haccept : e.accept = (s.cab.zone z).accept) (hchans : d.alloc.chans = s.cab.alloc.chans) :
    d.queue.slots = s.cab.queue.slots := by
  cases h with
  | same _ => rfl
  | changed _ _ _ hq => exact hq haccept hchans

theorem SetsZone.bulletins (haccept : e.accept ≠ (s.cab.zone z).accept) (hfit : PrioritiesFit s.cab) (p : Port) (r : Result)
    (ws : List Word) : RaisesBulletins s (s.onCab fun _ => respond p r ws d) := by
  cases h with
  | same he => exact absurd (congrArg ZoneEntry.accept he) haccept
  | changed _ hf hr => exact raisesBulletins_of_followsUp hf.change p r ws (hr haccept) hfit

theorem SetsZone.stale (hrun : s.Running) (hne : e ≠ s.cab.zone z) (p : Port) (r : Result) (ws : List Word) {t : State}
    (ht : t = s.onCab fun _ => respond p r ws d) :
    Rebuilds t z ∧ t.shows .front .zone ∧ t.shows .rear .zone ∧ CarriesTheWinners s t := by
  subst ht
  cases h with
  | same he => exact absurd he hne
  | changed _ hf =>
    exact ⟨hf.rebuilds.rebuilds .., hf.shows hrun .front, hf.shows hrun .rear,
      carriesTheWinners_of_followsUp hrun hf.change hf.follows ..⟩

theorem SetsZone.kept (p : Port) (r : Result) (ws : List Word) {t : State} (ht : t = s.onCab fun _ => respond p r ws d) :
    (∀ y, y ≠ z → t.cab.zone y = s.cab.zone y) ∧ (∀ l k, SameRoute (t.cab.route l k) (s.cab.route l k)) ∧
    t.cab.table.slots = s.cab.table.slots ∧ t.cab.dir.rearControl = s.cab.dir.rearControl ∧
    t.cab.dir.media = s.cab.dir.media ∧ t.cab.table.watch = s.cab.table.watch ∧
    t.cab.table.cursor = s.cab.table.cursor ∧ KeptAround p s t := by
  subst ht
  refine ⟨fun y hy => (h.zone y).trans (if_neg hy), ?_⟩
  cases h with
  | same _ => exact ⟨fun _ _ => ⟨rfl, rfl⟩, rfl, rfl, rfl, rfl, rfl, (Around.refl s.cab).keptAround ..⟩
  | changed _ hf =>
    exact ⟨hf.route, hf.slots, hf.rearControl, hf.media, hf.watch, hf.cursor, keptAround_of_followsUp hf.change hf.follows ..⟩

end SetsZone

theorem doneOr_cases (b : Bool) : doneOr b = .done ∨ doneOr b = .clamped := by cases b <;> simp [doneOr]

/-- Settles O15: the entry with its new fields is the one change of the records, and where no field changes nothing
follows. -/
theorem setZoneSettlesTheEntry : Obligations.SetZoneSettlesTheEntry := by
  intro p n a z s hrun hdef hz hform hmay hrear
  obtain ⟨hpresent, hmute, haccept⟩ := zoneForm_iff.mp hform
  have hexec := exec_setZone hrun hz hform hmay hrear
  have hset := zoneChanged_sets hdef z (changedZone p (s.supply.image.zones.get z) (s.cab.zone z) a)
  generalize (if changedZone p (s.supply.image.zones.get z) (s.cab.zone z) a = s.cab.zone z then s.cab
    else zoneChanged z (s.cab.zone z) (changedZone p (s.supply.image.zones.get z) (s.cab.zone z) a) s.cab) = d at *
  have hanswer := onCab_const_answer s p (doneOr (zoneClamped p (s.supply.image.zones.get z) (s.cab.zone z) a)) [] d
  have hnew : d.zone z = changedZone p (s.supply.image.zones.get z) (s.cab.zone z) a := (hset.zone z).trans (if_pos rfl)
  have hceiling : (d.zone z).ceiling = newCeiling p (s.supply.image.zones.get z) (s.cab.zone z).ceiling a.ceiling :=
    congrArg ZoneEntry.ceiling hnew
  obtain ⟨hzones, hroutes, hkept⟩ := hset.kept p (doneOr (zoneClamped p (s.supply.image.zones.get z) (s.cab.zone z) a)) [] rfl
  refine ⟨_, hexec, ⟨(congrArg ZoneEntry.present hnew).trans (optRead_yesNo hpresent),
    (congrArg ZoneEntry.volume hnew).trans (optLimit_eq ..), fun asked hasked v hv => ⟨fun hp => ?_, fun hp hle => ?_, fun hp hlt => ?_, fun hne => ?_⟩,
    fun hnone => hceiling.trans (by rw [hnone]; rfl),
    (congrArg ZoneEntry.duckDepth hnew).trans (optLimit_eq ..),
    (congrArg ZoneEntry.callDuckDepth hnew).trans (optLimit_eq ..),
    (congrArg ZoneEntry.traffic hnew).trans (optLimit_eq ..), (congrArg ZoneEntry.nav hnew).trans (optLimit_eq ..),
    (congrArg ZoneEntry.chime hnew).trans (optLimit_eq ..), (congrArg ZoneEntry.ring hnew).trans (optLimit_eq ..),
    fun m hm => (congrArg ZoneEntry.accept hnew).trans ?_, fun hnone => (congrArg ZoneEntry.accept hnew).trans ?_,
    (congrArg ZoneEntry.userMute hnew).trans (optRead_yesNo hmute), (congrArg ZoneEntry.list hnew :),
    (congrArg ZoneEntry.clip hnew :), fun hne => hset.stale hrun (hnew ▸ hne) _ _ _ rfl,
    fun hne hfit => hset.bulletins (hnew ▸ hne) hfit _ _ _, fun heq => hset.queueSlots (hnew ▸ heq),
    fun heq => by rw [hset.eq_self (hnew ▸ heq)]; rfl⟩, ?_, hzones, hroutes, hkept⟩
  · subst hp hv
    exact hceiling.trans (by rw [hasked]; exact newCeiling_front ..)
  · subst hp hv
    exact hceiling.trans (by rw [hasked]; exact newCeiling_rear_lower hle)
  · subst hp hv
    exact hceiling.trans (by rw [hasked]; exact newCeiling_rear_raise hlt)
  · have hclamped := zoneClamped_of_ceiling hasked (hnew ▸ hne)
    exact hanswer.trans (by rw [hclamped]; rfl)
  · rw [hm] at haccept
    rw [changedZone, hm]
    exact optRead_acceptSet haccept
  · rw [changedZone, hnone]
    rfl
  · rcases doneOr_cases (zoneClamped p (s.supply.image.zones.get z) (s.cab.zone z) a) with h | h
    · exact .inl (hanswer.trans (by rw [h]))
    · exact .inr (hanswer.trans (by rw [h]))

end Sys2Proof.Machine
end

section
/-! SUPPORT. What no request from the rear port can change (01 R4, R11, 10.3): the relation. -/

namespace Sys2Proof.Machine

/-! ## What the rear port spares, block by block -/

/-- Of a zone that is not rear-changeable nothing changes but the rear port's clip flag (01 R4). -/
def ZonesSpared (c d : Cabin) : Prop :=
  ∀ z, rearChangeable c z = false →
    d.zone z = { c.zone z with clip := (d.zone z).clip } ∧ (d.zone z).clip.front = (c.zone z).clip.front

/-- A route record without its marks and its derived state. -/
def RouteRecord.unmarked (r : RouteRecord) : RouteRecord := { r with state := .parked, heard := false, altered := false }

/-- The front's own routes, and the routes of the lists that the rear port may not change (01 R11). -/
structure RoutesSpared (c d : Cabin) : Prop where
  own : ∀ l k r, (c.route l k).record = some r → r.owner = .front → r.shared = false →
    SameRoute (d.route l k) (c.route l k)
  lists : ∀ l k, rearMayChangeList c l = false → (d.route l k).gen = (c.route l k).gen ∧
    (d.route l k).record.map RouteRecord.unmarked = (c.route l k).record.map RouteRecord.unmarked

/-- A station record without its references and the rear port's kept field. -/
def Station.withoutRear (r : Station) : Station := { r with refs := 0, kept := r.kept.set .rear false }

/-- The live station records stay, but for references and the rear port's kept field (04 R79). -/
def StationsSpared (c d : Cabin) : Prop :=
  ∀ j r, (c.stationSlot j).record = some r → (d.stationSlot j).gen = (c.stationSlot j).gen ∧
    (d.stationSlot j).record.map Station.withoutRear = some r.withoutRear

/-- A call's settings without the headphone listeners (07 R129). -/
def CallRecord.withoutRear (r : CallRecord) : CallRecord :=
  { r.settings with listeners := withoutHeadphones r.listeners }

def CallsSpared (c d : Cabin) : Prop :=
  ∀ j, (d.callSlot j).gen = (c.callSlot j).gen ∧
    (d.callSlot j).record.map CallRecord.withoutRear = (c.callSlot j).record.map CallRecord.withoutRear ∧
    callState d j = callState c j

/-- The fields that only requests from the front port and the part's own events change. -/
structure FrontKept (c d : Cabin) : Prop where
  hold : d.builder.hold = c.builder.hold
  watch : d.table.watch = c.table.watch
  patterns : d.queue.patterns = c.queue.patterns
  ignored : d.queue.ignored = c.queue.ignored
  uplinkGain : d.calls.uplinkGain = c.calls.uplinkGain
  canceller : d.calls.canceller = c.calls.canceller
  part : d.ports.part = c.ports.part
  response : d.ports.response.get .front = c.ports.response.get .front

structure RearSpares (c d : Cabin) : Prop where
  zones : ZonesSpared c d
  routes : RoutesSpared c d
  rearControl : d.dir.rearControl = c.dir.rearControl
  media : d.dir.media = c.dir.media
  stations : StationsSpared c d
  calls : CallsSpared c d
  front : FrontKept c d

/-! ## Zones -/

theorem ZonesSpared.of_zones {c d : Cabin} (h : ∀ z, rearChangeable c z = false → d.zone z = c.zone z) : ZonesSpared c d :=
  fun z hz => by rw [h z hz]; exact ⟨rfl, rfl⟩

theorem ZonesSpared.of_dirZones {c d : Cabin} (h : d.dir.zones = c.dir.zones) : ZonesSpared c d :=
  .of_zones fun z _ => congrArg (fun t => t.get z) h

/-- One zone has changed, and the rear port may change it. -/
theorem ZonesSpared.of_changeable {c d : Cabin} {z : Zone} {e : ZoneEntry} (hz : rearChangeable c z = true)
    (h : ∀ y, d.zone y = if y = z then e else c.zone y) : ZonesSpared c d :=
  .of_zones fun y hy => (h y).trans (if_neg fun he => by rw [he, hz] at hy; cases hy)

/-! ## Routes -/

/-- The access rule opens the slot to the rear port: a free one, or one that holds a record it may change (01 R11). -/
def RearMayUse (c : Cabin) (l : Fin 8) (k : Fin 6) : Prop :=
  rearMayChangeList c l = true ∧ ∀ r, (c.route l k).record = some r → r.owner = .rear ∨ r.shared = true

theorem map_unmarked_of_sameRoute {a b : RouteSlot} (h : SameRoute a b) :
    a.record.map RouteRecord.unmarked = b.record.map RouteRecord.unmarked := by
  have hcomp : RouteRecord.unmarked = RouteRecord.unmarked ∘ fun r => { r with state := .parked } := rfl
  rw [hcomp, ← Option.map_map, ← Option.map_map, h.2]

theorem RoutesSpared.of_open {c d : Cabin} (h : ∀ l k, SameRoute (d.route l k) (c.route l k) ∨ RearMayUse c l k) :
    RoutesSpared c d where
  own l k r hr ho hs := (h l k).resolve_right fun ⟨_, hmay⟩ => by
    rcases hmay r hr with hrear | hshared
    · rw [ho] at hrear; cases hrear
    · rw [hs] at hshared; cases hshared
  lists l k hl := by
    have hsame := (h l k).resolve_right fun ⟨hmay, _⟩ => by rw [hl] at hmay; cases hmay
    exact ⟨hsame.1, map_unmarked_of_sameRoute hsame⟩

theorem RoutesSpared.of_lists {c d : Cabin} (h : d.dir.lists = c.dir.lists) : RoutesSpared c d :=
  .of_open fun l k => .inl (by rw [route_of_lists h]; exact ⟨rfl, rfl⟩)

/-! ## Stations -/

theorem StationsSpared.of_slots {c d : Cabin} (h : d.table.slots = c.table.slots) : StationsSpared c d := fun j r hr => by
  rw [stationSlot_of_slots h, hr]
  exact ⟨rfl, rfl⟩

theorem StationsSpared.of_moved {c d : Cabin} {n m : Fin 40 → Nat}
    (h : ∀ j, d.stationSlot j = StationSlot.moved (n j) (m j) (c.stationSlot j)) : StationsSpared c d := fun j r hr => by
  rw [h]
  simp [StationSlot.moved, hr, Station.withoutRear]

/-! ## Calls -/

theorem CallsSpared.of_slots {c d : Cabin} (h : d.calls.slots = c.calls.slots) : CallsSpared c d := fun j => by
  simp [callState, callSlot_of_slots h]

theorem TonesAside.spared {c d : Cabin} (h : TonesAside c d) : CallsSpared c d := fun j => by
  obtain ⟨hg, hr⟩ := h j
  have hsettings : CallRecord.withoutRear = CallRecord.withoutRear ∘ CallRecord.toneless := rfl
  have hstate : ∀ v : CallSlot, v.record.map CallRecord.state = (v.record.map CallRecord.toneless).map CallRecord.state :=
    fun v => by rw [Option.map_map]; rfl
  refine ⟨hg, ?_, (hstate _).trans ((congrArg _ hr).trans (hstate _).symm)⟩
  rw [hsettings, ← Option.map_map, ← Option.map_map, hr]

/-! ## The relation -/

theorem FrontKept.refl (c : Cabin) : FrontKept c c := by constructor <;> rfl

theorem FrontKept.of_dir (c : Cabin) (d : Directory) : FrontKept c { c with dir := d } := by constructor <;> rfl

theorem FrontKept.of_frame {c d : Cabin} (h : Frame c d) (hwatch : d.table.watch = c.table.watch) : FrontKept c d :=
  ⟨h.hold, hwatch, h.patterns, h.ignored, h.uplinkGain, h.canceller, h.part, by rw [h.response]⟩

/-- Where the directory and the calls stand. -/
theorem RearSpares.of_dir {c d : Cabin} (hdir : d.dir = c.dir) (hstations : StationsSpared c d) (hcalls : CallsSpared c d)
    (hfront : FrontKept c d) : RearSpares c d :=
  ⟨.of_dirZones (by rw [hdir]), .of_lists (by rw [hdir]), by rw [hdir], by rw [hdir], hstations, hcalls, hfront⟩

theorem RearSpares.refl (c : Cabin) : RearSpares c c := .of_dir rfl (.of_slots rfl) (.of_slots rfl) (.refl c)

theorem RearSpares.respond {c d : Cabin} (h : RearSpares c d) (r : Result) (ws : List Word) :
    RearSpares c (respond .rear r ws d) where
  zones := h.zones
  routes := ⟨h.routes.own, h.routes.lists⟩
  rearControl := h.rearControl
  media := h.media
  stations := h.stations
  calls := h.calls
  front := { h.front with response := (PerPort.get_set_ne _ _ _ _ (by decide)).trans h.front.response }

/-- Nothing but a response on the rear port. -/
theorem rearSpares_respond (c : Cabin) (r : Result) (ws : List Word) : RearSpares c (respond .rear r ws c) :=
  (RearSpares.refl c).respond r ws

theorem rearSpares_refuse (c : Cabin) (r : Result) : RearSpares c (refuse .rear r c) := rearSpares_respond c r []

/-- A change of the records that the access rules allow the rear port, with all that follows it. -/
theorem FollowsUp.rearSpares {c d e : Cabin} (h : FollowsUp d e) (hc : RecordsChange c d) (hzones : ZonesSpared c d)
    (hroutes : ∀ l k, d.route l k = c.route l k ∨ RearMayUse c l k) (hrear : d.dir.rearControl = c.dir.rearControl)
    (hmedia : d.dir.media = c.dir.media) {n m : Fin 40 → Nat}
    (hstations : ∀ j, d.stationSlot j = StationSlot.moved (n j) (m j) (c.stationSlot j)) : RearSpares c e where
  zones z hz := by
    have hzone : e.zone z = d.zone z := congrArg (fun t => t.get z) h.zones
    rw [hzone]
    exact hzones z hz
  routes := .of_open fun l k => (hroutes l k).imp_left h.route_other
  rearControl := h.rearControl.trans hrear
  media := h.media.trans hmedia
  stations := .of_moved fun j => (stationSlot_of_slots h.slots j).trans (hstations j)
  calls := (hc.around.trans h.around).calls.spared
  front := .of_frame (hc.around.trans h.around).frame (h.watch.trans hc.watch)

end Sys2Proof.Machine
end

section
/-! SUPPORT. The requests of the rear port on the route directory (01). -/

namespace Sys2Proof.Machine

variable {c : Cabin}

/-! ## Slots that the access rule opens -/

theorem rearMayUse_of_record {l : Fin 8} {k : Fin 6} {r : RouteRecord} (hr : (c.route l k).record = some r)
    (hmay : mayChangeRoute c .rear l r = true) : RearMayUse c l k := by
  obtain ⟨hrecord, hlist⟩ := Bool.and_eq_true_iff.mp hmay
  refine ⟨hlist, fun q hq => ?_⟩
  obtain rfl := Option.some.inj (hr.symm.trans hq)
  simpa using hrecord

theorem rearMayUse_of_free {l : Fin 8} {k : Fin 6} (hfree : (c.route l k).record = none)
    (hlist : rearMayChangeList c l = true) : RearMayUse c l k :=
  ⟨hlist, fun r hr => by rw [hfree] at hr; cases hr⟩

theorem route_same_or_open {d : Cabin} {l : Fin 8} {k : Fin 6} {v : RouteSlot} (hopen : RearMayUse c l k)
    (hroute : ∀ m j, d.route m j = if (m, j) = (l, k) then v else c.route m j) (m : Fin 8) (j : Fin 6) :
    d.route m j = c.route m j ∨ RearMayUse c m j := by
  by_cases h : (m, j) = (l, k)
  · obtain ⟨rfl, rfl⟩ := Prod.mk.inj h
    exact .inr hopen
  · exact .inl ((hroute m j).trans (if_neg h))

/-! ## Changes of one record -/

theorem placeAt_rearSpares (hdef : NoDeferrals c) {l : Fin 8} {k : Fin 6} (hopen : RearMayUse c l k) (r : RouteRecord)
    (b : Bool) : RearSpares c (placeAt .rear l k r b c) := by
  have hstation := placed_stationSlot c l k r
  rw [placeAt_eq, settleAllocator_eq_arbitrate (hdef.of_moved hstation)]
  have hfollow := ((arbitrate_midway (placed l k r c)).settlePlaced l k).testTraffic.settleRoutes
  have hzones : (placed l k r c).dir.zones = c.dir.zones := by simp [placed, addRef_dir]
  exact (hfollow.rearSpares (placed_change ..) (.of_dirZones hzones)
    (route_same_or_open hopen fun m j => placed_route c l m k j r) (by simp [placed, addRef_dir])
    (by simp [placed, addRef_dir]) hstation).respond ..

theorem placeRoute_rearSpares (hdef : NoDeferrals c) (a : PlaceArgs) : RearSpares c (placeRoute .rear a c) := by
  unfold placeRoute
  split
  · exact rearSpares_refuse ..
  · split
    · exact rearSpares_refuse ..
    · split
      · exact rearSpares_refuse ..
      · rename_i f _ _ _ _ hallowed
        split
        · exact rearSpares_refuse ..
        · split
          · exact rearSpares_refuse ..
          · rename_i k hslot
            have hlist : rearMayChangeList c f.list = true := by simpa using fun h => hallowed ⟨rfl, .inl h⟩
            exact placeAt_rearSpares hdef (rearMayUse_of_free (placeSlot_free hslot) hlist) ..

theorem settleInputs_altered_rearSpares (hdef : NoDeferrals c) {l : Fin 8} {k : Fin 6} (hopen : RearMayUse c l k)
    (old new : RouteRecord) : RearSpares c (settleInputs (altered .rear l k old new c)) := by
  have hstation := altered_stationSlot c .rear l k old new
  have hzones : (altered .rear l k old new c).dir.zones = c.dir.zones := by simp [altered, changeRoute, moveRef_dir]
  exact (settleInputs_followsUp (hdef.of_moved hstation)).1.rearSpares (altered_change ..) (.of_dirZones hzones)
    (route_same_or_open hopen fun m j => altered_route c .rear l m k j old new) (by simp [altered, changeRoute, moveRef_dir])
    (by simp [altered, changeRoute, moveRef_dir]) hstation

theorem alterAt_rearSpares (hdef : NoDeferrals c) {l : Fin 8} {k : Fin 6} (hopen : RearMayUse c l k) (r : RouteRecord)
    (src : Source) (a : AlterArgs) : RearSpares c (alterAt .rear l k r src a c) := by
  unfold alterAt
  refine RearSpares.respond ?_ ..
  split
  · exact .refl c
  · exact settleInputs_altered_rearSpares hdef hopen r (alteredRecord r src a)

theorem setPresent_rearSpares (hdef : NoDeferrals c) {l : Fin 8} {k : Fin 6} (hopen : RearMayUse c l k) (r : RouteRecord)
    (v : Bool) : RearSpares c (setPresent .rear l k r v c) := by
  have hsame : altered .rear l k r { r with present := v } c = changeRoute .rear l k r { r with present := v } c := if_pos rfl
  unfold setPresent
  rw [← hsame]
  exact (settleInputs_altered_rearSpares hdef hopen ..).respond ..

theorem alterRoute_rearSpares (hdef : NoDeferrals c) (h : Handle) (a : AlterArgs) : RearSpares c (alterRoute .rear h a c) := by
  unfold alterRoute
  repeat' split
  · exact rearSpares_refuse ..
  · exact rearSpares_refuse ..
  · exact rearSpares_refuse ..
  · exact rearSpares_refuse ..
  · exact rearSpares_refuse ..
  · rename_i l k _ _ _ r hr _ _ _ hdenied _
    have hmay : mayChangeRoute c .rear l r = true := by
      simpa using (Bool.or_eq_false_iff.mp (Bool.eq_false_iff.mpr hdenied)).1
    exact alterAt_rearSpares hdef (rearMayUse_of_record (routeOf_record hr) hmay) ..
  · exact rearSpares_refuse ..

theorem parkRoute_rearSpares (hdef : NoDeferrals c) (h : Handle) : RearSpares c (parkRoute .rear h c) := by
  unfold parkRoute
  repeat' split
  · exact rearSpares_refuse ..
  · exact rearSpares_refuse ..
  · exact rearSpares_refuse ..
  · exact rearSpares_refuse ..
  · rename_i hr hmay _
    exact setPresent_rearSpares hdef (rearMayUse_of_record (routeOf_record hr) (by simpa using hmay)) ..

theorem unparkRoute_rearSpares (hdef : NoDeferrals c) (h : Handle) : RearSpares c (unparkRoute .rear h c) := by
  unfold unparkRoute
  repeat' split
  · exact rearSpares_refuse ..
  · exact rearSpares_refuse ..
  · exact rearSpares_refuse ..
  · exact rearSpares_refuse ..
  · exact rearSpares_refuse ..
  · rename_i hr hmay _ _
    exact setPresent_rearSpares hdef (rearMayUse_of_record (routeOf_record hr) (by simpa using hmay)) ..

/-! ## Retired routes -/

theorem Retires.rearSpares {keys : List (Fin 8 × Fin 6)} {d : Cabin} (h : Retires .rear keys c d) (hdef : NoDeferrals c)
    (hopen : ∀ x ∈ keys, RearMayUse c x.1 x.2) : RearSpares c (settleInputs d) := by
  refine (settleInputs_followsUp (h.noDeferrals hdef)).1.rearSpares h.change (.of_dirZones h.zones) (fun l k => ?_)
    h.rearControl h.media h.stations
  by_cases hx : (l, k) ∈ keys
  · exact .inr (hopen (l, k) hx)
  · exact .inl ((h.routes (l, k)).trans (if_neg hx))

theorem retireRoute_rearSpares (hdef : NoDeferrals c) (h : Handle) : RearSpares c (retireRoute .rear h c) := by
  unfold retireRoute
  repeat' split
  · exact rearSpares_refuse ..
  · exact rearSpares_refuse ..
  · exact rearSpares_refuse ..
  · rename_i l k _ _ r hr hmay
    refine RearSpares.respond ((retireRouteAt_retires (routeOf_record hr)).rearSpares hdef fun x hx => ?_) ..
    obtain rfl := List.mem_singleton.mp hx
    exact rearMayUse_of_record (routeOf_record hr) (by simpa using hmay)

theorem clearableRoutes_rearMayUse {zs : ZoneSet} {x : Fin 8 × Fin 6} (hx : x ∈ clearableRoutes c .rear zs) :
    RearMayUse c x.1 x.2 := by
  rw [clearableRoutes_eq] at hx
  obtain ⟨hrecord, -⟩ := Bool.and_eq_true_iff.mp (List.mem_filter.mp hx).2
  obtain ⟨r, hr, hmay⟩ := (Option.any_eq_true ..).mp hrecord
  exact rearMayUse_of_record hr (Bool.and_eq_true_iff.mp hmay).2

theorem clearZoneRoutes_rearSpares (hdef : NoDeferrals c) (mask : Nat) : RearSpares c (clearZoneRoutes .rear mask c) := by
  unfold clearZoneRoutes
  split
  · exact rearSpares_refuse ..
  · refine RearSpares.respond ?_ ..
    split
    · exact .refl c
    · exact (retireAll_retires (routeKeys_nodup.filter _) fun _ hx => clearableRoutes_occupied hx).rearSpares hdef
        fun _ hx => clearableRoutes_rearMayUse hx

/-! ## Zones -/

theorem ZoneFollows.rearSpares {z : Zone} {e : ZoneEntry} {d : Cabin} (h : ZoneFollows z e c d)
    (hz : rearChangeable c z = true) : RearSpares c d :=
  h.follows.rearSpares h.change (.of_changeable hz (changeZone_zone z e c)) (fun l k => .inl (changeZone_route ..))
    (by simp [changeZone]) (by simp [changeZone]) (n := 0) (m := 0)
    fun j => (stationSlot_of_slots (by simp [changeZone]) j).trans (moved_zero _).symm

theorem SetsZone.rearSpares {z : Zone} {e : ZoneEntry} {d : Cabin} (h : SetsZone z e c d) (hz : rearChangeable c z = true) :
    RearSpares c d := by
  cases h with
  | same _ => exact .refl c
  | changed _ hf => exact hf.rearSpares hz

theorem setZone_rearSpares (hdef : NoDeferrals c) (img : Image) (n : Nat) (a : ZoneArgs) :
    RearSpares c (setZone img .rear n a c) := by
  unfold setZone
  repeat' split
  · exact rearSpares_refuse ..
  · exact rearSpares_refuse ..
  · exact rearSpares_refuse ..
  · rename_i z _ _ hmay
    have hz : mayChangeZone c .rear z = true := by
      simpa using (Bool.or_eq_false_iff.mp (Bool.eq_false_iff.mpr hmay)).1
    exact ((zoneChanged_sets hdef ..).rearSpares hz).respond ..

theorem linkList_rearSpares (hdef : NoDeferrals c) (n : Nat) (m : Option Nat) : RearSpares c (linkList .rear n m c) := by
  unfold linkList
  split
  · split
    · exact rearSpares_refuse ..
    · rename_i z _ _ _ hmay
      have hz : mayChangeZone c .rear z = true := by simpa using hmay
      refine RearSpares.respond ?_ ..
      split
      · exact .refl c
      · exact (settleInputs_zoneFollows hdef ..).rearSpares hz
  · exact rearSpares_refuse ..

theorem readZone_rearSpares (n : Nat) : RearSpares c (readZone .rear n c) := by
  unfold readZone
  split
  · exact rearSpares_refuse ..
  · rename_i z _
    refine RearSpares.respond ?_ ..
    refine ⟨fun y _ => ?_, .of_lists rfl, rfl, rfl, .of_slots rfl, .of_slots rfl, .of_dir c _⟩
    by_cases hy : y = z
    · subst hy
      simp [Cabin.zone, PerPort.set]
    · simp [Cabin.zone, PerZone.get_set_ne _ _ _ _ hy]

/-! ## Marks -/

theorem clearMarks_rearSpares (h : Handle) : RearSpares c (clearMarks .rear h c) := by
  unfold clearMarks
  repeat' split
  · exact rearSpares_refuse ..
  · exact rearSpares_refuse ..
  · exact rearSpares_refuse ..
  · rename_i l k _ _ r hr howner
    have hrecord := routeOf_record hr
    have howner : Port.rear = r.owner := not_not.mp howner
    refine RearSpares.respond ?_ ..
    refine ⟨.of_dirZones rfl, ⟨fun m j q hq ho _ => ?_, fun m j _ => ?_⟩, rfl, rfl, .of_slots rfl, .of_slots rfl,
      .of_dir c _⟩
    · rw [setRouteRecord_route, if_neg]
      · exact ⟨rfl, rfl⟩
      · intro he
        obtain ⟨rfl, rfl⟩ := Prod.mk.inj he
        obtain rfl := Option.some.inj (hrecord.symm.trans hq)
        rw [ho] at howner
        cases howner
    · rw [setRouteRecord_route]
      split
      · rename_i he
        obtain ⟨rfl, rfl⟩ := Prod.mk.inj he
        exact ⟨rfl, by rw [hrecord]; rfl⟩
      · exact ⟨rfl, rfl⟩

theorem readRoute_rearSpares (h : Handle) : RearSpares c (readRoute .rear h c) := by
  unfold readRoute
  repeat' split
  · exact rearSpares_refuse ..
  · exact rearSpares_refuse ..
  · exact rearSpares_respond ..

theorem grantRearControl_rearSpares (n : Nat) : RearSpares c (grantRearControl .rear n c) := by
  unfold grantRearControl
  split
  · exact rearSpares_refuse ..
  · rw [if_pos rfl]
    exact rearSpares_refuse ..

theorem mediaState_rearSpares (m0 m1 m2 m3 : Option Nat) : RearSpares c (mediaState .rear m0 m1 m2 m3 c) := by
  unfold mediaState
  split
  · exact rearSpares_refuse ..
  · rw [if_pos rfl]
    exact rearSpares_refuse ..

end Sys2Proof.Machine
end

section
/-! SUPPORT. The other requests of the rear port, and what none of them changes (01 R4, R11, 10.3). -/

namespace Sys2Proof.Machine

variable {c : Cabin}

/-! ## Hold (03) -/

theorem enterHold_rearSpares : RearSpares c (enterHold .rear c) := by
  unfold enterHold
  rw [if_pos rfl]
  exact rearSpares_refuse ..

theorem releaseHold_rearSpares : RearSpares c (releaseHold .rear c) := by
  unfold releaseHold
  rw [if_pos rfl]
  exact rearSpares_refuse ..

/-! ## Stations (04) -/

theorem readStation_rearSpares (h : Handle) : RearSpares c (readStation .rear h c) := by
  unfold readStation
  repeat' split
  · exact rearSpares_refuse ..
  · exact rearSpares_refuse ..
  · exact rearSpares_respond ..

theorem setKept_rearSpares (i : Fin 40) (v : Bool) : RearSpares c (setKept .rear i v c) := by
  refine .of_dir (by simp [setKept]) (fun j r hr => ?_) (.of_slots (by simp [setKept])) (by constructor <;> simp [setKept])
  rw [setKept, modifyStation_stationSlot]
  split
  · simp [hr, Station.withoutRear, PerPort.set]
  · simp [hr]

theorem keepStation_rearSpares (v : Bool) (h : Handle) : RearSpares c (keepStation v .rear h c) := by
  unfold keepStation
  repeat' split
  · exact rearSpares_refuse ..
  · exact rearSpares_refuse ..
  · exact (setKept_rearSpares ..).respond ..

theorem createStation_rearSpares {i : Fin 40} (hfree : (c.stationSlot i).record = none) (r : Station) :
    RearSpares c (createStation i r c) := by
  refine .of_dir (by simp [createStation, setStationSlot]) (fun j q hq => ?_)
    (.of_slots (by simp [createStation, setStationSlot])) (by constructor <;> simp [createStation, setStationSlot])
  have hslot : (createStation i r c).stationSlot j = c.stationSlot j := by
    refine (stationSlot_of_slots (by rw [createStation, postBoth_table]) j).trans
      ((setStationSlot_stationSlot ..).trans (if_neg fun he => ?_))
    rw [he, hfree] at hq
    cases hq
  rw [hslot, hq]
  exact ⟨rfl, rfl⟩

theorem addStation_rearSpares (b : Nat) (n : Int) : RearSpares c (addStation .rear b n c) := by
  unfold addStation addStationAt
  repeat' split
  · exact rearSpares_refuse ..
  · exact rearSpares_respond ..
  · exact rearSpares_refuse ..
  · exact (createStation_rearSpares (freeStationSlot_free ‹_›) _).respond ..

theorem walkStations_rearSpares (n : Int) (mode : Nat) : RearSpares c (walkStations .rear n mode c) := by
  unfold walkStations
  split
  · exact rearSpares_refuse ..
  · refine RearSpares.respond ?_ ..
    exact .of_dir rfl (.of_slots rfl) (.of_slots rfl) (by constructor <;> rfl)

theorem retireStation_rearSpares (h : Handle) : RearSpares c (retireStation .rear h c) := by
  unfold retireStation
  split
  · exact rearSpares_refuse ..
  · split
    · exact rearSpares_refuse ..
    · rw [if_pos rfl]
      exact rearSpares_refuse ..

theorem setTrafficWatch_rearSpares (h : Option Handle) (n : Int) : RearSpares c (setTrafficWatch .rear h n c) := by
  unfold setTrafficWatch
  split
  · rw [if_pos rfl]
    exact rearSpares_refuse ..
  · split
    · exact rearSpares_refuse ..
    · split
      · exact rearSpares_refuse ..
      · rw [if_pos rfl]
        exact rearSpares_refuse ..

/-! ## Announcements (06) -/

theorem startChime_rearSpares (n : Nat) (t : Option Nat) : RearSpares c (startChime .rear n t c) := by
  unfold startChime
  split
  · exact rearSpares_refuse ..
  · split
    · exact rearSpares_refuse ..
    · rw [if_pos rfl]
      exact rearSpares_refuse ..

theorem cancelAnnouncement_rearSpares (h : Handle) : RearSpares c (cancelAnnouncement .rear h c) := by
  unfold cancelAnnouncement
  split
  · exact rearSpares_refuse ..
  · split
    · exact rearSpares_refuse ..
    · rw [if_pos rfl]
      exact rearSpares_refuse ..

theorem startNav_rearSpares (t : Nat) : RearSpares c (startNav .rear t c) := by
  unfold startNav
  split
  · exact rearSpares_refuse ..
  · rw [if_pos rfl]
    exact rearSpares_refuse ..

theorem keepNav_rearSpares : RearSpares c (keepNav .rear c) := by
  unfold keepNav
  rw [if_pos rfl]
  exact rearSpares_refuse ..

theorem endNav_rearSpares : RearSpares c (endNav .rear c) := by
  unfold endNav
  rw [if_pos rfl]
  exact rearSpares_refuse ..

theorem setPattern_rearSpares (n : Nat) (a : PatternArgs) : RearSpares c (setPattern .rear n a c) := by
  unfold setPattern
  split
  · exact rearSpares_refuse ..
  · split
    · rw [if_pos rfl]
      exact rearSpares_refuse ..
    · exact rearSpares_refuse ..

theorem readPattern_rearSpares (n : Nat) : RearSpares c (readPattern .rear n c) := by
  unfold readPattern
  split
  · exact rearSpares_refuse ..
  · exact rearSpares_respond ..

/-! ## Calls (07) -/

theorem onCall_rearSpares (h : Handle) (k : Fin 2 → CallRecord → Cabin → Cabin) : RearSpares c (onCall .rear h k c) := by
  unfold onCall
  split
  · exact rearSpares_refuse ..
  · split
    · exact rearSpares_refuse ..
    · rw [if_pos rfl]
      exact rearSpares_refuse ..

theorem openCall_rearSpares (a : OpenArgs) : RearSpares c (openCall .rear a c) := by
  unfold openCall
  split
  · rw [if_pos rfl]
    exact rearSpares_refuse ..
  · exact rearSpares_refuse ..

theorem setListeners_rearSpares (h : Handle) (zs : Nat) : RearSpares c (setListeners .rear h zs c) := by
  unfold setListeners
  split
  · exact rearSpares_refuse ..
  · exact onCall_rearSpares ..

theorem setCall_rearSpares (h : Handle) (a : CallArgs) : RearSpares c (setCall .rear h a c) := by
  unfold setCall
  split
  · exact onCall_rearSpares ..
  · exact rearSpares_refuse ..

theorem setUplinkGain_rearSpares (n : Int) : RearSpares c (setUplinkGain .rear n c) := by
  unfold setUplinkGain
  rw [if_pos rfl]
  exact rearSpares_refuse ..

theorem putCall_callSlot (i j : Fin 2) (v : CallSlot) :
    (putCall i v c).callSlot j = if j = i then v else c.callSlot j := by
  unfold putCall
  split
  · rename_i h
    split
    · rename_i hj
      rw [hj, h]
    · rfl
  · rw [callSlot_of_slots (c := setCallSlot i v c) (by simp)]
    simp [Cabin.callSlot, setCallSlot, Tab.get_set]

/-- The RING entry of a call is all that follows its listeners (07 R127). -/
theorem followListeners_eq (i : Fin 2) (c : Cabin) :
    followListeners i c = c ∨ ∃ k g, followListeners i c = modifyEntry k g c := by
  unfold followListeners
  repeat' split
  · exact .inl rfl
  · exact .inl rfl
  · exact .inl rfl
  · exact .inr ⟨_, _, rfl⟩
  · exact .inl rfl

theorem changeCall_callSlot {i : Fin 2} {r : CallRecord} (hr : (c.callSlot i).record = some r) (new : CallRecord)
    (j : Fin 2) : (changeCall i new c).callSlot j = if j = i then ⟨(c.callSlot i).gen, some new⟩ else c.callSlot j := by
  have hput : modifyCall i (fun _ => new) c = putCall i ⟨(c.callSlot i).gen, some new⟩ c := by simp [modifyCall, hr]
  rw [changeCall, callSlot_of_slots (congrArg Calls.slots (refreshSound_calls _)), hput, ← putCall_callSlot]
  rcases followListeners_eq i (putCall i ⟨(c.callSlot i).gen, some new⟩ c) with h | ⟨k, g, h⟩
  · rw [h]
  · rw [h]
    exact callSlot_of_slots (congrArg Calls.slots (modifyEntry_calls _ k g)) j

theorem changeCall_frontKept (i : Fin 2) (r : CallRecord) : FrontKept c (changeCall i r c) := by
  unfold changeCall
  rcases followListeners_eq i (modifyCall i (fun _ => r) c) with h | ⟨k, g, h⟩
  · rw [h]
    constructor <;> simp
  · rw [h]
    constructor <;> simp

theorem withoutHeadphones_set {z : Zone} (hz : headphoneZone z = true) (l : ZoneSet) (v : Bool) :
    withoutHeadphones (l.set z v) = withoutHeadphones l := by
  cases z with
  | z0 | z1 | z2 => cases hz
  | z3 | z4 => rfl

theorem changeListener_rearSpares {i : Fin 2} {r : CallRecord} {z : Zone} (hr : (c.callSlot i).record = some r)
    (hz : headphoneZone z = true) (v : Bool) :
    RearSpares c (changeCall i { r with listeners := r.listeners.set z v } c) := by
  obtain ⟨hdir, hslots, -⟩ := apart_changeCall c i { r with listeners := r.listeners.set z v }
  refine .of_dir hdir (.of_slots hslots) (fun j => ?_) (changeCall_frontKept ..)
  have hslot := changeCall_callSlot hr { r with listeners := r.listeners.set z v } j
  simp only [callState, hslot]
  split
  · rename_i hj
    subst hj
    simp [hr, CallRecord.withoutRear, CallRecord.settings, withoutHeadphones_set hz]
  · exact ⟨rfl, rfl, rfl⟩

theorem onRearCall_rearSpares {h : Handle} {n : Nat} {k : Zone → Fin 2 → CallRecord → Cabin → Cabin}
    (hk : ∀ z i r, (c.callSlot i).record = some r → headphoneZone z = true → RearSpares c (k z i r c)) :
    RearSpares c (onRearCall .rear h n k c) := by
  unfold onRearCall
  repeat' split
  · exact rearSpares_refuse ..
  · exact rearSpares_refuse ..
  · rename_i r hcall hzone
    refine hk _ _ r ?_ (by simpa using hzone)
    unfold callOf at hcall
    split at hcall
    · exact hcall
    · cases hcall
  · exact rearSpares_refuse ..

theorem joinCall_rearSpares (h : Handle) (n : Nat) : RearSpares c (joinCall .rear h n c) :=
  onRearCall_rearSpares fun z i r hr hz => by
    unfold joinAt
    repeat' split
    · exact rearSpares_refuse ..
    · exact rearSpares_refuse ..
    · exact (changeListener_rearSpares hr hz true).respond ..

theorem leaveCall_rearSpares (h : Handle) (n : Nat) : RearSpares c (leaveCall .rear h n c) :=
  onRearCall_rearSpares fun _ _ _ hr hz => (changeListener_rearSpares hr hz false).respond ..

theorem readCall_rearSpares (h : Handle) : RearSpares c (readCall .rear h c) := by
  unfold readCall
  repeat' split
  · exact rearSpares_refuse ..
  · exact rearSpares_refuse ..
  · exact rearSpares_refuse ..
  · exact rearSpares_respond ..

/-! ## The control ports (10) -/

theorem readEvents_rearSpares : RearSpares c (readEvents .rear c) := by
  refine RearSpares.respond ?_ ..
  exact .of_dir rfl (.of_slots rfl) (.of_slots rfl) (by constructor <;> rfl)

theorem relaySend_rearSpares (w : Word) : RearSpares c (relaySend .rear w c) := by
  unfold relaySend
  split
  · exact rearSpares_refuse ..
  · refine RearSpares.respond ?_ ..
    exact .of_dir (by simp) (.of_slots (by simp)) (.of_slots (by simp)) (by constructor <;> simp)

theorem relayTake_rearSpares : RearSpares c (relayTake .rear c) := by
  unfold relayTake
  split
  · exact rearSpares_refuse ..
  · refine RearSpares.respond ?_ ..
    exact .of_dir (by simp) (.of_slots (by simp)) (.of_slots (by simp)) (by constructor <;> simp)

end Sys2Proof.Machine
end

section
/-! SUPPORT. Every request of the rear port, command by command (01 R4, R11, 10.3). -/

namespace Sys2Proof.Machine

/-- The state as a request of the rear port leaves it. -/
structure Spares (s t : State) : Prop where
  cab : RearSpares s.cab t.cab
  outside : KeptOutside s t

theorem spares_onCab {s : State} {f : Cabin → Cabin} (h : RearSpares s.cab (f s.cab)) : Spares s (s.onCab f) :=
  ⟨h, rfl, rfl, rfl, rfl⟩

/-- A part that is not running answers BUSY, or nothing (10 R161). -/
theorem spares_takeRequest {s : State} {k : State → State} (h : Spares s (k s)) : Spares s (takeRequest .rear k s) := by
  unfold takeRequest
  split
  · exact ⟨.refl _, rfl, rfl, rfl, rfl⟩
  · exact spares_onCab (rearSpares_refuse ..)
  · exact spares_onCab (rearSpares_refuse ..)
  · exact h

theorem spares_cabRequest {s : State} {k : Cabin → Cabin} (h : RearSpares s.cab (k s.cab)) :
    Spares s (cabRequest .rear k s) := spares_takeRequest (spares_onCab h)

/-! ## Requests on the ring and the supply, which the front alone may make (08, 09, 10 R166) -/

section Outside

variable (s : State)

theorem spares_refused (r : Result) : Spares s (s.onCab (refuse .rear r)) := spares_onCab (rearSpares_refuse ..)

theorem systemMute_spares (n : Nat) : Spares s (systemMute .rear n s) := by
  unfold systemMute
  split
  · exact spares_refused ..
  · rw [if_pos rfl]
    exact spares_refused ..

theorem readNode_spares (n : Nat) : Spares s (readNode .rear n s) := by
  unfold readNode
  split
  · exact spares_refused ..
  · rw [if_pos rfl]
    exact spares_refused ..

theorem restartNode_spares (n : Nat) : Spares s (restartNode .rear n s) := by
  unfold restartNode
  split
  · exact spares_refused ..
  · rw [if_pos rfl]
    exact spares_refused ..

theorem expectDip_spares : Spares s (expectDip .rear s) := by
  unfold expectDip
  rw [if_pos rfl]
  exact spares_refused ..

theorem liteReset_spares : Spares s (liteReset .rear s) := by
  unfold liteReset
  rw [if_pos rfl]
  exact spares_refused ..

end Outside

/-! ## Every request -/

theorem request_spares {i : Instr} {s t : State} (hi : requestPort i = some .rear) (hdef : NoDeferrals s.cab)
    (ht : exec i s = .next t) : Spares s t := by
  cases i <;> cases hi <;> cases ht
  case unknownRequest => exact spares_cabRequest (rearSpares_refuse ..)
  case placeRoute a => exact spares_cabRequest (placeRoute_rearSpares hdef a)
  case alterRoute h a => exact spares_cabRequest (alterRoute_rearSpares hdef h a)
  case park h => exact spares_cabRequest (parkRoute_rearSpares hdef h)
  case unpark h => exact spares_cabRequest (unparkRoute_rearSpares hdef h)
  case retireRoute h => exact spares_cabRequest (retireRoute_rearSpares hdef h)
  case readRoute h => exact spares_cabRequest (readRoute_rearSpares h)
  case clearMarks h => exact spares_cabRequest (clearMarks_rearSpares h)
  case setZone n a => exact spares_cabRequest (setZone_rearSpares hdef _ n a)
  case readZone n => exact spares_cabRequest (readZone_rearSpares n)
  case linkList n m => exact spares_cabRequest (linkList_rearSpares hdef n m)
  case grantRearControl n => exact spares_cabRequest (grantRearControl_rearSpares n)
  case clearZoneRoutes zs => exact spares_cabRequest (clearZoneRoutes_rearSpares hdef zs)
  case mediaState => exact spares_cabRequest (mediaState_rearSpares ..)
  case enterHold => exact spares_cabRequest enterHold_rearSpares
  case releaseHold => exact spares_cabRequest releaseHold_rearSpares
  case readStation h => exact spares_cabRequest (readStation_rearSpares h)
  case walkStations n mode => exact spares_cabRequest (walkStations_rearSpares n mode)
  case addStation b n => exact spares_cabRequest (addStation_rearSpares b n)
  case keep h => exact spares_cabRequest (keepStation_rearSpares true h)
  case unkeep h => exact spares_cabRequest (keepStation_rearSpares false h)
  case retireStation h => exact spares_cabRequest (retireStation_rearSpares h)
  case setTrafficWatch h n => exact spares_cabRequest (setTrafficWatch_rearSpares h n)
  case readReception => exact spares_cabRequest (rearSpares_respond ..)
  case startChime n zs => exact spares_cabRequest (startChime_rearSpares n zs)
  case cancelAnnouncement h => exact spares_cabRequest (cancelAnnouncement_rearSpares h)
  case startNav zs => exact spares_cabRequest (startNav_rearSpares zs)
  case keepNav => exact spares_cabRequest keepNav_rearSpares
  case endNav => exact spares_cabRequest endNav_rearSpares
  case setPattern n a => exact spares_cabRequest (setPattern_rearSpares n a)
  case readPattern n => exact spares_cabRequest (readPattern_rearSpares n)
  case readAnnouncements => exact spares_cabRequest (rearSpares_respond ..)
  case openCall a => exact spares_cabRequest (openCall_rearSpares a)
  case answer h => exact spares_cabRequest (onCall_rearSpares h _)
  case holdCall h => exact spares_cabRequest (onCall_rearSpares h _)
  case resume h => exact spares_cabRequest (onCall_rearSpares h _)
  case endCall h => exact spares_cabRequest (onCall_rearSpares h _)
  case setListeners h zs => exact spares_cabRequest (setListeners_rearSpares h zs)
  case setCall h a => exact spares_cabRequest (setCall_rearSpares h a)
  case setUplinkGain n => exact spares_cabRequest (setUplinkGain_rearSpares n)
  case joinCall h n => exact spares_cabRequest (joinCall_rearSpares h n)
  case leaveCall h n => exact spares_cabRequest (leaveCall_rearSpares h n)
  case readCall h => exact spares_cabRequest (readCall_rearSpares h)
  case readEvents => exact spares_cabRequest readEvents_rearSpares
  case relaySend w => exact spares_cabRequest (relaySend_rearSpares w)
  case relayTake => exact spares_cabRequest relayTake_rearSpares
  case readRing => exact spares_takeRequest (spares_onCab (rearSpares_respond ..))
  case readNode n => exact spares_takeRequest (readNode_spares s n)
  case restartNode n => exact spares_takeRequest (restartNode_spares s n)
  case systemMute n => exact spares_takeRequest (systemMute_spares s n)
  case expectDip => exact spares_takeRequest (expectDip_spares s)
  case liteReset => exact spares_takeRequest (liteReset_spares s)

/-- Settles O59: each request of the rear port spares what is not the rear's, by the access rules or by its refusal. -/
theorem theRearPortCannotChange : Obligations.TheRearPortCannotChange := by
  intro i s t hi hdef ht
  obtain ⟨h, hout⟩ := request_spares hi hdef ht
  exact ⟨h.zones, h.routes.own, h.routes.lists, h.rearControl, h.media, h.front.hold, h.front.watch, h.front.patterns,
    h.front.ignored, h.stations, h.calls, h.front.uplinkGain, h.front.canceller, h.front.part, h.front.response, hout⟩

end Sys2Proof.Machine
end

section
/-! SUPPORT. The numbers of the mix engine (02 R25, R32, 03 R48): what the overlays of a zone are after its duck state
is taken, how many departing contributions a trim leaves, and how an operation keeps both within their numbers. -/

namespace Sys2Proof.Machine

/-! ## Trimming departing contributions (02 R32, 03 R48) -/

theorem lowestLevel_mem {α : Type} (lvl : α → Level) {l : List α} (h : l ≠ []) : ∃ x ∈ l, lvl x = lowestLevel lvl l := by
  cases l with
  | nil => exact absurd rfl h
  | cons x xs =>
    have hfold : ∀ (ys : List α) (m : Level), ys.foldl (fun m y => if (lvl y).lt m then lvl y else m) m = m ∨
        ∃ y ∈ ys, lvl y = ys.foldl (fun m y => if (lvl y).lt m then lvl y else m) m := by
      intro ys
      induction ys with
      | nil => exact fun m => .inl rfl
      | cons y ys ih =>
        intro m
        obtain h | ⟨z, hz, h⟩ := ih (if (lvl y).lt m then lvl y else m)
        · rw [List.foldl_cons, h]
          split
          · exact .inr ⟨y, List.mem_cons_self, rfl⟩
          · exact .inl rfl
        · exact .inr ⟨z, List.mem_cons_of_mem y hz, h⟩
    obtain h | ⟨y, hy, h⟩ := hfold xs (lvl x)
    · exact ⟨x, List.mem_cons_self, h.symm⟩
    · exact ⟨y, List.mem_cons_of_mem x hy, h⟩

@[simp] theorem dropLowest_length {α : Type} (lvl : α → Level) (l : List α) : (dropLowest lvl l).length = l.length - 1 := by
  cases l with
  | nil => rfl
  | cons x xs =>
    obtain ⟨y, hy, h⟩ := lowestLevel_mem lvl (List.cons_ne_nil x xs)
    exact List.length_eraseP_of_mem hy (by simpa using h)

/-- A trim leaves no more than there is room for, and drops nothing where there is room for all. -/
@[simp] theorem trimTo_length {α : Type} (lvl : α → Level) (room : Nat) (l : List α) :
    (trimTo lvl room l).length = min room l.length := by
  have hdrop : ∀ n (l : List α), ((dropLowest lvl)^[n] l).length = l.length - n := by
    intro n
    induction n with
    | zero => exact fun l => rfl
    | succ n ih => intro l; rw [Function.iterate_succ_apply, ih, dropLowest_length]; omega
  rw [trimTo, hdrop]
  omega

/-! ## Overlays (02 R32) -/

/-- The keys of the overlays of a zone that are not departing. -/
def MixZone.keys (m : MixZone) : List OverlayKey := m.overlays.map (·.key)

theorem wantedOverlays_nodup (present : Bool) (m : MixZone) : (wantedOverlays present m).Nodup := by
  unfold wantedOverlays
  split
  · cases m.audible <;> cases m.listened <;> simp
  · exact List.nodup_nil

theorem wantedOverlays_length (present : Bool) (m : MixZone) : (wantedOverlays present m).length ≤ 2 := by
  unfold wantedOverlays
  split
  · cases m.audible <;> cases m.listened <;> simp
  · exact Nat.zero_le 2

/-- An overlay is entered behind the others, unless it is there already. -/
theorem enterOverlay_keys (k : OverlayKey) (m : MixZone) :
    (enterOverlay k m).keys = if k ∈ m.keys then m.keys else m.keys ++ [k] := by
  have hany : (m.overlays.any fun o => decide (o.key = k)) = decide (k ∈ m.keys) := by
    rw [Bool.eq_iff_iff]
    simp [MixZone.keys]
  unfold enterOverlay
  rw [hany]
  by_cases hk : k ∈ m.keys
  · simp [hk]
  · simp only [hk, decide_false, Bool.false_eq_true, if_false]
    split
    · rename_i o ho
      have hkey : o.key = k := by simpa using List.find?_some ho
      simp [MixZone.keys, hkey]
    · simp [MixZone.keys]

theorem enterOverlay_keys_nodup {k : OverlayKey} {m : MixZone} (h : m.keys.Nodup) : (enterOverlay k m).keys.Nodup := by
  rw [enterOverlay_keys]
  split
  · exact h
  · rename_i hk
    exact List.nodup_append.mpr ⟨h, List.nodup_singleton k, fun a ha b hb => by
      rintro rfl
      exact hk (List.mem_singleton.mp hb ▸ ha)⟩

theorem enterOverlay_keys_subset {k : OverlayKey} {m : MixZone} {l : List OverlayKey} (h : m.keys ⊆ l) (hk : k ∈ l) :
    (enterOverlay k m).keys ⊆ l := by
  rw [enterOverlay_keys]
  split
  · exact h
  · exact List.append_subset.mpr ⟨h, by simpa using hk⟩

/-- Entering some of the wanted overlays keeps the keys distinct and among the wanted ones. -/
theorem enterOverlays_keys {l ks : List OverlayKey} (hks : ks ⊆ l) {m : MixZone} (hn : m.keys.Nodup) (hs : m.keys ⊆ l) :
    (ks.foldl (fun m k => enterOverlay k m) m).keys.Nodup ∧ (ks.foldl (fun m k => enterOverlay k m) m).keys ⊆ l := by
  induction ks generalizing m with
  | nil => exact ⟨hn, hs⟩
  | cons k ks ih =>
    obtain ⟨hk, hks⟩ := List.cons_subset.mp hks
    exact ih hks (enterOverlay_keys_nodup hn) (enterOverlay_keys_subset hs hk)

theorem updateOverlays_keys {m : MixZone} (present : Bool) (h : m.keys.Nodup) :
    (updateOverlays present m).keys.Nodup ∧ (updateOverlays present m).keys ⊆ wantedOverlays present m := by
  refine enterOverlays_keys (List.Subset.refl _) (List.Nodup.sublist ?_ h) fun k hk => ?_
  · exact (List.filter_sublist).map _
  · obtain ⟨o, ho, rfl⟩ := List.mem_map.mp hk
    exact List.contains_iff_mem.mp (List.mem_filter.mp ho).2

theorem updateOverlays_overlays_length {m : MixZone} (present : Bool) (h : m.keys.Nodup) :
    (updateOverlays present m).overlays.length ≤ 2 := by
  obtain ⟨hn, hs⟩ := updateOverlays_keys present h
  have hlen := (hn.subperm hs).length_le
  have hwanted := wantedOverlays_length present m
  simp only [MixZone.keys, List.length_map] at hlen
  omega

theorem updateOverlays_length {m : MixZone} (present : Bool) (h : m.keys.Nodup) :
    (updateOverlays present m).overlays.length + (updateOverlays present m).leavingOverlays.length ≤ 10 := by
  have hlen := updateOverlays_overlays_length present h
  simp only [updateOverlays, trimTo_length] at hlen ⊢
  omega

/-! ## Keeping the numbers -/

/-- A zone of the mix engine is within its numbers. -/
def MixZone.Fits (m : MixZone) : Prop :=
  m.routes.length ≤ 6 ∧ m.routes.length + m.leaving.length ≤ 16 ∧ m.overlays.length ≤ 2 ∧
    m.overlays.length + m.leavingOverlays.length ≤ 10

/-- A build in flight is within its numbers. -/
def JobFits (j : Option BuildJob) : Prop := ∀ b ∈ j, b.shares.length ≤ 6

theorem mixFits_iff (c : Cabin) : MixFits c ↔ (∀ z, (c.mixZone z).Fits) ∧ JobFits c.builder.job := Iff.rfl

/-- What the numbers of the mix are read of: the zones of the mix engine and the build in flight. -/
def Cabin.mixing (c : Cabin) : PerZone MixZone × Option BuildJob := (c.mix.zones, c.builder.job)

/-- Distinct overlay keys stay distinct, and within that the numbers are kept. -/
structure KeepsMix (c d : Cabin) : Prop where
  keeps : OverlaysDiffer c → OverlaysDiffer d ∧ (MixFits c → MixFits d)

/-- The same for one zone. -/
def KeepsZone (m n : MixZone) : Prop := m.keys.Nodup → n.keys.Nodup ∧ (m.Fits → n.Fits)

/-- Contributions and overlays stay as many or become fewer, with the keys they had. -/
theorem KeepsZone.of_lengths {m n : MixZone} (hr : n.routes.length = m.routes.length)
    (hl : n.leaving.length ≤ m.leaving.length) (hk : n.keys = m.keys)
    (ho : n.leavingOverlays.length ≤ m.leavingOverlays.length) : KeepsZone m n := by
  refine fun hn => ⟨hk ▸ hn, fun ⟨h1, h2, h3, h4⟩ => ?_⟩
  have hlen : n.overlays.length = m.overlays.length := by simpa [MixZone.keys] using congrArg List.length hk
  exact ⟨by omega, by omega, by omega, by omega⟩

theorem KeepsMix.refl (c : Cabin) : KeepsMix c c := ⟨fun h => ⟨h, id⟩⟩

theorem KeepsMix.trans {c d e : Cabin} (h : KeepsMix c d) (g : KeepsMix d e) : KeepsMix c e where
  keeps hc :=
    have hd := h.keeps hc
    have he := g.keeps hd.1
    ⟨he.1, he.2 ∘ hd.2⟩

theorem KeepsMix.of_zones {c d : Cabin} (hz : ∀ z, KeepsZone (c.mixZone z) (d.mixZone z))
    (hj : JobFits c.builder.job → JobFits d.builder.job) : KeepsMix c d where
  keeps h := ⟨fun z => (hz z (h z)).1, fun ⟨hfit, hjob⟩ => ⟨fun z => (hz z (h z)).2 (hfit z), hj hjob⟩⟩

section Operations
variable {c d e : Cabin}

/-- What leaves the mix as it was comes last and keeps it. -/
theorem KeepsMix.same (h : KeepsMix c d) (he : e.mixing = d.mixing) : KeepsMix c e := by
  obtain ⟨hz, hj⟩ := Prod.mk.inj he
  refine h.trans (.of_zones (fun z => ?_) (by rw [hj]; exact id))
  rw [mixZone_of_zones hz]
  exact fun hn => ⟨hn, id⟩

theorem KeepsMix.of_mixing (h : d.mixing = c.mixing) : KeepsMix c d := (KeepsMix.refl c).same h

theorem KeepsMix.onCab {s : State} {f : Cabin → Cabin} (h : KeepsMix s.cab (f s.cab)) : KeepsMix s.cab (s.onCab f).cab := h

theorem KeepsMix.respond (h : KeepsMix c d) (p : Port) (r : Result) (ws : List Word) : KeepsMix c (respond p r ws d) :=
  h.same rfl

theorem KeepsMix.refuse (h : KeepsMix c d) (p : Port) (r : Result) : KeepsMix c (refuse p r d) := h.same rfl

theorem KeepsMix.post (h : KeepsMix c d) (p : Port) (k : EventKind) : KeepsMix c (post p k d) :=
  h.same (by simp [Cabin.mixing])

theorem KeepsMix.postBoth (h : KeepsMix c d) (k : EventKind) : KeepsMix c (postBoth k d) := (h.post ..).post ..

/-- A fold of operations that keep the numbers keeps them. -/
theorem KeepsMix.foldl {α : Type} {f : Cabin → α → Cabin} (hf : ∀ d a, KeepsMix d (f d a)) (h : KeepsMix c d)
    (l : List α) : KeepsMix c (l.foldl f d) := by
  induction l generalizing d with
  | nil => exact h
  | cons a l ih => exact ih (h.trans (hf d a))

theorem KeepsMix.eachIdx {n : Nat} {f : Fin n → Cabin → Cabin} (hf : ∀ i d, KeepsMix d (f i d)) (h : KeepsMix c d) :
    KeepsMix c (eachIdx n f d) := h.foldl (fun d i => hf i d) _

/-! ## The duck state, the contributions and the builder -/

theorem mapMixZones_mixZone (f : Zone → MixZone → MixZone) (c : Cabin) (z : Zone) :
    (mapMixZones f c).mixZone z = f z (c.mixZone z) := by simp [mapMixZones, Cabin.mixZone]

theorem KeepsMix.mapMixZones (h : KeepsMix c d) {f : Zone → MixZone → MixZone} (hf : ∀ z m, KeepsZone m (f z m)) :
    KeepsMix c (mapMixZones f d) :=
  h.trans (.of_zones (fun z => by rw [mapMixZones_mixZone]; exact hf z _) id)

theorem refreshMixZone_keeps (c : Cabin) (z : Zone) (m : MixZone) : KeepsZone m (refreshMixZone c z m) := by
  intro hn
  unfold refreshMixZone
  set n : MixZone := { m with audible := audibleEntry c z, listened := listenedCall c z }
  obtain ⟨-, hr, hl⟩ := updateOverlays_shares (c.zone z).present n
  refine ⟨(updateOverlays_keys (m := n) _ hn).1, fun ⟨hroutes, hall, _, _⟩ => ?_⟩
  refine ⟨by rwa [hr], by rwa [hr, hl], ?_, ?_⟩
  · exact updateOverlays_overlays_length (m := n) _ hn
  · exact updateOverlays_length (m := n) _ hn

theorem KeepsMix.refreshSound (h : KeepsMix c d) : KeepsMix c (refreshSound d) := by
  have hduck : KeepsMix c (refreshDuck d) :=
    (h.mapMixZones (refreshMixZone_keeps d)).same (by simp [refreshDuck, Cabin.mixing])
  exact hduck.same (by simp [Machine.refreshSound, Cabin.mixing])

theorem KeepsMix.mapShares (h : KeepsMix c d) (f : RouteShare → RouteShare) : KeepsMix c (mapShares f d) :=
  h.mapMixZones fun _ _ => .of_lengths (by simp) (by simp) rfl (Nat.le_refl _)

theorem KeepsMix.rederiveRoutes (h : KeepsMix c d) : KeepsMix c (rederiveRoutes d) :=
  (h.foldl (fun d x => (KeepsMix.refl d).same (by simp [Cabin.mixing])) _).mapShares _

theorem builtShares_length (c : Cabin) (z : Zone) : (builtShares c z).length ≤ 6 := by
  unfold builtShares
  split
  · split
    · exact Nat.zero_le 6
    · exact (List.length_filterMap_le _ _).trans (by simp)
  · exact Nat.zero_le 6

theorem KeepsMix.startBuild (h : KeepsMix c d) : KeepsMix c (startBuild d) := by
  unfold Machine.startBuild
  split
  · split
    · exact h
    · rename_i z _
      refine h.trans (.of_zones (fun _ hn => ⟨hn, id⟩) fun _ b hb => ?_)
      obtain rfl := Option.mem_some.mp hb
      exact builtShares_length d z
  · exact h

theorem KeepsMix.settleRoutes (h : KeepsMix c d) : KeepsMix c (settleRoutes d) := h.rederiveRoutes.refreshSound.startBuild

theorem KeepsMix.settleStates (h : KeepsMix c d) : KeepsMix c (settleStates d) := h.rederiveRoutes.startBuild

theorem KeepsMix.orphanRoute (h : KeepsMix c d) (r : RouteId) : KeepsMix c (orphanRoute r d) := by
  refine (h.mapShares _).trans (.of_zones (fun _ hn => ⟨hn, id⟩) fun hj b hb => ?_)
  obtain ⟨j, hjob, rfl⟩ := Option.map_eq_some_iff.mp hb
  simpa using hj j hjob

/-! ## The announcement queue (06) -/

theorem KeepsMix.putEntry (h : KeepsMix c d) (i : Fin 8) (k : EntryKind) (n : Nat) (t : ZoneSet) (ms : Nat) :
    KeepsMix c (putEntry i k n t ms d) := h.same rfl

theorem KeepsMix.removeEntry (h : KeepsMix c d) (i : Fin 8) (e : Entry) (r : EndReason) :
    KeepsMix c (removeEntry i e r d) := h.same (by simp [Cabin.mixing])

theorem KeepsMix.admitEntry (h : KeepsMix c d) (k : EntryKind) (n : Nat) (t : ZoneSet) (ms : Nat) :
    KeepsMix c (admitEntry k n t ms d).1 := by
  unfold Machine.admitEntry
  split
  · dsimp only
    exact (h.putEntry ..).refreshSound
  · dsimp only
    exact ((h.removeEntry ..).refreshSound.putEntry ..).refreshSound
  · exact h

theorem KeepsMix.retarget (h : KeepsMix c d) (i : Fin 8) (t : ZoneSet) : KeepsMix c (retarget i t d) := by
  unfold Machine.retarget
  split
  · exact h
  · exact .refreshSound (h.same (by simp [Cabin.mixing]))

theorem KeepsMix.testTrafficOn (h : KeepsMix c d) (x : Chan) : KeepsMix c (testTrafficOn x d) := by
  unfold Machine.testTrafficOn
  split
  · exact h
  · rename_i s _
    split
    · exact h.retarget ..
    · split
      · have hadmit := h.admitEntry (.traffic s x) 3 (trafficTargets d s) trafficLimit
        split <;> rename_i hr <;> rw [hr] at hadmit
        · exact hadmit.postBoth ..
        · exact hadmit
      · exact h

theorem KeepsMix.testTraffic (h : KeepsMix c d) : KeepsMix c (testTraffic d) := (h.testTrafficOn _).testTrafficOn _

theorem KeepsMix.testStation (h : KeepsMix c d) (s : StationId) : KeepsMix c (testStation s d) := by
  unfold Machine.testStation
  split
  · exact h
  · rename_i x _
    dsimp only
    split
    · exact h.testTrafficOn x
    · exact (h.testTrafficOn x).testTraffic

theorem KeepsMix.endEntry (h : KeepsMix c d) (i : Fin 8) (r : EndReason) : KeepsMix c (endEntry i r d) := by
  unfold Machine.endEntry
  split
  · exact h
  · exact (h.removeEntry ..).refreshSound.testTraffic

theorem KeepsMix.queueEntry (h : KeepsMix c d) (k : EntryKind) (n : Nat) (t : ZoneSet) (ms : Nat) :
    KeepsMix c (queueEntry k n t ms d).1 := by
  unfold Machine.queueEntry
  split
  · exact (h.admitEntry ..).testTraffic
  · exact h.admitEntry ..

theorem KeepsMix.endUncarried (h : KeepsMix c d) : KeepsMix c (endUncarried d) := by
  refine h.eachIdx fun i d => ?_
  repeat' split
  · exact .refl d
  · exact .refl d
  · exact (KeepsMix.refl d).endEntry ..
  · exact .refl d

theorem KeepsMix.endAndIgnore (h : KeepsMix c d) (i : Fin 8) (r : EndReason) : KeepsMix c (endAndIgnore i r d) := by
  unfold Machine.endAndIgnore
  split
  · exact h
  · split
    · rename_i s _ _
      have hignore : KeepsMix c (ignoreStation s d) := h.same (by simp [Cabin.mixing])
      exact hignore.endEntry ..
    · exact h.endEntry ..

/-! ## The arbitration, merges and what follows them (04, 05) -/

theorem KeepsMix.applyAssignment (h : KeepsMix c d) (n : Option StationId × Option StationId) :
    KeepsMix c (applyAssignment n d) := by
  unfold Machine.applyAssignment
  extract_lets t assigned roles tuned tested moved
  have htuned : KeepsMix c tuned := h.same (by simp [tuned, roles, assigned, Cabin.mixing])
  have htested : KeepsMix c tested := htuned.endUncarried.testTraffic
  exact htested.same (by simp [moved, Cabin.mixing])

theorem KeepsMix.arbitrate (h : KeepsMix c d) : KeepsMix c (arbitrate d) := by
  unfold Machine.arbitrate
  repeat' split
  · exact h
  · exact h.applyAssignment _
  · exact h

@[simp] theorem postBoth_mixing (k : EventKind) (c : Cabin) : (Machine.postBoth k c).mixing = c.mixing := by
  simp [Cabin.mixing]

@[simp] theorem setStationSlot_mixing (i : Fin 40) (v : StationSlot) (c : Cabin) :
    (setStationSlot i v c).mixing = c.mixing := rfl

@[simp] theorem retireStationSlot_mixing (i : Fin 40) (c : Cabin) : (retireStationSlot i c).mixing = c.mixing := rfl

@[simp] theorem relabelChan_mixing (b a : StationId) (x : Chan) (c : Cabin) : (relabelChan b a x c).mixing = c.mixing := by
  unfold relabelChan
  split
  · simp [Cabin.mixing]
  · rfl

@[simp] theorem repointAt_mixing (b a : StationId) (x : Fin 8 × Fin 6) (c : Cabin) :
    (repointAt b a x c).mixing = c.mixing := by
  unfold repointAt
  repeat' split
  · rfl
  · simp [Cabin.mixing]
  · rfl

@[simp] theorem repointQueue_mixing (b a : StationId) (c : Cabin) : (repointQueue b a c).mixing = c.mixing := by
  unfold repointQueue
  dsimp only
  rw [eachIdx_keeps Cabin.mixing 8 _ fun i d => by simp [Cabin.mixing]]
  split
  · simp [Cabin.mixing]
  · rfl

theorem KeepsMix.mergeInto (h : KeepsMix c d) (b a : Fin 40) : KeepsMix c (mergeInto b a d) := by
  unfold Machine.mergeInto
  split
  · rename_i rb ra _ _
    extract_lets hb ha relabel retest slot merged relabelled repointed table watched queued retired tested
    have hrelabelled : relabelled.mixing = d.mixing := by simp [relabelled, merged]
    clear_value relabelled
    have hrepointed : repointed.mixing = relabelled.mixing := foldl_keeps Cabin.mixing _ (fun d x => by simp) _ _
    clear_value repointed
    have hwatched : watched.mixing = repointed.mixing := rfl
    clear_value watched
    have hqueued : queued.mixing = watched.mixing := repointQueue_mixing ..
    clear_value queued
    have hretired : KeepsMix c retired := h.same (by
      simp [retired, hqueued, hwatched, hrepointed, hrelabelled])
    have htested : KeepsMix c tested := by
      unfold tested
      split
      · exact hretired.testStation ha
      · exact hretired
    split
    · exact htested.same (by simp [Cabin.mixing])
    · exact htested
  · exact h

@[simp] theorem takeIdentity_mixing (i : Fin 40) (code : Nat) (c : Cabin) : (takeIdentity i code c).mixing = c.mixing := by
  unfold takeIdentity
  split
  · rfl
  · dsimp only
    split <;> simp [Cabin.mixing]

theorem KeepsMix.applyIdentity (h : KeepsMix c d) (i : Fin 40) (code : Nat) : KeepsMix c (applyIdentity i code d) := by
  unfold Machine.applyIdentity
  repeat' split
  · exact h
  · exact h.same (by simp [Cabin.mixing])
  · exact h.same (by simp [Cabin.mixing])
  · exact h.mergeInto ..
  · exact h.same (by simp)

theorem KeepsMix.settleAllocator (h : KeepsMix c d) : KeepsMix c (settleAllocator d) := by
  have hsettle : ∀ n (d : Cabin), KeepsMix d (settleStations n d) := by
    intro n
    induction n with
    | zero => exact .refl
    | succ n ih =>
      intro d
      unfold settleStations
      dsimp only
      split
      · exact (KeepsMix.refl d).arbitrate
      · exact ((KeepsMix.refl d).arbitrate.applyIdentity _ _).trans (ih _)
  exact h.trans (hsettle 41 d)

theorem KeepsMix.settleDirectory (h : KeepsMix c d) : KeepsMix c (settleDirectory d) := h.settleAllocator.settleRoutes

theorem KeepsMix.settleInputs (h : KeepsMix c d) : KeepsMix c (settleInputs d) :=
  h.settleAllocator.testTraffic.settleRoutes

end Operations

end Sys2Proof.Machine
end

section
/-! SUPPORT. Every command keeps the mix engine within its numbers (02 R25, R32, 03 R48). First the operations that leave
the mix as it was, then the commands, chapter by chapter of the spec. -/

namespace Sys2Proof.Machine

/-! ## Operations that leave the mix as it was -/

section Mixing
variable (c : Cabin)

@[simp] theorem modifyStation_mixing (i : Fin 40) (f : Station → Station) : (modifyStation i f c).mixing = c.mixing := by
  simp [Cabin.mixing]

@[simp] theorem setTuner_mixing (t : TunerId) (v : Tuner) : (setTuner t v c).mixing = c.mixing := rfl

@[simp] theorem setChan_mixing (x : Chan) (v : ProgChan) : (setChan x v c).mixing = c.mixing := rfl

@[simp] theorem settleRoles_mixing : (settleRoles c).mixing = c.mixing := by simp [Cabin.mixing]

@[simp] theorem beginRetune_mixing (x : Chan) : (beginRetune x c).mixing = c.mixing := by simp [Cabin.mixing]

@[simp] theorem modifyEntry_mixing (i : Fin 8) (f : Entry → Entry) : (modifyEntry i f c).mixing = c.mixing := by
  simp [Cabin.mixing]

@[simp] theorem modifyCall_mixing (i : Fin 2) (f : CallRecord → CallRecord) : (modifyCall i f c).mixing = c.mixing := by
  simp [Cabin.mixing]

@[simp] theorem putCall_mixing (i : Fin 2) (v : CallSlot) : (putCall i v c).mixing = c.mixing := by
  simp [Cabin.mixing]

@[simp] theorem modifyLive_mixing (h : StationId) (f : Station → Station) : (modifyLive h f c).mixing = c.mixing := by
  unfold modifyLive
  split
  · simp
  · rfl

@[simp] theorem addRef_mixing (a : Source) : (addRef a c).mixing = c.mixing := by
  cases a <;> simp [addRef]

@[simp] theorem dropRef_mixing (a : Source) : (dropRef a c).mixing = c.mixing := by
  cases a <;> simp [dropRef]

@[simp] theorem moveRef_mixing (a b : Source) : (moveRef a b c).mixing = c.mixing := by
  unfold moveRef
  split
  · rfl
  · simp

@[simp] theorem changeRoute_mixing (p : Port) (l : Fin 8) (k : Fin 6) (old new : RouteRecord) :
    (changeRoute p l k old new c).mixing = c.mixing := by simp [changeRoute, Cabin.mixing]

@[simp] theorem changeZone_mixing (z : Zone) (e : ZoneEntry) : (changeZone z e c).mixing = c.mixing := by
  simp [changeZone, Cabin.mixing]

@[simp] theorem declareMedia_mixing (n : Fin 4) (v : Option Bool) : (declareMedia n v c).mixing = c.mixing := by
  unfold declareMedia
  repeat' split
  all_goals rfl

@[simp] theorem setWatched_mixing (h : StationId) (v : Bool) : (setWatched h v c).mixing = c.mixing := by
  unfold setWatched
  split
  · simp
  · rfl

@[simp] theorem putWatch_mixing (w : Option Watch) : (putWatch w c).mixing = c.mixing := by
  unfold putWatch
  extract_lets old new
  have hold : old.mixing = c.mixing := by
    unfold old
    split
    · rfl
    · simp
  have hnew : new.mixing = old.mixing := by
    unfold new
    split
    · rfl
    · simp
  exact hnew.trans hold

@[simp] theorem settlePlaced_mixing (l : Fin 8) (k : Fin 6) : (settlePlaced l k c).mixing = c.mixing := by
  unfold settlePlaced
  split <;> rfl

/-! ### The canceller -/

@[simp] theorem enterEcho_mixing (v : Canceller) : (enterEcho v c).mixing = c.mixing := by
  simp [enterEcho, Cabin.mixing]

@[simp] theorem reconverge_mixing : (reconverge c).mixing = c.mixing := by
  unfold reconverge
  split
  · rfl
  · rfl
  · exact enterEcho_mixing ..
  · exact enterEcho_mixing ..

@[simp] theorem followActiveCall_mixing : (followActiveCall c).mixing = c.mixing := by
  unfold followActiveCall
  repeat' split
  · exact enterEcho_mixing ..
  · rfl
  · rfl
  · exact enterEcho_mixing ..

theorem applyBlock_mixing (n : Nat) : (applyBlock n c).mixing = c.mixing := by
  have hset : ∀ v, (setCanceller v c).mixing = c.mixing := fun _ => rfl
  unfold applyBlock
  dsimp only
  repeat' split
  all_goals simp only [hset, enterEcho_mixing]

theorem endBlock_mixing : (endBlock c).mixing = c.mixing := by
  unfold endBlock
  dsimp only
  repeat' split
  · rfl
  · rfl
  · exact applyBlock_mixing ..

theorem doubleTalkOut_mixing : (doubleTalkOut c).mixing = c.mixing := by
  unfold doubleTalkOut
  split
  · exact enterEcho_mixing ..
  · rfl

/-! ### Tuners and follows -/

@[simp] theorem endDiversity_mixing (x : Chan) : (endDiversity x c).mixing = c.mixing := by simp [Cabin.mixing]

@[simp] theorem noteChanQuality_mixing (x : Chan) (q : Nat) : (noteChanQuality x q c).mixing = c.mixing := by
  unfold noteChanQuality noteRecordQuality
  split <;> simp

@[simp] theorem reselect_mixing (x : Chan) : (reselect x c).mixing = c.mixing := by
  unfold reselect
  repeat' split
  all_goals rfl

@[simp] theorem startDiversity_mixing (x : Chan) : (startDiversity x c).mixing = c.mixing := by
  unfold startDiversity
  split
  · simp
  · rfl

theorem measurement_mixing (img : Image) (t : TunerId) (f : Figures) : (measurement img t f c).mixing = c.mixing := by
  unfold measurement
  split
  · rfl
  · unfold measureOn
    extract_lets q ofChannel old tuned noted
    have hnoted : noted.mixing = c.mixing := by
      unfold noted
      split <;> simp [tuned]
    split
    · exact (startDiversity_mixing ..).trans hnoted
    · exact hnoted

theorem diversityOff_mixing (x : Chan) : (diversityOff x c).mixing = c.mixing := by
  unfold diversityOff
  split
  · simp
  · rfl

@[simp] theorem adoptBorrowed_mixing (x : Chan) (h : StationId) (t : TunerId) (ch raw : Nat) :
    (adoptBorrowed x h t ch raw c).mixing = c.mixing := by simp [adoptBorrowed]

@[simp] theorem endFollow_mixing (x : Chan) : (endFollow x c).mixing = c.mixing := rfl

@[simp] theorem setFollow_mixing (x : Chan) (f : Follow) : (setFollow x f c).mixing = c.mixing := rfl

@[simp] theorem advanceBorrowed_mixing (x : Chan) (h : StationId) (t : TunerId) (f : Follow) :
    (advanceBorrowed x h t f c).mixing = c.mixing := by
  unfold advanceBorrowed decideBorrowed
  repeat' split
  all_goals simp

@[simp] theorem decideSelf_mixing (x : Chan) (h : StationId) (f : Follow) : (decideSelf x h f c).mixing = c.mixing := by
  unfold decideSelf
  split <;> simp

@[simp] theorem advanceSelf_mixing (x : Chan) (h : StationId) (t : TunerId) (f : Follow) :
    (advanceSelf x h t f c).mixing = c.mixing := by
  unfold advanceSelf
  split <;> simp

theorem followProbeComplete_mixing (img : Image) (f : Figures) : (followProbeComplete img f c).mixing = c.mixing := by
  unfold followProbeComplete probeEnd
  repeat' split
  all_goals simp [noteProbe]

theorem followWinnerTuned_mixing : (followWinnerTuned c).mixing = c.mixing := by
  unfold followWinnerTuned winnerTuned
  repeat' split
  all_goals simp

@[simp] theorem discardPass_mixing : (discardPass c).mixing = c.mixing := rfl

/-! ### The scan -/

theorem completePass_mixing : (completePass c).mixing = c.mixing := by
  have hage : ∀ (i : Fin 40) (c : Cabin), (ageSlot i c).mixing = c.mixing := fun i c => by
    unfold ageSlot
    repeat' split
    all_goals simp
  have haged := eachIdx_keeps Cabin.mixing 40 ageSlot hage c
  unfold completePass
  generalize eachIdx 40 ageSlot c = d at haged ⊢
  exact haged

@[simp] theorem advanceScan_mixing : (advanceScan c).mixing = c.mixing := by
  have htune : ∀ c, (tuneScan c).mixing = c.mixing := fun _ => rfl
  unfold advanceScan
  rw [htune]
  split
  · rfl
  · exact completePass_mixing c

@[simp] theorem createStation_mixing (i : Fin 40) (r : Station) : (createStation i r c).mixing = c.mixing := by
  simp [createStation]

@[simp] theorem createFound_mixing (raw : Nat) (code : Option Nat) : (createFound raw code c).mixing = c.mixing := by
  unfold createFound
  dsimp only
  repeat' split
  · simp
  · simp
  · rfl
  · rfl

@[simp] theorem scanKnown_mixing (i : Fin 40) (raw : Nat) : (scanKnown i raw c).mixing = c.mixing := by
  have hdwell : ∀ c, (startDwell raw c).mixing = c.mixing := fun _ => rfl
  unfold scanKnown
  dsimp only
  repeat' split
  all_goals simp [hdwell]

theorem scanMeasurement_mixing (img : Image) (f : Figures) : (scanMeasurement img f c).mixing = c.mixing := by
  have hdwell : ∀ raw, (startDwell raw c).mixing = c.mixing := fun _ => rfl
  unfold scanMeasurement scanOutcome
  repeat' split
  all_goals simp [hdwell]

end Mixing

/-! ## The route directory and Hold (01, 03) -/

section Cabins
variable (c : Cabin)

theorem KeepsMix.retireRouteAt {c d : Cabin} (h : KeepsMix c d) (p : Port) (l : Fin 8) (k : Fin 6) (r : RouteRecord) :
    KeepsMix c (retireRouteAt p l k r d) := by
  have hmark : ∀ c, (markListStale l c).mixing = c.mixing := fun _ => rfl
  have hset : ∀ v c, (setRouteSlot l k v c).mixing = c.mixing := fun _ _ => rfl
  have hpost : ∀ b q e c, (postIf b q e c).mixing = c.mixing := fun b q e c => by simp [Cabin.mixing]
  refine (h.orphanRoute ⟨l, k, (d.route l k).gen⟩).same ?_
  simp [Machine.retireRouteAt, hmark, hset, hpost]

theorem placeRoute_keepsMix (p : Port) (a : PlaceArgs) : KeepsMix c (placeRoute p a c) := by
  have hplaced : ∀ l k r b, KeepsMix c (placeAt p l k r b c) := fun l k r b => by
    have hset : KeepsMix c (markListStale l (addRef r.source (setRouteRecord l k r c))) :=
      (KeepsMix.refl c).same (addRef_mixing ..)
    exact (hset.settleAllocator.same (settlePlaced_mixing ..)).testTraffic.settleRoutes.respond ..
  unfold placeRoute
  repeat' split
  · exact (KeepsMix.refl c).refuse ..
  · exact (KeepsMix.refl c).refuse ..
  · exact (KeepsMix.refl c).refuse ..
  · exact (KeepsMix.refl c).refuse ..
  · exact (KeepsMix.refl c).refuse ..
  · exact hplaced ..

theorem alterRoute_keepsMix (p : Port) (h : Handle) (a : AlterArgs) : KeepsMix c (alterRoute p h a c) := by
  unfold alterRoute alterAt
  dsimp only
  repeat' split
  · exact (KeepsMix.refl c).refuse ..
  · exact (KeepsMix.refl c).refuse ..
  · exact (KeepsMix.refl c).refuse ..
  · exact (KeepsMix.refl c).refuse ..
  · exact (KeepsMix.refl c).refuse ..
  · exact (KeepsMix.refl c).respond ..
  · exact ((KeepsMix.refl c).same (by simp)).settleInputs.respond ..
  · exact (KeepsMix.refl c).refuse ..

theorem setPresent_keepsMix (p : Port) (l : Fin 8) (k : Fin 6) (r : RouteRecord) (v : Bool) :
    KeepsMix c (setPresent p l k r v c) := ((KeepsMix.refl c).same (changeRoute_mixing ..)).settleInputs.respond ..

theorem parkRoute_keepsMix (p : Port) (h : Handle) : KeepsMix c (parkRoute p h c) := by
  unfold parkRoute
  repeat' split
  · exact (KeepsMix.refl c).refuse ..
  · exact (KeepsMix.refl c).refuse ..
  · exact (KeepsMix.refl c).refuse ..
  · exact (KeepsMix.refl c).refuse ..
  · exact setPresent_keepsMix ..

theorem unparkRoute_keepsMix (p : Port) (h : Handle) : KeepsMix c (unparkRoute p h c) := by
  unfold unparkRoute
  repeat' split
  · exact (KeepsMix.refl c).refuse ..
  · exact (KeepsMix.refl c).refuse ..
  · exact (KeepsMix.refl c).refuse ..
  · exact (KeepsMix.refl c).refuse ..
  · exact (KeepsMix.refl c).refuse ..
  · exact setPresent_keepsMix ..

theorem retireRoute_keepsMix (p : Port) (h : Handle) : KeepsMix c (retireRoute p h c) := by
  unfold retireRoute
  repeat' split
  · exact (KeepsMix.refl c).refuse ..
  · exact (KeepsMix.refl c).refuse ..
  · exact (KeepsMix.refl c).refuse ..
  · exact ((KeepsMix.refl c).retireRouteAt ..).settleInputs.respond ..

theorem readRoute_keepsMix (p : Port) (h : Handle) : KeepsMix c (readRoute p h c) := by
  unfold readRoute
  repeat' split
  · exact (KeepsMix.refl c).refuse ..
  · exact (KeepsMix.refl c).refuse ..
  · exact (KeepsMix.refl c).respond ..

theorem clearMarks_keepsMix (p : Port) (h : Handle) : KeepsMix c (clearMarks p h c) := by
  unfold clearMarks
  repeat' split
  · exact (KeepsMix.refl c).refuse ..
  · exact (KeepsMix.refl c).refuse ..
  · exact (KeepsMix.refl c).refuse ..
  · exact (KeepsMix.refl c).same rfl

theorem setZone_keepsMix (img : Image) (p : Port) (n : Nat) (a : ZoneArgs) : KeepsMix c (setZone img p n a c) := by
  unfold setZone zoneChanged
  dsimp only
  repeat' split
  · exact (KeepsMix.refl c).refuse ..
  · exact (KeepsMix.refl c).refuse ..
  · exact (KeepsMix.refl c).refuse ..
  · exact (KeepsMix.refl c).respond ..
  · exact ((KeepsMix.refl c).same (changeZone_mixing ..)).settleDirectory.respond ..
  · exact ((KeepsMix.refl c).same (changeZone_mixing ..)).settleInputs.respond ..

theorem readZone_keepsMix (p : Port) (n : Nat) : KeepsMix c (readZone p n c) := by
  unfold readZone
  split <;> exact (KeepsMix.refl c).same rfl

theorem linkList_keepsMix (p : Port) (n : Nat) (l : Option Nat) : KeepsMix c (linkList p n l c) := by
  unfold linkList
  repeat' split
  · exact (KeepsMix.refl c).refuse ..
  · exact (KeepsMix.refl c).respond ..
  · exact ((KeepsMix.refl c).same (changeZone_mixing ..)).settleInputs.respond ..
  · exact (KeepsMix.refl c).refuse ..

theorem grantRearControl_keepsMix (p : Port) (n : Nat) : KeepsMix c (grantRearControl p n c) := by
  unfold grantRearControl
  repeat' split
  · exact (KeepsMix.refl c).refuse ..
  · exact (KeepsMix.refl c).refuse ..
  · exact (KeepsMix.refl c).respond ..
  · exact (((KeepsMix.refl c).same (by rfl)).postBoth ..).respond ..

theorem clearZoneRoutes_keepsMix (p : Port) (n : Nat) : KeepsMix c (clearZoneRoutes p n c) := by
  have hretire : ∀ d (x : Fin 8 × Fin 6), KeepsMix d (retireIfOccupied p x d) := fun d x => by
    unfold retireIfOccupied
    split
    · exact .refl d
    · exact (KeepsMix.refl d).retireRouteAt ..
  unfold clearZoneRoutes
  dsimp only
  repeat' split
  · exact (KeepsMix.refl c).refuse ..
  · exact (KeepsMix.refl c).respond ..
  · exact ((KeepsMix.refl c).foldl hretire _).settleInputs.respond ..

theorem mediaState_keepsMix (p : Port) (m0 m1 m2 m3 : Option Nat) : KeepsMix c (mediaState p m0 m1 m2 m3 c) := by
  unfold mediaState
  dsimp only
  repeat' split
  · exact (KeepsMix.refl c).refuse ..
  · exact (KeepsMix.refl c).refuse ..
  · exact (KeepsMix.refl c).respond ..
  · exact ((KeepsMix.refl c).same (by simp)).settleStates.respond ..

theorem KeepsMix.settleHold {c d : Cabin} (h : KeepsMix c d) : KeepsMix c (settleHold d) :=
  h.same (by simp [Cabin.mixing])

theorem enterHold_keepsMix (p : Port) : KeepsMix c (enterHold p c) := by
  have hdrop : ∀ d, KeepsMix d (dropBuild d) := fun d => by
    unfold dropBuild
    split
    · exact .refl d
    · exact .of_zones (fun _ hn => ⟨hn, id⟩) fun _ _ hb => absurd hb (by simp)
  unfold enterHold
  repeat' split
  · exact (KeepsMix.refl c).refuse ..
  · exact (KeepsMix.refl c).refuse ..
  · exact (((KeepsMix.refl c).same (e := setHold .pending c) rfl).trans (hdrop _)).settleHold.respond ..

theorem releaseHold_keepsMix (p : Port) : KeepsMix c (releaseHold p c) := by
  unfold releaseHold
  repeat' split
  · exact (KeepsMix.refl c).refuse ..
  · exact (KeepsMix.refl c).refuse ..
  · exact ((KeepsMix.refl c).same (e := markAllStale (setHold .running c)) rfl).settleDirectory.respond ..

/-! ## Stations, tuners and the scan (04, 05) -/

theorem readStation_keepsMix (p : Port) (h : Handle) : KeepsMix c (readStation p h c) := by
  unfold readStation
  repeat' split
  · exact (KeepsMix.refl c).refuse ..
  · exact (KeepsMix.refl c).refuse ..
  · exact (KeepsMix.refl c).respond ..

theorem keepStation_keepsMix (v : Bool) (p : Port) (h : Handle) : KeepsMix c (keepStation v p h c) := by
  unfold keepStation
  repeat' split
  · exact (KeepsMix.refl c).refuse ..
  · exact (KeepsMix.refl c).refuse ..
  · exact ((KeepsMix.refl c).same (modifyStation_mixing ..)).respond ..

theorem retireStation_keepsMix (p : Port) (h : Handle) : KeepsMix c (retireStation p h c) := by
  unfold retireStation retireStationAt
  repeat' split
  · exact (KeepsMix.refl c).refuse ..
  · exact (KeepsMix.refl c).refuse ..
  · exact (KeepsMix.refl c).refuse ..
  · exact (KeepsMix.refl c).refuse ..
  · exact (((KeepsMix.refl c).same (by rfl)).postBoth ..).respond ..

theorem addStation_keepsMix (p : Port) (b : Nat) (n : Int) : KeepsMix c (addStation p b n c) := by
  unfold addStation addStationAt
  repeat' split
  · exact (KeepsMix.refl c).refuse ..
  · exact (KeepsMix.refl c).respond ..
  · exact (KeepsMix.refl c).refuse ..
  · exact ((KeepsMix.refl c).same (createStation_mixing ..)).respond ..

theorem setTrafficWatch_keepsMix (p : Port) (h : Option Handle) (n : Int) : KeepsMix c (setTrafficWatch p h n c) := by
  have hwatch : ∀ w, KeepsMix c (changeWatch w c) := fun w => by
    unfold changeWatch
    split
    · exact ((KeepsMix.refl c).same (putWatch_mixing ..)).settleDirectory
    · exact ((KeepsMix.refl c).same (putWatch_mixing ..)).settleInputs
  unfold setTrafficWatch
  repeat' split
  · exact (KeepsMix.refl c).refuse ..
  · exact (hwatch _).respond ..
  · exact (KeepsMix.refl c).refuse ..
  · exact (KeepsMix.refl c).refuse ..
  · exact (KeepsMix.refl c).refuse ..
  · exact (hwatch _).respond ..

theorem walkStations_keepsMix (p : Port) (n : Int) (m : Nat) : KeepsMix c (walkStations p n m c) := by
  unfold walkStations
  split <;> exact (KeepsMix.refl c).same rfl

theorem retuneComplete_keepsMix (x : Chan) : KeepsMix c (retuneComplete x c) := by
  unfold retuneComplete
  split
  · exact ((KeepsMix.refl c).same (setChan_mixing ..)).settleStates
  · exact .refl c

theorem followStart_keepsMix (x : Chan) : KeepsMix c (followStart x c) := by
  unfold followStart startBorrowed
  repeat' split
  · exact (KeepsMix.refl c).same (by simp)
  · exact ((KeepsMix.refl c).same (advanceSelf_mixing ..)).settleStates
  · exact .refl c
  · exact .refl c

theorem excursionStart_keepsMix (x : Chan) : KeepsMix c (excursionStart x c) := by
  unfold excursionStart
  repeat' split
  · exact ((KeepsMix.refl c).same (advanceSelf_mixing ..)).settleStates
  · exact .refl c
  · exact .refl c

theorem excursionEnd_keepsMix (img : Image) (x : Chan) (f : Figures) : KeepsMix c (excursionEnd img x f c) := by
  unfold excursionEnd
  split
  · split
    · exact .refl c
    · split
      · dsimp only
        split
        · exact ((KeepsMix.refl c).same (by simp [returnFrom, noteProbe])).settleStates
        · exact ((KeepsMix.refl c).same (by simp [returnFrom, noteProbe])).settleStates
      · exact .refl c
  · exact .refl c

theorem stopTuners_keepsMix : KeepsMix c (stopTuners c) := by
  refine KeepsMix.settleStates ((KeepsMix.refl c).same ?_)
  rw [discardPass_mixing, settleRoles_mixing]
  rfl

theorem restartTuners_keepsMix : KeepsMix c (restartTuners c) := by
  refine KeepsMix.settleStates ((KeepsMix.refl c).same ?_)
  rw [settleRoles_mixing, beginRetune_mixing, beginRetune_mixing]
  rfl

theorem dwellEnd_keepsMix (a : Option Nat) : KeepsMix c (dwellEnd a c) := by
  have houtcome : ∀ raw d, KeepsMix d (dwellOutcome raw a d) := fun raw d => by
    unfold dwellOutcome dwellNew
    repeat' split
    · exact (KeepsMix.refl d).same (createFound_mixing ..)
    · exact (KeepsMix.refl d).same (modifyStation_mixing ..)
    · exact (KeepsMix.refl d).same (createFound_mixing ..)
    · exact .refl d
    · exact (KeepsMix.refl d).applyIdentity ..
  unfold dwellEnd
  split
  · exact .refl c
  · rename_i raw _
    have hfree : KeepsMix c { c with table := { c.table with dwell := none } } := (KeepsMix.refl c).same rfl
    exact ((hfree.trans (houtcome raw _)).same (advanceScan_mixing _)).settleDirectory

theorem KeepsMix.unignoreStation {c d : Cabin} (h : KeepsMix c d) (s : StationId) : KeepsMix c (unignoreStation s d) :=
  h.same rfl

theorem KeepsMix.takeContent {c d : Cabin} (h : KeepsMix c d) (t : TunerId) (s : StationId) (g : GroupContent) :
    KeepsMix c (takeContent t s g d) := by
  have hacc : ∀ a, (setAcceptance t a d).mixing = d.mixing := fun _ => rfl
  unfold Machine.takeContent
  split
  · rename_i tp ta
    unfold takeIdent acceptFlags clearTraffic
    dsimp only
    split
    · have hflags : KeepsMix c (modifyStation s.slot (fun r => { r with tp := some tp, ta := some ta })
          (setAcceptance t { (d.tuner t).acc with traffic := some ((tp, ta), trafficAgrees (d.tuner t).acc tp ta) } d)) :=
        h.same (by simp [hacc])
      split
      · exact hflags.testStation s
      · split
        · exact hflags.unignoreStation s
        · exact (hflags.endEntry ..).unignoreStation s
    · exact h.same rfl
  · unfold takeName
    dsimp only
    split
    · exact h.same (by simp [hacc])
    · exact h.same rfl
  · exact h.same (modifyStation_mixing ..)

theorem groupOnChan_keepsMix (t : TunerId) (x : Chan) (g : DataGroup) : KeepsMix c (groupOnChan t x g c) := by
  unfold groupOnChan
  extract_lets new counted applied taken
  have hcounted : KeepsMix c counted := (KeepsMix.refl c).same rfl
  have happlied : KeepsMix c applied := by
    unfold applied
    repeat' split
    · exact hcounted
    · exact hcounted.applyIdentity ..
    · exact hcounted
  have htaken : KeepsMix c taken := by
    unfold taken
    repeat' split
    · exact happlied
    · exact happlied.takeContent ..
    · exact happlied
  exact htaken.settleDirectory

theorem dataGroup_keepsMix (t : TunerId) (g : DataGroup) : KeepsMix c (dataGroup t g c) := by
  unfold dataGroup
  repeat' split
  · exact .refl c
  · exact .refl c
  · exact groupOnChan_keepsMix ..
  · unfold groupInDwell
    dsimp only
    have hcounted : KeepsMix c (setAcceptance t (countCode g.code (c.tuner t).acc) c) := (KeepsMix.refl c).same rfl
    split
    · exact hcounted.trans (dwellEnd_keepsMix ..)
    · exact hcounted

/-! ## Announcements and calls (06, 07) -/

@[simp] theorem cadenceTick_mixing : (cadenceTick c).mixing = c.mixing := rfl

theorem startChime_keepsMix (p : Port) (n : Nat) (t : Option Nat) : KeepsMix c (startChime p n t c) := by
  have hchime : ∀ n t, KeepsMix c (chimeAt p n t c) := fun n t => by
    have hqueued := (KeepsMix.refl c).queueEntry (.chime n) (c.queue.patterns.get n).priority t 0
    unfold chimeAt restartChime
    split
    · exact ((KeepsMix.refl c).same (by simp [restartVoice, Cabin.mixing])).refreshSound.respond ..
    · split <;> rename_i hr <;> rw [hr] at hqueued
      · exact (KeepsMix.refl c).refuse ..
      · exact hqueued.respond ..
  unfold startChime
  repeat' split
  · exact (KeepsMix.refl c).refuse ..
  · exact (KeepsMix.refl c).refuse ..
  · exact (KeepsMix.refl c).refuse ..
  · exact hchime ..

theorem startNav_keepsMix (p : Port) (n : Nat) : KeepsMix c (startNav p n c) := by
  have hnav : ∀ t, KeepsMix c (navAt p t c) := fun t => by
    have hqueued := (KeepsMix.refl c).queueEntry .nav 4 t navLimit
    unfold navAt
    split
    · exact ((KeepsMix.refl c).same (modifyEntry_mixing ..)).refreshSound.respond ..
    · split <;> rename_i hr <;> rw [hr] at hqueued
      · exact (KeepsMix.refl c).refuse ..
      · exact hqueued.respond ..
  unfold startNav
  repeat' split
  · exact (KeepsMix.refl c).refuse ..
  · exact (KeepsMix.refl c).refuse ..
  · exact hnav _

theorem cancelAnnouncement_keepsMix (p : Port) (h : Handle) : KeepsMix c (cancelAnnouncement p h c) := by
  unfold cancelAnnouncement
  repeat' split
  · exact (KeepsMix.refl c).refuse ..
  · exact (KeepsMix.refl c).refuse ..
  · exact (KeepsMix.refl c).refuse ..
  · exact (KeepsMix.refl c).refuse ..
  · exact ((KeepsMix.refl c).endAndIgnore ..).respond ..

theorem keepNav_keepsMix (p : Port) : KeepsMix c (keepNav p c) := by
  unfold keepNav
  repeat' split
  · exact (KeepsMix.refl c).refuse ..
  · exact (KeepsMix.refl c).refuse ..
  · exact ((KeepsMix.refl c).same (modifyEntry_mixing ..)).respond ..

theorem endNav_keepsMix (p : Port) : KeepsMix c (endNav p c) := by
  unfold endNav
  repeat' split
  · exact (KeepsMix.refl c).refuse ..
  · exact (KeepsMix.refl c).refuse ..
  · exact ((KeepsMix.refl c).endEntry ..).respond ..

theorem setPattern_keepsMix (p : Port) (n : Nat) (a : PatternArgs) : KeepsMix c (setPattern p n a c) := by
  have hfollow : ∀ n d, KeepsMix d (followPriority n d) := fun n d => by
    unfold followPriority
    split
    · exact .refl d
    · exact (KeepsMix.refl d).same (modifyEntry_mixing ..)
  unfold setPattern
  dsimp only
  repeat' split
  · exact (KeepsMix.refl c).refuse ..
  · exact (KeepsMix.refl c).refuse ..
  · exact (((KeepsMix.refl c).same (by rfl)).trans (hfollow ..)).refreshSound.respond ..
  · exact (KeepsMix.refl c).refuse ..

theorem readPattern_keepsMix (p : Port) (n : Nat) : KeepsMix c (readPattern p n c) := by
  unfold readPattern
  split
  · exact (KeepsMix.refl c).refuse ..
  · exact (KeepsMix.refl c).respond ..

theorem chimeCompleted_keepsMix (v : Fin 2) : KeepsMix c (chimeCompleted v c) := by
  unfold chimeCompleted
  repeat' split
  · exact .refl c
  · exact (KeepsMix.refl c).endEntry ..
  · exact .refl c

theorem navTimeout_keepsMix : KeepsMix c (navTimeout c) := by
  unfold navTimeout
  split
  · exact .refl c
  · exact (KeepsMix.refl c).endEntry ..

theorem trafficTimeout_keepsMix (i : Fin 8) : KeepsMix c (trafficTimeout i c) := by
  unfold trafficTimeout
  repeat' split
  · exact .refl c
  · exact (KeepsMix.refl c).endAndIgnore ..
  · exact .refl c

section Calls
variable {c d : Cabin}

theorem KeepsMix.dropTone (h : KeepsMix c d) (i : Fin 2) : KeepsMix c (dropTone i d) := by
  unfold Machine.dropTone endTone setTone
  repeat' split
  · exact h
  · exact h
  · exact h.same (modifyCall_mixing ..)
  · exact (h.endEntry ..).same (modifyCall_mixing ..)

theorem KeepsMix.settleTone (h : KeepsMix c d) (i : Fin 2) : KeepsMix c (settleTone i d) := by
  have hqueue : ∀ {r d}, KeepsMix c d → KeepsMix c (queueTone i r d) := fun {r d} h => by
    unfold queueTone
    extract_lets waiting kind targets
    have hqueued := h.queueEntry kind 6 targets 0
    split <;> rename_i hr <;> rw [hr] at hqueued
    · exact hqueued.same (modifyCall_mixing ..)
    · exact hqueued.same (by simp [postCall, Cabin.mixing])
  unfold Machine.settleTone
  repeat' split
  · exact h
  · exact hqueue (h.dropTone i)
  · exact h

theorem KeepsMix.settleCalls (h : KeepsMix c d) : KeepsMix c (settleCalls d) :=
  (h.same (followActiveCall_mixing d)).refreshSound

theorem KeepsMix.putCall (h : KeepsMix c d) (i : Fin 2) (v : CallSlot) : KeepsMix c (putCall i v d) :=
  h.same (putCall_mixing ..)

theorem KeepsMix.setCallState (h : KeepsMix c d) (i : Fin 2) (v : CallState) : KeepsMix c (setCallState i v d) :=
  h.same (modifyCall_mixing ..)

theorem KeepsMix.activate (h : KeepsMix c d) (i : Fin 2) : KeepsMix c (activate i d) := by
  unfold Machine.activate
  dsimp only
  split
  · exact (h.setCallState ..).setCallState ..
  · exact h.setCallState ..

theorem KeepsMix.changeCall (h : KeepsMix c d) (i : Fin 2) (r : CallRecord) : KeepsMix c (changeCall i r d) := by
  have hfollow : ∀ {d}, KeepsMix c d → KeepsMix c (followListeners i d) := fun {d} h => by
    unfold followListeners
    repeat' split
    · exact h
    · exact h
    · exact h
    · exact h.same (modifyEntry_mixing ..)
    · exact h
  exact (hfollow (h.same (modifyCall_mixing ..))).refreshSound

end Calls

theorem openCall_keepsMix (p : Port) (a : OpenArgs) : KeepsMix c (openCall p a c) := by
  unfold openCall
  repeat' split
  · exact (KeepsMix.refl c).refuse ..
  · exact (KeepsMix.refl c).refuse ..
  · exact (((KeepsMix.refl c).putCall ..).settleTone _).settleCalls.respond ..
  · exact (KeepsMix.refl c).refuse ..

theorem onCall_keepsMix {k : Fin 2 → CallRecord → Cabin → Cabin} (hk : ∀ i r, KeepsMix c (k i r c)) (p : Port)
    (h : Handle) : KeepsMix c (onCall p h k c) := by
  unfold onCall
  repeat' split
  · exact (KeepsMix.refl c).refuse ..
  · exact (KeepsMix.refl c).refuse ..
  · exact (KeepsMix.refl c).refuse ..
  · exact hk ..

theorem answerCall_keepsMix (p : Port) (h : Handle) : KeepsMix c (answerCall p h c) := by
  refine onCall_keepsMix c (fun i r => ?_) p h
  unfold answerAt
  split
  · exact ((((KeepsMix.refl c).activate i).dropTone i).settleTone _).settleCalls.respond ..
  · exact (KeepsMix.refl c).refuse ..

theorem holdCall_keepsMix (p : Port) (h : Handle) : KeepsMix c (holdCall p h c) := by
  refine onCall_keepsMix c (fun i r => ?_) p h
  unfold holdAt
  split
  · exact (((KeepsMix.refl c).setCallState i .held).settleTone _).settleCalls.respond ..
  · exact (KeepsMix.refl c).refuse ..

theorem resumeCall_keepsMix (p : Port) (h : Handle) : KeepsMix c (resumeCall p h c) := by
  refine onCall_keepsMix c (fun i r => ?_) p h
  unfold resumeAt
  split
  · exact (((KeepsMix.refl c).activate i).settleTone _).settleCalls.respond ..
  · exact (KeepsMix.refl c).refuse ..

theorem endCall_keepsMix (p : Port) (h : Handle) : KeepsMix c (endCall p h c) := by
  refine onCall_keepsMix c (fun i r => ?_) p h
  unfold endAt retireCall
  exact ((((KeepsMix.refl c).dropTone i).putCall ..).settleTone _).settleCalls.respond ..

theorem setListeners_keepsMix (p : Port) (h : Handle) (n : Nat) : KeepsMix c (setListeners p h n c) := by
  unfold setListeners
  split
  · exact (KeepsMix.refl c).refuse ..
  · refine onCall_keepsMix c (fun i r => ?_) p h
    unfold listenersAt
    exact ((KeepsMix.refl c).changeCall ..).respond ..

theorem setCall_keepsMix (p : Port) (h : Handle) (a : CallArgs) : KeepsMix c (setCall p h a c) := by
  unfold setCall
  split
  · refine onCall_keepsMix c (fun i r => ?_) p h
    unfold settingsAt
    exact ((KeepsMix.refl c).changeCall ..).respond ..
  · exact (KeepsMix.refl c).refuse ..

theorem setUplinkGain_keepsMix (p : Port) (n : Int) : KeepsMix c (setUplinkGain p n c) := by
  unfold setUplinkGain
  split <;> exact (KeepsMix.refl c).same rfl

theorem onRearCall_keepsMix {k : Zone → Fin 2 → CallRecord → Cabin → Cabin} (hk : ∀ z i r, KeepsMix c (k z i r c))
    (p : Port) (h : Handle) (n : Nat) : KeepsMix c (onRearCall p h n k c) := by
  unfold onRearCall
  repeat' split
  · exact (KeepsMix.refl c).refuse ..
  · exact (KeepsMix.refl c).refuse ..
  · exact hk ..
  · exact (KeepsMix.refl c).refuse ..

theorem joinCall_keepsMix (p : Port) (h : Handle) (n : Nat) : KeepsMix c (joinCall p h n c) := by
  refine onRearCall_keepsMix c (fun z i r => ?_) p h n
  unfold joinAt
  repeat' split
  · exact (KeepsMix.refl c).refuse ..
  · exact (KeepsMix.refl c).refuse ..
  · exact ((KeepsMix.refl c).changeCall ..).respond ..

theorem leaveCall_keepsMix (p : Port) (h : Handle) (n : Nat) : KeepsMix c (leaveCall p h n c) := by
  refine onRearCall_keepsMix c (fun z i r => ?_) p h n
  unfold leaveAt
  exact ((KeepsMix.refl c).changeCall ..).respond ..

theorem readCall_keepsMix (p : Port) (h : Handle) : KeepsMix c (readCall p h c) := by
  unfold readCall
  repeat' split
  · exact (KeepsMix.refl c).refuse ..
  · exact (KeepsMix.refl c).refuse ..
  · exact (KeepsMix.refl c).refuse ..
  · exact (KeepsMix.refl c).respond ..

/-! ## The mix (02, 03) -/

theorem installZone_keeps {e : ZoneEntry} {crank : Int} {muted : Bool} {j : BuildJob} (hj : j.shares.length ≤ 6)
    (m : MixZone) (hm : m.Fits) : (installZone e crank muted j m).Fits := by
  obtain ⟨_, _, ho, hlo⟩ := hm
  refine ⟨?_, ?_, ho, hlo⟩ <;> simp only [installZone, trimTo_length, List.length_map] <;> omega

@[simp] theorem setMixZone_mixZone (z y : Zone) (m : MixZone) :
    (setMixZone z m c).mixZone y = if y = z then m else c.mixZone y := by
  unfold setMixZone Cabin.mixZone
  split
  · next h => subst h; simp
  · next h => simp [PerZone.get_set_ne _ _ _ _ h]

theorem completeBuild_keepsMix (crank : Int) (muted : Bool) : KeepsMix c (completeBuild crank muted c) := by
  unfold completeBuild
  split
  · exact .refl c
  · rename_i j hjob
    extract_lets old new placed builder installed noticed
    have hzone : ∀ z, installed.mixZone z = if z = j.zone then new else c.mixZone z := fun z =>
      setMixZone_mixZone c j.zone z new
    have hinstalled : KeepsMix c installed := by
      refine ⟨fun hd => ⟨fun z => ?_, fun ⟨hz, hj⟩ => ⟨fun z => ?_, fun _ hb => absurd hb (by simp [installed])⟩⟩⟩
      · rw [hzone]
        split
        · exact hd j.zone
        · exact hd z
      · rw [hzone]
        split
        · exact installZone_keeps (hj j hjob) old (hz j.zone)
        · exact hz z
    have hnoticed : KeepsMix c noticed := by
      unfold noticed
      split
      · exact hinstalled.same (reconverge_mixing _)
      · exact hinstalled
    exact hnoticed.settleHold.startBuild

theorem tickMixZone_keeps (crank : Int) (muted : Bool) (z : Zone) (m : MixZone) :
    KeepsZone m (tickMixZone c crank muted z m) := by
  refine .of_lengths (by simp [tickMixZone]) ?_ (by simp [tickMixZone, MixZone.keys]) ?_
  · exact (List.length_filter_le ..).trans (by simp)
  · exact (List.length_filter_le ..).trans (by simp)

@[simp] theorem markHeard_mixing (h : RouteId) : (markHeard h c).mixing = c.mixing := by
  unfold markHeard
  split <;> rfl

theorem rampCabin_keepsMix (crank : Int) (muted : Bool) : KeepsMix c (rampCabin crank muted c) := by
  unfold rampCabin
  extract_lets heard ticked calls levelled
  have hticked : KeepsMix c ticked :=
    ((KeepsMix.refl c).foldl (fun d h => (KeepsMix.refl d).same (markHeard_mixing ..)) _).mapMixZones
      (tickMixZone_keeps c crank muted)
  have hlevelled : KeepsMix c levelled := hticked.same rfl
  exact (hlevelled.eachIdx fun i d => (KeepsMix.refl d).same (modifyEntry_mixing ..)).settleHold

theorem mixCabin_mixing (x : SampleIn) : (mixCabin x c).mixing = c.mixing := by
  unfold mixCabin
  dsimp only
  rw [foldl_keeps Cabin.mixing _ fun d z => by
    split
    · simp [setClip, Cabin.mixing]
    · rfl]
  rfl

theorem uplinkCabin_mixing (img : Image) (n : Nat) (x : SampleIn) : (uplinkCabin img n x c).mixing = c.mixing := by
  unfold uplinkCabin
  split <;> rfl

end Cabins

/-! ## The ring and the supply (08, 09): they change the cabin by events, responses and the canceller's triggers alone -/

section States
variable (s : State)

@[simp] theorem settleMute_mixing : (settleMute s).cab.mixing = s.cab.mixing := by
  unfold settleMute
  split
  · rfl
  · exact postBoth_mixing ..

@[simp] theorem setDrive_mixing (v : DriveCauses) : (setDrive v s).cab.mixing = s.cab.mixing := settleMute_mixing _

@[simp] theorem seeLine_mixing (b : Bool) : (seeLine b s).cab.mixing = s.cab.mixing :=
  (settleMute_mixing _).trans (postBoth_mixing ..)

theorem muteLineChange_mixing (b : Bool) : (muteLineChange b s).cab.mixing = s.cab.mixing := by
  unfold muteLineChange afterLowNotice
  repeat' split
  · rfl
  · exact seeLine_mixing ..
  · exact (reconverge_mixing _).trans (seeLine_mixing ..)
  · exact seeLine_mixing ..

theorem systemMute_mixing (p : Port) (n : Nat) : (systemMute p n s).cab.mixing = s.cab.mixing := by
  unfold systemMute
  repeat' split
  · rfl
  · rfl
  · exact setDrive_mixing ..

@[simp] theorem postRing_mixing : (postRing s).cab.mixing = s.cab.mixing := by simp [postRing, Cabin.mixing]

@[simp] theorem putNode_mixing (i : Fin 6) (n : Node) : (putNode i n s).cab.mixing = s.cab.mixing := by
  unfold putNode
  split
  · exact postRing_mixing _
  · rfl

@[simp] theorem nodeNotice_mixing (i : Fin 6) : (nodeNotice i s).cab.mixing = s.cab.mixing := by
  unfold nodeNotice
  split
  · exact reconverge_mixing _
  · rfl

@[simp] theorem makeAbsent_mixing (b : Bool) (i : Fin 6) : (makeAbsent b i s).cab.mixing = s.cab.mixing := by
  unfold makeAbsent
  dsimp only
  split
  · rfl
  · exact (putNode_mixing ..).trans (nodeNotice_mixing ..)

theorem nodeLost_mixing (i : Fin 6) : (nodeLost i s).cab.mixing = s.cab.mixing := by
  unfold nodeLost
  split
  · exact makeAbsent_mixing ..
  · rfl

theorem ringUp_mixing : (ringUp s).cab.mixing = s.cab.mixing := by
  unfold ringUp
  split
  · exact postRing_mixing (State.setRing _ s)
  · rfl

theorem ringDown_mixing : (ringDown s).cab.mixing = s.cab.mixing := by
  unfold ringDown
  split
  · have hlost := eachIdx_keeps (fun s : State => s.cab.mixing) 6 (makeAbsent true) (fun i s => makeAbsent_mixing s true i) s
    generalize eachIdx 6 (makeAbsent true) s = u at hlost ⊢
    exact (postRing_mixing (State.setRing _ u)).trans hlost
  · rfl

theorem discoveryPoll_mixing : (discoveryPoll s).cab.mixing = s.cab.mixing := by
  unfold discoveryPoll
  split <;> rfl

theorem pollAnswer_mixing (i : Fin 6) : (pollAnswer i s).cab.mixing = s.cab.mixing := by
  unfold pollAnswer
  dsimp only
  split
  · exact putNode_mixing ..
  · rfl

@[simp] theorem startConfig_mixing (i : Fin 6) (n : Node) : (startConfig i n s).cab.mixing = s.cab.mixing :=
  putNode_mixing (setStatuses i _ s) i _

@[simp] theorem faultNode_mixing (i : Fin 6) (f : NodeFault) : (faultNode i f s).cab.mixing = s.cab.mixing :=
  putNode_mixing ..

theorem configPageAnswer_mixing (i : Fin 6) (b : Bool) : (configPageAnswer i b s).cab.mixing = s.cab.mixing := by
  unfold configPageAnswer configAcknowledged
  dsimp only
  repeat' split
  · rfl
  · rfl
  · exact putNode_mixing ..
  · rfl
  · rfl
  · rfl
  · exact faultNode_mixing ..
  · rfl

theorem configTimeout_mixing (i : Fin 6) : (configTimeout i s).cab.mixing = s.cab.mixing := by
  unfold configTimeout
  dsimp only
  repeat' split
  · rfl
  · exact faultNode_mixing ..
  · rfl

@[simp] theorem exchangeFails_mixing (i : Fin 6) : (exchangeFails i s).cab.mixing = s.cab.mixing := by
  unfold exchangeFails
  dsimp only
  split
  · rfl
  · exact faultNode_mixing ..

theorem pageTimerExpiry_mixing (i : Fin 6) : (pageTimerExpiry i s).cab.mixing = s.cab.mixing := by
  unfold pageTimerExpiry
  split
  · exact exchangeFails_mixing ..
  · rfl

theorem abilityPage_mixing (i : Fin 6) (page : AbilityPage) : (abilityPage i page s).cab.mixing = s.cab.mixing := by
  unfold abilityPage takePage
  dsimp only
  repeat' split
  · exact exchangeFails_mixing ..
  · exact exchangeFails_mixing ..
  · exact putNode_mixing ..
  · exact startConfig_mixing ..
  · rfl
  · rfl
  · rfl

theorem statusReport_mixing (i : Fin 6) (f : FaultFlags) : (statusReport i f s).cab.mixing = s.cab.mixing := by
  unfold statusReport
  dsimp only
  repeat' split
  · exact (putNode_mixing (dropCarried i (nodeNotice i s)) i _).trans (nodeNotice_mixing s i)
  · rfl
  · exact putNode_mixing ..
  · exact startConfig_mixing ..
  · rfl

theorem readNode_mixing (p : Port) (n : Nat) : (readNode p n s).cab.mixing = s.cab.mixing := by
  unfold readNode
  repeat' split
  all_goals rfl

theorem restartNode_mixing (p : Port) (n : Nat) : (restartNode p n s).cab.mixing = s.cab.mixing := by
  unfold restartNode
  repeat' split
  · rfl
  · rfl
  · rfl
  · exact makeAbsent_mixing ..

@[simp] theorem enterSupply_mixing (v : SupplyState) : (enterSupply v s).cab.mixing = s.cab.mixing := by
  unfold enterSupply
  dsimp only
  split
  · rfl
  · exact postBoth_mixing ..

theorem settleTimerExpiry_mixing : (settleTimerExpiry s).cab.mixing = s.cab.mixing := by
  unfold settleTimerExpiry endSupplyDrive
  repeat' split
  · exact (setDrive_mixing ..).trans (enterSupply_mixing ..)
  · exact enterSupply_mixing ..
  · rfl

theorem recoverStep_mixing : (recoverStep s).cab.mixing = s.cab.mixing := by
  unfold recoverStep
  repeat' split
  · rfl
  · exact enterSupply_mixing ..
  · rfl

theorem expectWindowExpiry_mixing : (expectWindowExpiry s).cab.mixing = s.cab.mixing := by
  unfold expectWindowExpiry
  dsimp only
  repeat' split
  · rfl
  · exact enterSupply_mixing ..
  · rfl
  · rfl

theorem expectDip_mixing (p : Port) : (expectDip p s).cab.mixing = s.cab.mixing := by
  unfold expectDip
  repeat' split
  · rfl
  · rfl
  · exact enterSupply_mixing ..

theorem startUp_mixing (mv : Nat) (b : Bool) : (startUp mv b s).cab.mixing = s.cab.mixing := by
  unfold startUp
  split <;> rfl

theorem enterLow_keepsMix : KeepsMix s.cab (enterLow s).cab := by
  unfold enterLow
  rw [onCab_cab]
  refine .trans (.of_mixing ?_) (stopTuners_keepsMix _)
  exact (setDrive_mixing ..).trans (enterSupply_mixing ..)

theorem leaveLow_keepsMix : KeepsMix s.cab (leaveLow s).cab := by
  unfold leaveLow
  rw [onCab_cab]
  refine .trans (.of_mixing ?_) (restartTuners_keepsMix _)
  exact enterSupply_mixing ..

theorem takeClass_keepsMix (k : SampleClass) : KeepsMix s.cab (takeClass k s).cab := by
  unfold takeClass
  split
  · exact .refl _
  · exact enterLow_keepsMix s
  · exact .of_mixing (enterSupply_mixing ..)
  · exact .of_mixing (enterSupply_mixing ..)
  · exact .of_mixing (enterSupply_mixing ..)
  · exact .refl _
  · exact .of_mixing (enterSupply_mixing ..)
  · exact leaveLow_keepsMix s
  · exact .refl _
  · exact .refl _
  · exact .refl _

theorem takeSample_keepsMix (mv : Nat) : KeepsMix s.cab (takeSample mv s).cab := by
  unfold takeSample firstSample
  dsimp only
  repeat' split
  · exact .of_mixing (enterSupply_mixing ..)
  · exact .of_mixing (enterSupply_mixing ..)
  · exact .trans (.of_mixing (by rfl)) (enterLow_keepsMix _)
  · exact .trans (.of_mixing (by rfl)) (takeClass_keepsMix ..)

/-! ## Resets and start-up (09, 10) -/

/-- Zones that hold nothing keep the numbers, whatever was before. -/
theorem KeepsMix.of_empty {c d : Cabin} (hz : ∀ z, (d.mixZone z).routes = [] ∧ (d.mixZone z).leaving = [] ∧
    (d.mixZone z).overlays = [] ∧ (d.mixZone z).leavingOverlays = []) (hj : d.builder.job = none) : KeepsMix c d := by
  refine .of_zones (fun z _ => ?_) fun _ b hb => absurd hb (by simp [hj])
  obtain ⟨hr, hl, ho, hlo⟩ := hz z
  simp [MixZone.keys, MixZone.Fits, hr, hl, ho, hlo]

theorem powerOnReset_keepsMix : KeepsMix s.cab (powerOnReset s).cab :=
  .of_empty (fun z => by cases z <;> exact ⟨rfl, rfl, rfl, rfl⟩) rfl

theorem supplySample_keepsMix (mv : Nat) : KeepsMix s.cab (supplySample mv s).cab := by
  unfold supplySample
  repeat' split
  · exact .refl _
  · exact powerOnReset_keepsMix s
  · exact takeSample_keepsMix s mv

theorem liteCabin_keepsMix (img : Image) (c : Cabin) : KeepsMix c (liteCabin img c) := by
  unfold liteCabin
  extract_lets mix reset
  have hreset : KeepsMix c reset := .of_empty (fun z => by simp [reset, Cabin.mixZone, liteMixZone, emptyMixZone]) rfl
  clear_value reset
  refine hreset.same ((discardPass_mixing _).trans ?_)
  simp [liteAllocator, Cabin.mixing]

theorem liteReset_keepsMix (p : Port) : KeepsMix s.cab (liteReset p s).cab := by
  unfold liteReset
  split
  · exact (KeepsMix.refl s.cab).refuse ..
  · exact ((liteCabin_keepsMix ..).same (setDrive_mixing ..)).respond ..

theorem liteResetEnd_keepsMix : KeepsMix s.cab (liteResetEnd s).cab := by
  unfold liteResetEnd
  split
  · have hend : KeepsMix s.cab (liteEndCabin s.cab) := by
      unfold liteEndCabin
      exact KeepsMix.settleDirectory (.of_mixing (by simp [Cabin.mixing]))
    refine hend.same ?_
    rw [setDrive_mixing, onCab_cab]
  · exact .refl _

theorem beginRunning_keepsMix (img : Image) (c : Cabin) : KeepsMix c (beginRunning img c) := by
  unfold beginRunning
  exact KeepsMix.settleRoutes (.of_mixing (by simp [Cabin.mixing]))

@[simp] theorem beginLocking_mixing : (beginLocking s).cab.mixing = s.cab.mixing := by
  unfold beginLocking
  split
  · exact postRing_mixing _
  · rfl

theorem imageLoadEnd_keepsMix (e : EepromRead) : KeepsMix s.cab (imageLoadEnd e s).cab := by
  unfold imageLoadEnd
  dsimp only
  split
  · refine KeepsMix.same ?_ (beginLocking_mixing _)
    rw [onCab_cab]
    exact .trans (.of_mixing (by rfl)) (beginRunning_keepsMix ..)
  · exact .refl _

theorem takeRequest_keepsMix {p : Port} {k : State → State} {s : State} (h : KeepsMix s.cab (k s).cab) :
    KeepsMix s.cab (takeRequest p k s).cab := by
  unfold takeRequest
  split
  · exact .refl _
  · exact (KeepsMix.refl s.cab).refuse ..
  · exact (KeepsMix.refl s.cab).refuse ..
  · exact h

theorem relaySend_keepsMix (p : Port) (w : Word) (c : Cabin) : KeepsMix c (relaySend p w c) := by
  unfold relaySend
  split
  · exact (KeepsMix.refl c).refuse ..
  · exact (((KeepsMix.refl c).same (by rfl)).post ..).respond ..

theorem relayTake_keepsMix (p : Port) (c : Cabin) : KeepsMix c (relayTake p c) := by
  unfold relayTake
  split
  · exact (KeepsMix.refl c).refuse ..
  · exact (((KeepsMix.refl c).same (by rfl)).post ..).respond ..

theorem cabRequest_keepsMix {p : Port} {k : Cabin → Cabin} {s : State} (h : KeepsMix s.cab (k s.cab)) :
    KeepsMix s.cab (cabRequest p k s).cab := takeRequest_keepsMix (k := State.onCab k) h

end States

/-! ## Every command -/

theorem exec_keepsMix (i : Instr) (s : State) : ∃ t, exec i s = .next t ∧ KeepsMix s.cab t.cab :=
  match i with
  | .portSelect _ => ⟨_, rfl, .of_mixing rfl⟩
  | .transactionAbandoned _ => ⟨_, rfl, .refl _⟩
  | .unknownRequest _ _ _ => ⟨_, rfl, cabRequest_keepsMix (.of_mixing rfl)⟩
  | .placeRoute _ _ => ⟨_, rfl, cabRequest_keepsMix (placeRoute_keepsMix ..)⟩
  | .alterRoute _ _ _ => ⟨_, rfl, cabRequest_keepsMix (alterRoute_keepsMix ..)⟩
  | .park _ _ => ⟨_, rfl, cabRequest_keepsMix (parkRoute_keepsMix ..)⟩
  | .unpark _ _ => ⟨_, rfl, cabRequest_keepsMix (unparkRoute_keepsMix ..)⟩
  | .retireRoute _ _ => ⟨_, rfl, cabRequest_keepsMix (retireRoute_keepsMix ..)⟩
  | .readRoute _ _ => ⟨_, rfl, cabRequest_keepsMix (readRoute_keepsMix ..)⟩
  | .clearMarks _ _ => ⟨_, rfl, cabRequest_keepsMix (clearMarks_keepsMix ..)⟩
  | .setZone _ _ _ => ⟨_, rfl, cabRequest_keepsMix (setZone_keepsMix ..)⟩
  | .readZone _ _ => ⟨_, rfl, cabRequest_keepsMix (readZone_keepsMix ..)⟩
  | .linkList _ _ _ => ⟨_, rfl, cabRequest_keepsMix (linkList_keepsMix ..)⟩
  | .grantRearControl _ _ => ⟨_, rfl, cabRequest_keepsMix (grantRearControl_keepsMix ..)⟩
  | .clearZoneRoutes _ _ => ⟨_, rfl, cabRequest_keepsMix (clearZoneRoutes_keepsMix ..)⟩
  | .mediaState _ _ _ _ _ => ⟨_, rfl, cabRequest_keepsMix (mediaState_keepsMix ..)⟩
  | .enterHold _ => ⟨_, rfl, cabRequest_keepsMix (enterHold_keepsMix ..)⟩
  | .releaseHold _ => ⟨_, rfl, cabRequest_keepsMix (releaseHold_keepsMix ..)⟩
  | .readStation _ _ => ⟨_, rfl, cabRequest_keepsMix (readStation_keepsMix ..)⟩
  | .walkStations _ _ _ => ⟨_, rfl, cabRequest_keepsMix (walkStations_keepsMix ..)⟩
  | .addStation _ _ _ => ⟨_, rfl, cabRequest_keepsMix (addStation_keepsMix ..)⟩
  | .keep _ _ => ⟨_, rfl, cabRequest_keepsMix (keepStation_keepsMix ..)⟩
  | .unkeep _ _ => ⟨_, rfl, cabRequest_keepsMix (keepStation_keepsMix ..)⟩
  | .retireStation _ _ => ⟨_, rfl, cabRequest_keepsMix (retireStation_keepsMix ..)⟩
  | .setTrafficWatch _ _ _ => ⟨_, rfl, cabRequest_keepsMix (setTrafficWatch_keepsMix ..)⟩
  | .readReception _ => ⟨_, rfl, cabRequest_keepsMix (.of_mixing rfl)⟩
  | .startChime _ _ _ => ⟨_, rfl, cabRequest_keepsMix (startChime_keepsMix ..)⟩
  | .cancelAnnouncement _ _ => ⟨_, rfl, cabRequest_keepsMix (cancelAnnouncement_keepsMix ..)⟩
  | .startNav _ _ => ⟨_, rfl, cabRequest_keepsMix (startNav_keepsMix ..)⟩
  | .keepNav _ => ⟨_, rfl, cabRequest_keepsMix (keepNav_keepsMix ..)⟩
  | .endNav _ => ⟨_, rfl, cabRequest_keepsMix (endNav_keepsMix ..)⟩
  | .setPattern _ _ _ => ⟨_, rfl, cabRequest_keepsMix (setPattern_keepsMix ..)⟩
  | .readPattern _ _ => ⟨_, rfl, cabRequest_keepsMix (readPattern_keepsMix ..)⟩
  | .readAnnouncements _ => ⟨_, rfl, cabRequest_keepsMix (.of_mixing rfl)⟩
  | .openCall _ _ => ⟨_, rfl, cabRequest_keepsMix (openCall_keepsMix ..)⟩
  | .answer _ _ => ⟨_, rfl, cabRequest_keepsMix (answerCall_keepsMix ..)⟩
  | .holdCall _ _ => ⟨_, rfl, cabRequest_keepsMix (holdCall_keepsMix ..)⟩
  | .resume _ _ => ⟨_, rfl, cabRequest_keepsMix (resumeCall_keepsMix ..)⟩
  | .endCall _ _ => ⟨_, rfl, cabRequest_keepsMix (endCall_keepsMix ..)⟩
  | .setListeners _ _ _ => ⟨_, rfl, cabRequest_keepsMix (setListeners_keepsMix ..)⟩
  | .setCall _ _ _ => ⟨_, rfl, cabRequest_keepsMix (setCall_keepsMix ..)⟩
  | .setUplinkGain _ _ => ⟨_, rfl, cabRequest_keepsMix (setUplinkGain_keepsMix ..)⟩
  | .joinCall _ _ _ => ⟨_, rfl, cabRequest_keepsMix (joinCall_keepsMix ..)⟩
  | .leaveCall _ _ _ => ⟨_, rfl, cabRequest_keepsMix (leaveCall_keepsMix ..)⟩
  | .readCall _ _ => ⟨_, rfl, cabRequest_keepsMix (readCall_keepsMix ..)⟩
  | .readRing _ => ⟨_, rfl, takeRequest_keepsMix (.of_mixing rfl)⟩
  | .readNode _ _ => ⟨_, rfl, takeRequest_keepsMix (.of_mixing (readNode_mixing ..))⟩
  | .restartNode _ _ => ⟨_, rfl, takeRequest_keepsMix (.of_mixing (restartNode_mixing ..))⟩
  | .systemMute _ _ => ⟨_, rfl, takeRequest_keepsMix (.of_mixing (systemMute_mixing ..))⟩
  | .expectDip _ => ⟨_, rfl, takeRequest_keepsMix (.of_mixing (expectDip_mixing ..))⟩
  | .readEvents _ => ⟨_, rfl, cabRequest_keepsMix (.of_mixing rfl)⟩
  | .relaySend _ _ => ⟨_, rfl, cabRequest_keepsMix (relaySend_keepsMix ..)⟩
  | .relayTake _ => ⟨_, rfl, cabRequest_keepsMix (relayTake_keepsMix ..)⟩
  | .liteReset _ => ⟨_, rfl, takeRequest_keepsMix (liteReset_keepsMix ..)⟩
  | .liteResetEnd => ⟨_, rfl, liteResetEnd_keepsMix _⟩
  | .powerOnReset => ⟨_, rfl, powerOnReset_keepsMix _⟩
  | .imageLoadEnd _ => ⟨_, rfl, imageLoadEnd_keepsMix ..⟩
  | .supplySample _ => ⟨_, rfl, supplySample_keepsMix ..⟩
  | .settleTimerExpiry => ⟨_, rfl, .of_mixing (settleTimerExpiry_mixing _)⟩
  | .recoverStep => ⟨_, rfl, .of_mixing (recoverStep_mixing _)⟩
  | .expectWindowExpiry => ⟨_, rfl, .of_mixing (expectWindowExpiry_mixing _)⟩
  | .rampTick => ⟨_, rfl, .onCab (rampCabin_keepsMix ..)⟩
  | .mixSample _ => ⟨_, rfl, .of_mixing ((uplinkCabin_mixing ..).trans (mixCabin_mixing ..))⟩
  | .planBuildComplete => ⟨_, rfl, .onCab (completeBuild_keepsMix ..)⟩
  | .measurement _ _ => ⟨_, rfl, .onCab (.of_mixing (measurement_mixing ..))⟩
  | .diversityOff _ => ⟨_, rfl, .onCab (.of_mixing (diversityOff_mixing ..))⟩
  | .diversityTuneComplete => ⟨_, rfl, .of_mixing rfl⟩
  | .retuneComplete _ => ⟨_, rfl, .onCab (retuneComplete_keepsMix ..)⟩
  | .followStart _ => ⟨_, rfl, .onCab (followStart_keepsMix ..)⟩
  | .followProbeComplete _ => ⟨_, rfl, .onCab (.of_mixing (followProbeComplete_mixing ..))⟩
  | .followWinnerTuned => ⟨_, rfl, .onCab (.of_mixing (followWinnerTuned_mixing _))⟩
  | .excursionStart _ => ⟨_, rfl, .onCab (excursionStart_keepsMix ..)⟩
  | .excursionEnd _ _ => ⟨_, rfl, .onCab (excursionEnd_keepsMix ..)⟩
  | .scanMeasurement _ => ⟨_, rfl, .onCab (.of_mixing (scanMeasurement_mixing ..))⟩
  | .dwellTimeout => ⟨_, rfl, .onCab (dwellEnd_keepsMix ..)⟩
  | .dataGroup _ _ => ⟨_, rfl, .onCab (dataGroup_keepsMix ..)⟩
  | .cadenceTick => ⟨_, rfl, .onCab (.of_mixing (cadenceTick_mixing _))⟩
  | .chimeCompleted _ => ⟨_, rfl, .onCab (chimeCompleted_keepsMix ..)⟩
  | .navTimeout => ⟨_, rfl, .onCab (navTimeout_keepsMix _)⟩
  | .trafficTimeout _ => ⟨_, rfl, .onCab (trafficTimeout_keepsMix ..)⟩
  | .echoBlockEnd => ⟨_, rfl, .onCab (.of_mixing (endBlock_mixing _))⟩
  | .doubleTalkTimeout => ⟨_, rfl, .onCab (.of_mixing (doubleTalkOut_mixing _))⟩
  | .returnFrame _ => ⟨_, rfl, .of_mixing rfl⟩
  | .ringUp => ⟨_, rfl, .of_mixing (ringUp_mixing _)⟩
  | .ringDown => ⟨_, rfl, .of_mixing (ringDown_mixing _)⟩
  | .nodeLost _ => ⟨_, rfl, .of_mixing (nodeLost_mixing ..)⟩
  | .discoveryPoll => ⟨_, rfl, .of_mixing (discoveryPoll_mixing _)⟩
  | .pollAnswer _ => ⟨_, rfl, .of_mixing (pollAnswer_mixing ..)⟩
  | .abilityPage _ _ => ⟨_, rfl, .of_mixing (abilityPage_mixing ..)⟩
  | .pageTimerExpiry _ => ⟨_, rfl, .of_mixing (pageTimerExpiry_mixing ..)⟩
  | .configPageAnswer _ _ => ⟨_, rfl, .of_mixing (configPageAnswer_mixing ..)⟩
  | .configTimeout _ => ⟨_, rfl, .of_mixing (configTimeout_mixing ..)⟩
  | .statusReport _ _ => ⟨_, rfl, .of_mixing (statusReport_mixing ..)⟩
  | .muteLineChange _ => ⟨_, rfl, .of_mixing (muteLineChange_mixing ..)⟩
  | .startUp _ _ => ⟨_, rfl, .of_mixing (startUp_mixing ..)⟩

/-- Settles O57: no command of `exec` breaks the numbers of the mix. -/
theorem everyStepKeepsTheMixWithinItsNumbers : Obligations.EveryStepKeepsTheMixWithinItsNumbers := by
  intro s t h
  unfold step at h
  split at h
  · obtain rfl := Host.Outcome.next.inj h
    exact (KeepsMix.refl _).keeps
  · rename_i i rest _
    obtain ⟨u, hu, hk⟩ := exec_keepsMix i { s with pending := rest }
    rw [hu] at h
    obtain rfl := Host.Outcome.next.inj h
    exact hk.keeps

end Sys2Proof.Machine
end

section
/-! SUPPORT. Level arithmetic (02 R24), the targets of route contributions and of overlays (02 R28 to R31, R33), and how
many ticks a ramp takes (02 R34). -/

namespace Sys2Proof.Machine

/-! ## Ramps (02 R34) -/

/-- Ramping between levels moves one step at each tick and stops at the target. -/
theorem rampStep_iterate_steps (level target : Int) (n : Nat) : (rampStep · (.steps target))^[n] (.steps level) =
    .steps (if level ≤ target then min target (level + n) else max target (level - n)) := by
  induction n with
  | zero => rw [Function.iterate_zero_apply]; congr 1; split <;> omega
  | succ n ih =>
    rw [Function.iterate_succ_apply', ih]
    simp only [rampStep, stepTowards, Level.steps.injEq]
    split <;> omega

/-- A ramp from silent enters at -192 with its first tick. -/
theorem rampStep_iterate_of_silent {target : Int} (h : -192 ≤ target) (n : Nat) :
    (rampStep · (.steps target))^[n] .silent = .steps target ↔ (target + 193).toNat ≤ n := by
  cases n with
  | zero => simp only [Function.iterate_zero_apply, reduceCtorEq, false_iff]; omega
  | succ n =>
    have hfirst : rampStep .silent (.steps target) = .steps (-192) := rfl
    rw [Function.iterate_succ_apply, hfirst, rampStep_iterate_steps, if_pos h, Level.steps.injEq]
    omega

/-- A ramp to silent falls one step at each tick, and becomes silent at the tick after -192. -/
theorem rampStep_iterate_to_silent {level : Int} (h : -192 ≤ level) (n : Nat) :
    (rampStep · .silent)^[n] (.steps level) = if (level + 193).toNat ≤ n then .silent else .steps (level - n) := by
  induction n with
  | zero => simp only [Function.iterate_zero_apply]; rw [if_neg (by omega)]; simp
  | succ n ih =>
    rw [Function.iterate_succ_apply', ih]
    by_cases hn : (level + 193).toNat ≤ n
    · rw [if_pos hn, if_pos (by omega)]; rfl
    · rw [if_neg hn]
      simp only [rampStep]
      by_cases hlast : level - n ≤ -192
      · rw [if_pos hlast, if_pos (by omega)]
      · rw [if_neg hlast, if_neg (by omega)]
        congr 1
        omega

/-- While the line is seen asserted a level falls four steps at each tick, stops at -192, and is silent at the tick
after. -/
theorem mutedStep_iterate (n : Nat) :
    mutedStep^[n] (.steps 0) = if 49 ≤ n then .silent else .steps (max (-192) (-4 * n)) := by
  induction n with
  | zero => rfl
  | succ n ih =>
    have hstep : ∀ l, mutedStep (.steps l) = if l ≤ -192 then .silent else .steps (max (-192) (l - 4)) := fun _ => rfl
    rw [Function.iterate_succ_apply', ih]
    by_cases hn : 49 ≤ n
    · rw [if_pos hn, if_pos (by omega)]; rfl
    · rw [if_neg hn, hstep]
      by_cases hlast : max (-192) (-4 * (n : Int)) ≤ -192
      · rw [if_pos hlast, if_pos (by omega)]
      · rw [if_neg hlast, if_neg (by omega)]
        rw [Level.steps.injEq]
        omega

/-! ## Targets (02 R28 to R31, R33) -/

/-- A level with a lower offset is silent, or lower by as much as the offset. -/
theorem Level.add_sub (l : Level) (k : Int) {d : Int} (hd : 0 ≤ d) :
    l.add (k - d) = .silent ∨ ∃ a, l.add k = .steps a ∧ l.add (k - d) = .steps (a - d) := by
  cases l with
  | silent => exact .inl rfl
  | steps n =>
    simp only [Level.add, Level.ofSum]
    by_cases hs : n + (k - d) < -192
    · exact .inl (if_pos hs)
    · refine .inr ⟨n + k, if_neg (by omega), ?_⟩
      rw [if_neg hs]
      congr 1
      omega

/-- A bulletin of the same source, or the recorded user mute, silences a contribution (02 R30). -/
theorem routeTarget_silenced {e : ZoneEntry} {crank : Int} {m : MixZone} {x : RouteShare}
    (h : bulletinOn m x.source = true ∨ recordedMute m = true) : routeTarget e crank m x = .silent := by
  rw [routeTarget, if_pos (by simpa using h)]

/-- Otherwise its duck offset decides (02 R29, R30). -/
theorem routeTarget_open {e : ZoneEntry} {crank : Int} {m : MixZone} {x : RouteShare}
    (hb : bulletinOn m x.source = false) (hm : recordedMute m = false) :
    (duckOffset m x.duck = .silent → routeTarget e crank m x = .silent) ∧
    ∀ d, duckOffset m x.duck = .steps d → routeTarget e crank m x = (x.planned.cap e.ceiling).add (d + crank) := by
  rw [routeTarget, if_neg (by simp [hb, hm])]
  exact ⟨fun h => by rw [h], fun d h => by rw [h]⟩

theorem routeTarget_crank (e : ZoneEntry) (m : MixZone) (x : RouteShare) : routeTarget e (-36) m x = .silent ∨
    ∃ a, routeTarget e 0 m x = .steps a ∧ routeTarget e (-36) m x = .steps (a - 36) := by
  by_cases h : bulletinOn m x.source = true ∨ recordedMute m = true
  · exact .inl (routeTarget_silenced h)
  · obtain ⟨hb, hm⟩ := not_or.mp h
    rw [Bool.not_eq_true] at hb hm
    cases hd : duckOffset m x.duck with
    | silent => exact .inl ((routeTarget_open hb hm).1 hd)
    | steps d =>
      rw [(routeTarget_open hb hm).2 d hd, (routeTarget_open hb hm).2 d hd, add_zero]
      exact Level.add_sub _ d (by omega : (0 : Int) ≤ 36)

/-- The columns of R29's table. -/
theorem routeTarget_columns (e : ZoneEntry) (crank : Int) (m : MixZone) (x : RouteShare) (v : Recorded)
    (hv : m.recorded = some v) (hb : bulletinOn m x.source = false) (hmute : v.userMute = false) :
    (x.duck = .mute → (m.audible ≠ none ∨ m.listened ≠ none) → routeTarget e crank m x = .silent) ∧
    (x.duck = .ignore ∨ (m.audible = none ∧ m.listened = none) →
      routeTarget e crank m x = (x.planned.cap e.ceiling).add crank) ∧
    (x.duck = .duck → m.audible ≠ none → m.listened = none →
      routeTarget e crank m x = (x.planned.cap e.ceiling).add (v.duckDepth + crank)) ∧
    (x.duck = .duck → m.audible = none → m.listened ≠ none →
      routeTarget e crank m x = (x.planned.cap e.ceiling).add (v.callDuckDepth + crank)) ∧
    (x.duck = .duck → m.audible ≠ none → m.listened ≠ none →
      routeTarget e crank m x = (x.planned.cap e.ceiling).add (min v.duckDepth v.callDuckDepth + crank)) := by
  obtain ⟨hsilent, hsteps⟩ := routeTarget_open (e := e) (crank := crank) hb (by simp [recordedMute, hv, hmute])
  refine ⟨fun hd h => hsilent ?_, fun h => ?_, fun hd ha hl => hsteps _ ?_, fun hd ha hl => hsteps _ ?_,
    fun hd ha hl => hsteps _ ?_⟩
  · obtain h | h := h
    · simp [duckOffset, hd, Option.isSome_iff_ne_none.mpr h]
    · simp [duckOffset, hd, Option.isSome_iff_ne_none.mpr h]
  · have hzero : duckOffset m x.duck = .steps 0 := by
      obtain hd | ⟨ha, hl⟩ := h
      · rw [hd]; rfl
      · cases hd : x.duck <;> simp [duckOffset, ha, hl, hv]
    rw [hsteps 0 hzero, zero_add]
  · obtain ⟨a, ha⟩ := Option.ne_none_iff_exists'.mp ha
    simp [duckOffset, hd, hv, ha, hl]
  · obtain ⟨h, hl⟩ := Option.ne_none_iff_exists'.mp hl
    simp [duckOffset, hd, hv, ha, hl]
  · obtain ⟨a, ha⟩ := Option.ne_none_iff_exists'.mp ha
    obtain ⟨h, hl⟩ := Option.ne_none_iff_exists'.mp hl
    simp [duckOffset, hd, hv, ha, hl]

theorem overlayLevel_of_entry (c : Cabin) (e : ZoneEntry) (a : Audible) : overlayLevel c e (.entry a) =
    some (match a.kind with
      | .traffic _ => e.traffic | .nav => e.nav | .chime => e.chime | .ring => e.ring | .waiting => e.ring) := by
  obtain ⟨i, kind⟩ := a
  cases kind <;> rfl

theorem overlayTarget_of_level {c : Cabin} {e : ZoneEntry} {crank level : Int} {k : OverlayKey}
    (h : overlayLevel c e k = some level) : overlayTarget c e crank k =
      if min level e.ceiling + max crank (-12) < -192 then .silent else .steps (min level e.ceiling + max crank (-12)) := by
  rw [overlayTarget, h]
  rfl

/-- Settles O19: the ramps are iterations of one tick, and the targets follow R29's table and R33 case by case. -/
theorem targetsAndRamps : Obligations.TargetsAndRamps := by
  refine ⟨fun target h _ n => rampStep_iterate_of_silent h n, fun level h _ n => ?_, rampStep_iterate_steps, fun n => ?_,
    fun e crank m x v hv => ⟨fun h => ?_, fun hb hmute => routeTarget_columns e crank m x v hv hb hmute⟩,
    routeTarget_crank, fun c e crank level k h => overlayTarget_of_level ?_⟩
  · rw [rampStep_iterate_to_silent h]
    split <;> simp_all
  · rw [mutedStep_iterate]
    split <;> simp_all
  · exact routeTarget_silenced (h.imp_right fun hm => by simp [recordedMute, hv, hm])
  · obtain ⟨a, rfl, rfl⟩ | ⟨i, r, rfl, hgen, hr, rfl⟩ := h
    · exact overlayLevel_of_entry c e a
    · simp [overlayLevel, hgen, hr]

end Sys2Proof.Machine
end

section
/-! SUPPORT. The factor of a level and the scaling of samples (02 R37), and raw and smoothed quality (05 R86, R87). -/

namespace Sys2Proof.Machine

/-! ## Factors (02 R37) -/

/-- Building a number bit by bit gives the largest number below `x + 2 ^ b` that `ok` holds of, where `ok` holds of
`x`, and of every number below one of which it holds. -/
theorem buildBits_spec {ok : Nat → Bool} (hmono : ∀ {m n}, m ≤ n → ok n = true → ok m = true) (b x : Nat)
    (hx : ok x = true) : ok (buildBits ok b x) = true ∧ x ≤ buildBits ok b x ∧ buildBits ok b x < x + 2 ^ b ∧
      ∀ y, buildBits ok b x < y → y < x + 2 ^ b → ok y = false := by
  induction b generalizing x with
  | zero => exact ⟨hx, Nat.le_refl x, Nat.lt_succ_self x, fun y hy h => absurd hy (by simp [buildBits]; omega)⟩
  | succ b ih =>
    rw [buildBits, Nat.pow_succ]
    split
    · rename_i hbit
      obtain ⟨hok, hle, hlt, hmax⟩ := ih (x + 2 ^ b) hbit
      exact ⟨hok, by omega, by omega, fun y hy h => hmax y hy (by omega)⟩
    · rename_i hbit
      obtain ⟨hok, hle, hlt, hmax⟩ := ih x hx
      refine ⟨hok, hle, by omega, fun y hy h => ?_⟩
      by_cases hy' : y < x + 2 ^ b
      · exact hmax y hy hy'
      · exact Bool.eq_false_iff.mpr fun h => hbit (hmono (by omega) h)

/-- Twice the factor, rounded down, is the largest number whose 40th power does not exceed that of twice
2^20 * 10^(l/40). -/
theorem twiceFactor_spec {l : Int} (hl : l ≤ 24) :
    twiceFactor l ^ 40 * 10 ^ (-l).toNat ≤ 2 ^ 840 * 10 ^ l.toNat ∧
    2 ^ 840 * 10 ^ l.toNat < (twiceFactor l + 1) ^ 40 * 10 ^ (-l).toNat := by
  set ok : Nat → Bool := fun x => decide (x ^ 40 * 10 ^ (-l).toNat ≤ 2 ^ 840 * 10 ^ l.toNat)
  have hmono : ∀ {m n : Nat}, m ≤ n → ok n = true → ok m = true := fun {m n} hmn hn =>
    decide_eq_true ((Nat.mul_le_mul_right _ (Nat.pow_le_pow_left hmn 40)).trans (of_decide_eq_true hn))
  have htop : ok (2 ^ 24) = false := by
    refine decide_eq_false (Nat.not_le.mpr ?_)
    calc 2 ^ 840 * 10 ^ l.toNat
      _ ≤ 2 ^ 840 * 10 ^ 24 := Nat.mul_le_mul_left _ (Nat.pow_le_pow_right (by omega) (by omega))
      _ < 2 ^ 840 * 2 ^ 120 := by gcongr; norm_num
      _ = (2 ^ 24) ^ 40 * 1 := by rw [← pow_add, ← pow_mul, mul_one]
      _ ≤ (2 ^ 24) ^ 40 * 10 ^ (-l).toNat := Nat.mul_le_mul_left _ (Nat.one_le_pow _ _ (by omega))
  have hzero : ok 0 = true := decide_eq_true (by rw [zero_pow (by omega), zero_mul]; exact Nat.zero_le _)
  obtain ⟨hlow, -, hlt, hmax⟩ := buildBits_spec hmono 24 0 hzero
  have hdef : twiceFactor l = buildBits ok 24 0 := rfl
  rw [← hdef] at hlow hlt hmax
  refine ⟨of_decide_eq_true hlow, Nat.not_le.mp (of_decide_eq_false ?_)⟩
  obtain h | h := Nat.lt_or_ge (twiceFactor l + 1) (2 ^ 24)
  · exact hmax _ (Nat.lt_succ_self _) (by omega)
  · exact Bool.eq_false_iff.mpr fun hok' => Bool.eq_false_iff.mp htop (hmono h hok')

/-- The factor is 2^20 * 10^(l/40) to the nearest integer. -/
theorem factorOf_nearest {l : Int} (hl : l ≤ 24) :
    (2 * factorOf l - 1) ^ 40 * 10 ^ (-l).toNat ≤ 2 ^ 840 * 10 ^ l.toNat ∧
    2 ^ 840 * 10 ^ l.toNat < (2 * factorOf l + 1) ^ 40 * 10 ^ (-l).toNat := by
  obtain ⟨hlow, hhigh⟩ := twiceFactor_spec hl
  have hle : 2 * factorOf l - 1 ≤ twiceFactor l := by unfold factorOf; omega
  have hge : twiceFactor l + 1 ≤ 2 * factorOf l + 1 := by unfold factorOf; omega
  exact ⟨(Nat.mul_le_mul_right _ (Nat.pow_le_pow_left hle 40)).trans hlow,
    hhigh.trans_le (Nat.mul_le_mul_right _ (Nat.pow_le_pow_left hge 40))⟩

theorem factorOf_pos {l : Int} (h : -192 ≤ l) (hl : l ≤ 24) : 0 < factorOf l := by
  obtain ⟨-, hhigh⟩ := twiceFactor_spec hl
  have hne : twiceFactor l ≠ 0 := by
    intro h0
    rw [h0] at hhigh
    have hsmall : (0 + 1) ^ 40 * 10 ^ (-l).toNat ≤ 2 ^ 840 * 10 ^ l.toNat :=
      calc (0 + 1) ^ 40 * 10 ^ (-l).toNat
        _ ≤ 1 * 10 ^ 192 := Nat.mul_le_mul (by norm_num) (Nat.pow_le_pow_right (by omega) (by omega))
        _ = (10 ^ 3) ^ 64 := by rw [← pow_mul, one_mul]
        _ ≤ (2 ^ 10) ^ 64 := Nat.pow_le_pow_left (by norm_num) 64
        _ ≤ (2 ^ 10) ^ 84 := Nat.pow_le_pow_right (by norm_num) (by norm_num)
        _ = 2 ^ 840 * 1 := by rw [← pow_mul, mul_one]
        _ ≤ 2 ^ 840 * 10 ^ l.toNat := Nat.mul_le_mul_left _ (Nat.one_le_pow _ _ (by omega))
    omega
  unfold factorOf
  omega

/-- A level at or below 0 dB never amplifies. -/
theorem factorOf_le {l : Int} (hl : l ≤ 0) : factorOf l ≤ 2 ^ 20 := by
  obtain ⟨hlow, -⟩ := twiceFactor_spec (hl.trans (by omega))
  have hpow : twiceFactor l ^ 40 ≤ (2 ^ 21) ^ 40 :=
    calc twiceFactor l ^ 40
      _ ≤ twiceFactor l ^ 40 * 10 ^ (-l).toNat := Nat.le_mul_of_pos_right _ (by positivity)
      _ ≤ 2 ^ 840 * 10 ^ l.toNat := hlow
      _ = (2 ^ 21) ^ 40 := by rw [Int.toNat_of_nonpos hl, pow_zero, mul_one, ← pow_mul]
  have htwice : twiceFactor l ≤ 2 ^ 21 := (Nat.pow_le_pow_iff_left (by omega)).mp hpow
  unfold factorOf
  omega

/-! ## Scaling (02 R37) -/

theorem scale_neg (f : Nat) (x : Int) : scale f (-x) = -scale f x := by
  simp [scale, Int.sign_neg]

theorem scale_of_nonneg (f : Nat) {x : Int} (h : 0 ≤ x) : scale f x = ((x.natAbs * f + 2 ^ 19) / 2 ^ 20 : Nat) := by
  obtain rfl | h := h.eq_or_lt
  · simp [scale]
  · rw [scale, Int.sign_eq_one_of_pos h, one_mul]

theorem scale_natAbs (f : Nat) (x : Int) (hf : f ≤ 2 ^ 20) : (scale f x).natAbs ≤ x.natAbs := by
  have hround : ∀ n : Nat, (n * f + 2 ^ 19) / 2 ^ 20 ≤ n := fun n => by
    have hmul := Nat.mul_le_mul_left n hf
    omega
  have hcast : ∀ n : Nat, scale f n = ((n * f + 2 ^ 19) / 2 ^ 20 : Nat) := fun n =>
    scale_of_nonneg f (Int.natCast_nonneg n)
  obtain ⟨n, rfl | rfl⟩ := Int.eq_nat_or_neg x
  · rw [hcast, Int.natAbs_natCast, Int.natAbs_natCast]; exact hround n
  · rw [scale_neg, hcast, Int.natAbs_neg, Int.natAbs_neg, Int.natAbs_natCast, Int.natAbs_natCast]; exact hround n

theorem scale_nearest (f : Nat) (x : Int) (h : 0 ≤ x) :
    (2 * scale f x - 1) * 2 ^ 20 ≤ 2 * (x * f) ∧ 2 * (x * f) < (2 * scale f x + 1) * 2 ^ 20 := by
  lift x to Nat using h
  rw [scale_of_nonneg f (by omega), Int.natAbs_natCast]
  generalize hp : x * f = p
  have hcast : (x : Int) * f = p := by rw [← hp]; push_cast; ring
  rw [hcast]
  omega

/-! ## Qualities (05 R86, R87) -/

/-- The figure of R86 is rounded to the nearest integer, halves up, and limited. -/
theorem rawOf_eq {offset q : Int} {fs multipath adjacent : Nat}
    (hlow : 20 * q - 10 ≤ 25 * ((fs : Int) + offset - 10) - 10 * multipath - 6 * adjacent)
    (hhigh : 25 * ((fs : Int) + offset - 10) - 10 * multipath - 6 * adjacent < 20 * q + 10) :
    (rawOf offset fs multipath adjacent : Int) = max 0 (min 100 q) := by
  have hq : (25 * ((fs : Int) + offset - 10) - 10 * multipath - 6 * adjacent + 10) / 20 = q := by omega
  rw [rawOf, hq]
  exact Int.toNat_of_nonneg (le_max_left 0 (min 100 q))

/-- Falling, the smoothed quality reaches a raw quality that stays. -/
theorem smooth_iterate_of_le {old raw : Nat} (h : raw ≤ old) {n : Nat} (hn : old - raw ≤ n) :
    (fun q => smooth (some q) raw)^[n] old = raw := by
  induction n generalizing old with
  | zero => exact Nat.le_antisymm (by simpa using Nat.sub_eq_zero_iff_le.mp (Nat.le_zero.mp hn)) h
  | succ n ih =>
    rw [Function.iterate_succ_apply]
    exact ih (by simp only [smooth]; omega) (by simp only [smooth]; omega)

/-- Rising, it stays below and comes within 3 of it. -/
theorem smooth_iterate_of_lt {old raw : Nat} (h : old ≤ raw) {n : Nat} (hn : raw - old ≤ n + 3) :
    raw ≤ (fun q => smooth (some q) raw)^[n] old + 3 ∧ (fun q => smooth (some q) raw)^[n] old ≤ raw := by
  induction n generalizing old with
  | zero => exact ⟨by simp only [Function.iterate_zero_apply]; omega, h⟩
  | succ n ih =>
    rw [Function.iterate_succ_apply]
    exact ih (by simp only [smooth]; omega) (by simp only [smooth]; omega)

/-- Settles O21: the factor by the bits that build it, scaling by its one equation, the raw quality by the division of
the figure of R86, and the smoothed quality by induction on the measurements. -/
theorem factorsAndQualities : Obligations.FactorsAndQualities := by
  refine ⟨fun l h hl => ⟨factorOf_pos h hl, factorOf_le, factorOf_nearest hl⟩, rfl, scale_neg, scale_natAbs, scale_nearest,
    fun offset q f => rawOf_eq, fun offset q f hlow hhigh => rawOf_eq (multipath := 0) ?_ ?_, fun raw => rfl, fun old raw => ?_,
    fun old raw h n hn => smooth_iterate_of_le h hn, fun old raw h n hn => smooth_iterate_of_lt h.le (by omega)⟩
  · simpa using hlow
  · simpa using hhigh
  · simp only [smooth]
    omega

end Sys2Proof.Machine
end

section
/-! SUPPORT. A ramp tick (02 R34 to R36, 03 R52, 07 R132): which routes earn their heard mark, what the zones, the entries
and the uplink level become, and the passage to HOLDING. -/

namespace Sys2Proof.Machine

/-! ## Live routes (01 R6) -/

theorem liveRoute_eq_some {c : Cabin} {h : RouteId} {r : RouteRecord} :
    c.liveRoute h = some r ↔ c.route h.list h.slot = ⟨h.gen, some r⟩ := by
  unfold Cabin.liveRoute
  obtain ⟨g, q⟩ := c.route h.list h.slot
  by_cases hg : g = h.gen <;> simp [hg]

/-- The contribution is not orphaned and its route is live and PLAYING (02 R36, 03 R53). -/
theorem sharePlaying_iff (c : Cabin) (x : RouteShare) : sharePlaying c x = true ↔ x.orphaned = false ∧
    ∃ r, c.route x.route.list x.route.slot = ⟨x.route.gen, some r⟩ ∧ r.state = .playing := by
  unfold sharePlaying
  simp only [← liveRoute_eq_some]
  cases c.liveRoute x.route <;> simp

theorem Level.isSilent_eq (l : Level) : l.isSilent = decide (l = .silent) := by
  cases l <;> rfl

/-! ## Heard marks (02 R36) -/

/-- The heard mark is set on the route that is named, if it is live. -/
theorem markHeard_route (h : RouteId) (c : Cabin) (l : Fin 8) (k : Fin 6) : (markHeard h c).route l k =
    { c.route l k with record := (c.route l k).record.map fun r =>
        { r with heard := r.heard || decide (h = ⟨l, k, (c.route l k).gen⟩) } } := by
  obtain ⟨i, j, g⟩ := h
  unfold markHeard
  split
  · rename_i hlive
    cases hr : (c.route l k).record with
    | none => exact congrArg (RouteSlot.mk (c.route l k).gen) hr
    | some r =>
      have hne : (⟨i, j, g⟩ : RouteId) ≠ ⟨l, k, (c.route l k).gen⟩ := by
        rintro ⟨⟩
        simp [Cabin.liveRoute, hr] at hlive
      simp [hne, ← hr]
  · rename_i r hlive
    have hroute := liveRoute_eq_some.mp hlive
    simp only at hroute
    rw [setRouteRecord_route]
    split
    · rename_i hkey
      obtain ⟨rfl, rfl⟩ := Prod.mk.inj hkey
      simp [hroute]
    · rename_i hkey
      have hne : (⟨i, j, g⟩ : RouteId) ≠ ⟨l, k, (c.route l k).gen⟩ := by
        rintro ⟨⟩
        exact hkey rfl
      cases hr : (c.route l k).record <;> simp [hne, ← hr]

/-- Of all the routes named, each that is live has its mark set. -/
theorem markAllHeard_route (hs : List RouteId) (c : Cabin) (l : Fin 8) (k : Fin 6) :
    (hs.foldl (fun c h => markHeard h c) c).route l k =
      { c.route l k with record := (c.route l k).record.map fun r =>
          { r with heard := r.heard || decide ((⟨l, k, (c.route l k).gen⟩ : RouteId) ∈ hs) } } := by
  induction hs generalizing c with
  | nil => cases hr : (c.route l k).record <;> simp [← hr]
  | cons h hs ih =>
    rw [List.foldl_cons, ih, markHeard_route]
    simp [Function.comp_def, Bool.or_assoc, eq_comm (a := h)]

/-- Marking routes changes the lists of the directory alone. -/
theorem markAllHeard_rest {α : Type} (g : Cabin → α) (hg : ∀ l k r c, g (setRouteRecord l k r c) = g c)
    (hs : List RouteId) (c : Cabin) : g (hs.foldl (fun c h => markHeard h c) c) = g c := by
  refine foldl_keeps g _ (fun c h => ?_) hs c
  unfold markHeard
  split
  · rfl
  · exact hg ..

theorem earnsHeard_iff (c : Cabin) (x y : RouteShare) :
    earnsHeard c x y = true ↔ x.audibleSince = true ∧ y.current ≠ .silent ∧ sharePlaying c x = true := by
  simp [earnsHeard, Level.isSilent_eq, and_assoc]

/-- A tick towards silent leaves a level above silent only where a tick towards any target does. -/
theorem tickLevel_ne_silent {muted : Bool} {l : Level} (h : tickLevel muted l .silent ≠ .silent) (t : Level) :
    tickLevel muted l t ≠ .silent := by
  unfold tickLevel at *
  cases muted with
  | true => exact h
  | false =>
    cases l with
    | silent => exact absurd rfl h
    | steps a =>
      cases t with
      | silent => exact h
      | steps b => simp [rampStep]

/-- A route of a zone earns its mark by a contribution that has been above silent since the last tick. -/
theorem mem_heardRoutes {c : Cabin} {crank : Int} {muted : Bool} {z : Zone} {h : RouteId} :
    h ∈ heardRoutes c crank muted z ↔ ∃ x ∈ (c.mixZone z).routes ++ (c.mixZone z).leaving,
      x.route = h ∧ x.audibleSince = true ∧ sharePlaying c x = true ∧
      tickLevel muted x.current (if x ∈ (c.mixZone z).routes then routeTarget (c.zone z) crank (c.mixZone z) x
        else .silent) ≠ .silent := by
  simp only [heardRoutes, List.mem_map, List.mem_append, List.mem_filter, earnsHeard_iff, tickShare, tickLeaving]
  constructor
  · rintro ⟨x, ⟨hx, hs, hl, hp⟩ | ⟨hx, hs, hl, hp⟩, rfl⟩
    · exact ⟨x, .inl hx, rfl, hs, hp, by rwa [if_pos hx]⟩
    · exact ⟨x, .inr hx, rfl, hs, hp, tickLevel_ne_silent hl _⟩
  · rintro ⟨x, hx, rfl, hs, hp, hl⟩
    refine ⟨x, ?_, rfl⟩
    by_cases hplan : x ∈ (c.mixZone z).routes
    · exact .inl ⟨hplan, hs, by rwa [if_pos hplan] at hl, hp⟩
    · exact .inr ⟨hx.resolve_left hplan, hs, by rwa [if_neg hplan] at hl, hp⟩

/-! ## The times remaining (06 R115, R117) -/

theorem modifyEntry_entrySlot (i j : Fin 8) (f : Entry → Entry) (c : Cabin) : (modifyEntry i f c).entrySlot j =
    if j = i then ⟨(c.entrySlot j).gen, (c.entrySlot j).entry.map f⟩ else c.entrySlot j := by
  unfold modifyEntry
  split
  · rename_i he
    split
    · rename_i hj
      subst hj
      rw [he]
      exact congrArg (EntrySlot.mk _) he
    · rfl
  · rename_i e he
    rw [setEntrySlot_entrySlot]
    split
    · rename_i hj
      subst hj
      rw [he]
      rfl
    · rfl

/-- Every entry runs down. -/
theorem runDownAll_entrySlot (c : Cabin) (i : Fin 8) : (eachIdx 8 (fun i c => modifyEntry i runDown c) c).entrySlot i =
    ⟨(c.entrySlot i).gen, (c.entrySlot i).entry.map runDown⟩ :=
  foldl_reads_mem Cabin.entrySlot (fun c i => modifyEntry i runDown c)
    (fun _ v => ⟨v.gen, v.entry.map runDown⟩) (fun _ => True) (fun _ _ _ => trivial)
    (fun c i j _ => modifyEntry_entrySlot i j runDown c) (List.nodup_finRange 8) trivial (List.mem_finRange i)

theorem runDown_eq (e : Entry) : runDown e =
    { e with timeLeft := if e.kind = .nav ∨ e.kind.isTraffic = true then e.timeLeft - 1 else e.timeLeft } := by
  obtain ⟨kind, priority, targets, order, timeLeft⟩ := e
  cases kind <;> simp [runDown, EntryKind.isTraffic]

/-! ## The passage to HOLDING (03 R52) -/

theorem EventKind.idx_inj {j k : EventKind} : j.idx = k.idx ↔ j = k := by
  cases j <;> cases k <;> decide

/-- Posting adds its own kind at its own port and no other, while the part posts events. -/
theorem post_has_iff (p q : Port) (j k : EventKind) (c : Cabin) :
    EventSet.has ((post p k c).ports.events.get q) j = true ↔
      EventSet.has (c.ports.events.get q) j = true ∨ (q = p ∧ j = k ∧ c.ports.part.posts = true) := by
  unfold post
  split
  · rename_i hposts
    by_cases hq : q = p
    · subst hq
      by_cases hj : j = k
      · simp [hj, hposts, EventSet.has]
      · have hidx : j.idx ≠ k.idx := fun h => hj (EventKind.idx_inj.mp h)
        simp [hj, EventSet.has, Tab.get_set_ne _ _ _ _ hidx]
    · simp [hq, PerPort.get_set_ne _ _ _ _ hq]
  · rename_i hposts
    simp [hposts]

/-- Where a build is in flight or a contribution settles, or no hold is pending, nothing passes. -/
theorem settleHold_of_not {c : Cabin} (h : ¬ (c.builder.hold = .pending ∧ holdingReached c = true)) :
    settleHold c = c := if_neg h

theorem settleHold_of_reached {c : Cabin} (h : c.builder.hold = .pending) (hr : holdingReached c = true) :
    settleHold c = post .front .hold { c with builder := { c.builder with hold := .holding } } := if_pos ⟨h, hr⟩

theorem holdingReached_iff (c : Cabin) :
    holdingReached c = true ↔ c.builder.job = none ∧ anySettling c = false := by simp [holdingReached]

theorem anySettling_of_mix {c d : Cabin} (h : d.mix = c.mix) : anySettling d = anySettling c := by
  simp only [anySettling, Cabin.mixZone, h]

theorem anySettling_eq_false_iff (c : Cabin) : anySettling c = false ↔
    ∀ z, ∀ x ∈ (c.mixZone z).routes ++ (c.mixZone z).leaving, x.settling = false := by
  have hall : ∀ z : Zone, z ∈ Zone.all := fun z => by cases z <;> decide
  simp only [anySettling, List.any_eq_false, Bool.or_eq_true, not_or, List.any_eq_true, List.mem_append]
  constructor
  · rintro h z x (hx | hx)
    · exact Bool.eq_false_iff.mpr fun hs => (h z (hall z)).1 ⟨x, hx, hs⟩
    · exact Bool.eq_false_iff.mpr fun hs => (h z (hall z)).2 ⟨x, hx, hs⟩
  · exact fun h z _ => ⟨fun ⟨x, hx, hs⟩ => by simp [h z x (.inl hx)] at hs,
      fun ⟨x, hx, hs⟩ => by simp [h z x (.inr hx)] at hs⟩

/-- HOLD is seen at the front port where the state of the hold changes, and nowhere else. -/
theorem settleHold_has_iff (c : Cabin) (p : Port) (k : EventKind) :
    EventSet.has ((settleHold c).ports.events.get p) k = true ↔ EventSet.has (c.ports.events.get p) k = true ∨
      (p = .front ∧ k = .hold ∧ c.ports.part.posts = true ∧ c.builder.hold ≠ (settleHold c).builder.hold) := by
  by_cases h : c.builder.hold = .pending ∧ holdingReached c = true
  · rw [settleHold_of_reached h.1 h.2, post_has_iff]
    simp [h.1]
  · simp [settleHold_of_not h]

/-! ## The tick -/

/-- What a ramp tick has done before the HOLDING condition is tested. -/
structure Ticked (crank : Int) (muted : Bool) (c d : Cabin) : Prop where
  zone : ∀ z, d.mixZone z = tickMixZone c crank muted z (c.mixZone z)
  route : ∀ l k, d.route l k = { c.route l k with record := (c.route l k).record.map fun r =>
    { r with heard := r.heard || decide (⟨l, k, (c.route l k).gen⟩ ∈ Zone.all.flatMap (heardRoutes c crank muted)) } }
  entry : ∀ i, d.entrySlot i = ⟨(c.entrySlot i).gen, (c.entrySlot i).entry.map runDown⟩
  calls : d.calls = { c.calls with uplinkLevel := stepTowards c.calls.uplinkLevel (uplinkTarget c.calls) }
  ports : d.ports = c.ports
  builder : d.builder = c.builder
  table : d.table = c.table
  alloc : d.alloc = c.alloc
  channels : d.mix.channels = c.mix.channels
  zones : d.dir.zones = c.dir.zones
  rearControl : d.dir.rearControl = c.dir.rearControl
  media : d.dir.media = c.dir.media
  voices : d.queue.voices = c.queue.voices
  ends : d.queue.ends = c.queue.ends

theorem rampCabin_ticked (crank : Int) (muted : Bool) (c : Cabin) :
    ∃ d, rampCabin crank muted c = settleHold d ∧ Ticked crank muted c d := by
  unfold rampCabin
  extract_lets heard ticked calls levelled
  have hmark : ∀ {α : Type} (g : Cabin → α), (∀ l k r c, g (setRouteRecord l k r c) = g c) →
      g (heard.foldl (fun c h => markHeard h c) c) = g c := fun g hg => markAllHeard_rest g hg heard c
  have hroute : ∀ l k, ticked.route l k = _ := markAllHeard_route heard c
  have hzone : ∀ z, ticked.mixZone z = tickMixZone c crank muted z (c.mixZone z) := fun z => by
    rw [← hmark (·.mixZone z) fun _ _ _ _ => rfl]
    exact PerZone.get_build _ z
  have hrun : ∀ {α : Type} (g : Cabin → α), (∀ i c, g (modifyEntry i runDown c) = g c) →
      g (eachIdx 8 (fun i c => modifyEntry i runDown c) levelled) = g levelled :=
    fun g hg => eachIdx_keeps g 8 _ hg levelled
  refine ⟨_, rfl, ?_⟩
  constructor
  case zone => exact fun z => (hrun (·.mixZone z) fun i c => by simp [Cabin.mixZone]).trans (hzone z)
  case route => exact fun l k => (hrun (·.route l k) fun i c => by simp [Cabin.route]).trans (hroute l k)
  case entry =>
    intro i
    rw [runDownAll_entrySlot]
    exact hmark (fun d => EntrySlot.mk (d.entrySlot i).gen ((d.entrySlot i).entry.map runDown)) fun _ _ _ _ => rfl
  case calls =>
    refine (hrun (·.calls) fun i c => by simp).trans ?_
    exact hmark (fun d => { d.calls with uplinkLevel := stepTowards d.calls.uplinkLevel (uplinkTarget d.calls) })
      fun _ _ _ _ => rfl
  case ports => exact (hrun (·.ports) fun i c => by simp).trans (hmark (·.ports) fun _ _ _ _ => rfl)
  case builder => exact (hrun (·.builder) fun i c => by simp).trans (hmark (·.builder) fun _ _ _ _ => rfl)
  case table => exact (hrun (·.table) fun i c => by simp).trans (hmark (·.table) fun _ _ _ _ => rfl)
  case alloc => exact (hrun (·.alloc) fun i c => by simp).trans (hmark (·.alloc) fun _ _ _ _ => rfl)
  case channels => exact (hrun (·.mix.channels) fun i c => by simp).trans (hmark (·.mix.channels) fun _ _ _ _ => rfl)
  case zones => exact (hrun (·.dir.zones) fun i c => by simp).trans (hmark (·.dir.zones) fun _ _ _ _ => rfl)
  case rearControl =>
    exact (hrun (·.dir.rearControl) fun i c => by simp).trans (hmark (·.dir.rearControl) fun _ _ _ _ => rfl)
  case media => exact (hrun (·.dir.media) fun i c => by simp).trans (hmark (·.dir.media) fun _ _ _ _ => rfl)
  case voices => exact (hrun (·.queue.voices) fun i c => by simp).trans (hmark (·.queue.voices) fun _ _ _ _ => rfl)
  case ends => exact (hrun (·.queue.ends) fun i c => by simp).trans (hmark (·.queue.ends) fun _ _ _ _ => rfl)

/-- A tick of a zone, column by column (02 R34, R35, 03 R52). -/
theorem tickMixZone_columns (c : Cabin) (crank : Int) (muted : Bool) (z : Zone) (m : MixZone) :
    let m' := tickMixZone c crank muted z m
    m'.routes.map (·.current) = m.routes.map (fun x => tickLevel muted x.current (routeTarget (c.zone z) crank m x)) ∧
    m'.routes.map RouteShare.planOf = m.routes.map RouteShare.planOf ∧
    m'.routes.map (·.orphaned) = m.routes.map (·.orphaned) ∧
    m'.routes.map (·.settling) = m.routes.map (fun x =>
      let target := routeTarget (c.zone z) crank m x
      x.settling && decide (tickLevel muted x.current target ≠ if muted then .silent else target)) ∧
    m'.routes.map (·.audibleSince) = m.routes.map (fun x => sharePlaying c x &&
      decide (tickLevel muted x.current (routeTarget (c.zone z) crank m x) ≠ .silent)) ∧
    m'.leaving = (m.leaving.map fun x => { x with
      current := tickLevel muted x.current .silent,
      audibleSince := sharePlaying c x && decide (tickLevel muted x.current .silent ≠ .silent) }).filter
      (·.current ≠ .silent) ∧
    m'.leaving.map (·.current) = (m.leaving.map fun x => tickLevel muted x.current .silent).filter (· ≠ .silent) ∧
    m'.overlays.map (·.current) = m.overlays.map (fun o =>
      tickLevel muted o.current (overlayTarget c (c.zone z) crank o.key)) ∧
    m'.overlays.map (·.key) = m.overlays.map (·.key) ∧
    m'.leavingOverlays.map (·.current) =
      (m.leavingOverlays.map fun o => tickLevel muted o.current .silent).filter (· ≠ .silent) ∧
    m'.recorded = m.recorded ∧ m'.audible = m.audible ∧ m'.listened = m.listened := by
  intro m'
  have htick : tickLeaving c muted = fun x => { x with
      current := tickLevel muted x.current .silent,
      audibleSince := sharePlaying c x && decide (tickLevel muted x.current .silent ≠ .silent) } :=
    funext fun x => by simp [tickLeaving, Level.isSilent_eq, Bool.and_comm]
  have hleaving : m'.leaving = (m.leaving.map fun x => { x with
      current := tickLevel muted x.current .silent,
      audibleSince := sharePlaying c x && decide (tickLevel muted x.current .silent ≠ .silent) }).filter
      (·.current ≠ .silent) := by
    simp [m', tickMixZone, htick, Level.isSilent_eq]
  refine ⟨?_, ?_, ?_, ?_, ?_, hleaving, ?_, ?_, ?_, ?_, rfl, rfl, rfl⟩
  · simp [m', tickMixZone, tickShare]
  · simp [m', tickMixZone, tickShare, RouteShare.planOf]
  · simp [m', tickMixZone, tickShare]
  · simp only [m', tickMixZone, List.map_map]
    rfl
  · simp [m', tickMixZone, tickShare, Level.isSilent_eq, Bool.and_comm]
  · rw [hleaving]
    simp [List.filter_map, Function.comp_def]
  · simp [m', tickMixZone]
  · simp [m', tickMixZone]
  · simp [m', tickMixZone, Level.isSilent_eq, List.filter_map, Function.comp_def]

/-- A route's mark after a tick (02 R36). -/
theorem Ticked.heard_iff {crank : Int} {muted : Bool} {c d : Cabin} (h : Ticked crank muted c d) {l : Fin 8} {k : Fin 6}
    {r : RouteRecord} (hr : (c.route l k).record = some r) : ∃ q, (d.route l k).record = some q ∧
      (q.heard = true ↔ r.heard = true ∨ ∃ z, ∃ x ∈ (c.mixZone z).routes ++ (c.mixZone z).leaving,
        x.route = ⟨l, k, (c.route l k).gen⟩ ∧ x.orphaned = false ∧ x.audibleSince = true ∧ r.state = .playing ∧
        tickLevel muted x.current
          (if x ∈ (c.mixZone z).routes then routeTarget (c.zone z) crank (c.mixZone z) x else .silent) ≠ .silent) := by
  have hall : ∀ z : Zone, z ∈ Zone.all := fun z => by cases z <;> decide
  have hplaying : ∀ x : RouteShare, x.route = ⟨l, k, (c.route l k).gen⟩ →
      (sharePlaying c x = true ↔ x.orphaned = false ∧ r.state = .playing) := fun x hx => by
    rw [sharePlaying_iff, hx]
    refine and_congr_right fun _ => ⟨fun ⟨q, hq, hp⟩ => ?_, fun hp => ⟨r, congrArg (RouteSlot.mk _) hr, hp⟩⟩
    rw [hq] at hr
    exact Option.some.inj hr ▸ hp
  refine ⟨_, by rw [h.route, hr]; rfl, ?_⟩
  simp only [Bool.or_eq_true, decide_eq_true_eq, List.mem_flatMap, mem_heardRoutes]
  refine or_congr_right ⟨fun ⟨z, _, x, hx, hroute, hs, hp, hl⟩ => ?_, fun ⟨z, x, hx, hroute, ho, hs, hp, hl⟩ => ?_⟩
  · obtain ⟨ho, hp⟩ := (hplaying x hroute).mp hp
    exact ⟨z, x, hx, hroute, ho, hs, hp, hl⟩
  · exact ⟨z, hall z, x, hx, hroute, hs, (hplaying x hroute).mpr ⟨ho, hp⟩, hl⟩

/-- The builder after the HOLDING condition is tested (03 R52). -/
theorem settleHold_hold (c : Cabin) : (settleHold c).builder.hold =
    if c.builder.hold = .pending ∧ c.builder.job = none ∧ anySettling c = false then .holding else c.builder.hold := by
  simp only [← holdingReached_iff]
  split
  · rename_i h
    rw [settleHold_of_reached h.1 h.2, post_builder]
  · rename_i h
    rw [settleHold_of_not h]

theorem exec_rampTick (s : State) : ∃ d, exec .rampTick s = .next { s with cab := settleHold d } ∧
    Ticked s.supply.crank s.ring.lineSeen s.cab d := by
  obtain ⟨d, hd, ht⟩ := rampCabin_ticked s.supply.crank s.ring.lineSeen s.cab
  exact ⟨d, by rw [← hd]; rfl, ht⟩

/-- Settles O20: the tick column by column, the marks as a fold over the routes that earn them, and the passage to
HOLDING as the one thing that follows the tick. -/
theorem rampTickMovesLevelsAndMarks : Obligations.RampTickMovesLevelsAndMarks := by
  refine ⟨fun s => ?_, sharePlaying_iff, anySettling_eq_false_iff, fun s l k r hr => ?_⟩
  · obtain ⟨d, hexec, ht⟩ := exec_rampTick s
    have hroute : ∀ l k, (settleHold d).route l k = d.route l k := route_of_lists (by simp)
    have hzone : ∀ z, (settleHold d).mixZone z = _ := fun z => (mixZone_of_zones (by simp) z).trans (ht.zone z)
    have hsettling : anySettling (settleHold d) = anySettling d := anySettling_of_mix (by simp)
    have hhold := settleHold_hold d
    rw [ht.builder] at hhold
    refine ⟨_, hexec, fun z => ?_, fun l k => ?_, ?_, fun hp hj hs => ?_, ?_, ?_, fun p k => ?_, fun i => ?_, fun hp hs => ?_,
      fun hp => ?_, ?_⟩
    · simp only [hzone]
      exact tickMixZone_columns ..
    · rw [hroute, ht.route]
      refine ⟨rfl, ?_⟩
      simp [Function.comp_def]
    · simp [ht.calls, uplinkTarget]
    · rw [hsettling] at hs
      rw [if_pos ⟨hp, hj, hs⟩] at hhold
      refine ⟨hhold, fun hposts => (settleHold_has_iff ..).mpr (.inr ⟨rfl, rfl, by rwa [ht.ports], ?_⟩)⟩
      rw [hhold, ht.builder, hp]
      decide
    · simp [KeptPorts, State.answer, ht.ports]
    · simp [State.answer, ht.ports]
    · simp only [State.shows, settleHold_has_iff, ht.ports, ht.builder]
    · rw [entrySlot_of_slots (d := settleHold d) (c := d) (by simp), ht.entry]
      simp only [funext runDown_eq]
    · rw [hsettling] at hs
      rw [hhold, if_neg (by simp [hs]), hp]
    · have hsame : settleHold d = d := settleHold_of_not fun h => hp (ht.builder ▸ h.1)
      rw [hsame]
      exact ⟨ht.builder, ht.ports⟩
    · simp [ht.zones, ht.rearControl, ht.media, ht.channels, ht.table, ht.alloc, ht.calls, ht.voices, ht.ends, KeptOutside]
  · obtain ⟨d, hexec, ht⟩ := exec_rampTick s
    obtain ⟨q, hq, hheard⟩ := ht.heard_iff hr
    exact ⟨_, q, hexec, by rw [route_of_lists (d := settleHold d) (c := d) (by simp), hq], hheard⟩

end Sys2Proof.Machine
end

section
/-! SUPPORT. A sample instant (02 R27, R37 to R40, 07 R132, R133, 08 R138, R143): the zone channels and the clip flags,
the uplink and the canceller, the frame that is sent, and the samples of the sources. -/

namespace Sys2Proof.Machine

/-! ## Clip flags (01 R3, 02 R39) -/

theorem setClip_zone (z y : Zone) (c : Cabin) : (setClip z c).zone y =
    if y = z then { c.zone y with clip := PerPort.both true } else c.zone y := by
  have hset : (setClip z c).zone y = (setZoneEntry z { c.zone z with clip := PerPort.both true } c).zone y := by
    simp [setClip, Cabin.zone]
  rw [hset]
  by_cases h : y = z
  · subst h
    simp [Cabin.zone, setZoneEntry]
  · rw [if_neg h]
    exact PerZone.get_set_ne _ _ _ _ h

/-- Posting where a condition holds adds its own kind at its own port and no other. -/
theorem postIf_has_iff (b : Bool) (p q : Port) (j k : EventKind) (c : Cabin) :
    EventSet.has ((postIf b p k c).ports.events.get q) j = true ↔
      EventSet.has (c.ports.events.get q) j = true ∨ (b = true ∧ q = p ∧ j = k ∧ c.ports.part.posts = true) := by
  cases b
  · simp [postIf]
  · simp [postIf, post_has_iff]

/-- ZONE is posted to each port whose clip flag was clear (02 R39). -/
theorem setClip_has_iff (z : Zone) (p : Port) (k : EventKind) (c : Cabin) :
    EventSet.has ((setClip z c).ports.events.get p) k = true ↔ EventSet.has (c.ports.events.get p) k = true ∨
      ((c.zone z).clip.get p = false ∧ k = .zone ∧ c.ports.part.posts = true) := by
  simp only [setClip, postIf_has_iff, setZoneEntry_ports, postIf_part]
  cases p <;> simp [PerPort.get]

/-- Set the clip flags of the zones of a list for which `f` holds. -/
def clipWhere (f : Zone → Bool) (zs : List Zone) (c : Cabin) : Cabin :=
  zs.foldl (fun c z => if f z then setClip z c else c) c

theorem clipWhere_rest {α : Type} (g : Cabin → α) (hg : ∀ z c, g (setClip z c) = g c) (f : Zone → Bool)
    (zs : List Zone) (c : Cabin) : g (clipWhere f zs c) = g c :=
  foldl_keeps g _ (fun c z => by
    split
    · exact hg z c
    · rfl) zs c

theorem clipWhere_zone (f : Zone → Bool) (c : Cabin) (z : Zone) : (clipWhere f Zone.all c).zone z =
    if f z then { c.zone z with clip := PerPort.both true } else c.zone z :=
  foldl_reads_mem Cabin.zone (fun c z => if f z then setClip z c else c)
    (fun z e => if f z then { e with clip := PerPort.both true } else e) (fun _ => True) (fun _ _ _ => trivial)
    (fun c z y _ => by
      split
      · rename_i hz
        rw [setClip_zone]
        split
        · rename_i hy
          rw [hy, if_pos hz]
        · rfl
      · rename_i hz
        split
        · rename_i hy
          rw [hy, if_neg hz]
        · rfl) (by decide) trivial (by cases z <;> decide)

/-- No event goes, and where a clip flag changes, ZONE is seen at its port. -/
theorem clipWhere_events (f : Zone → Bool) (zs : List Zone) (c : Cabin) (hposts : c.ports.part.posts = true) :
    EventsKept c (clipWhere f zs c) ∧ ∀ z p, ((clipWhere f zs c).zone z).clip.get p ≠ (c.zone z).clip.get p →
      EventSet.has ((clipWhere f zs c).ports.events.get p) .zone = true := by
  induction zs generalizing c with
  | nil => exact ⟨fun _ _ h => h, fun _ _ h => absurd rfl h⟩
  | cons y zs ih =>
    by_cases hf : f y = true
    · have hcons : clipWhere f (y :: zs) c = clipWhere f zs (setClip y c) := by simp [clipWhere, hf]
      have hpart : (setClip y c).ports.part = c.ports.part := by simp [setClip]
      obtain ⟨hkept, hchanged⟩ := ih (setClip y c) (by rwa [hpart])
      rw [hcons]
      refine ⟨fun p k h => hkept p k ((setClip_has_iff ..).mpr (.inl h)), fun z p hz => ?_⟩
      by_cases hstep : ((setClip y c).zone z).clip.get p = (c.zone z).clip.get p
      · exact hchanged z p (by rwa [hstep])
      · refine hkept p .zone ((setClip_has_iff ..).mpr (.inr ⟨?_, rfl, hposts⟩))
        rw [setClip_zone] at hstep
        by_cases hzy : z = y
        · subst hzy
          cases hclip : (c.zone z).clip.get p <;> simp [hclip] at hstep ⊢
        · rw [if_neg hzy] at hstep
          exact absurd rfl hstep
    · have hcons : clipWhere f (y :: zs) c = clipWhere f zs c := by simp [clipWhere, hf]
      rw [hcons]
      exact ih c hposts

/-! ## Zone channels (02 R38 to R40) -/

theorem channelSum_allFeeds (c : Cabin) (x : SampleIn) (i : ZoneChan) : channelSum (allFeeds c x) i =
    if c.ports.part.posts then ((scaledFeeds c x (channelFeed i).1).map (channelFeed i).2.of).sum else 0 := by
  unfold channelSum allFeeds
  split
  · rw [PerZone.get_build]
  · rw [PerZone.get_fill]; rfl

theorem clips_iff {c : Cabin} (x : SampleIn) (z : Zone) (hposts : c.ports.part.posts = true) :
    clips (allFeeds c x) z = true ↔ ∃ i, (channelFeed i).1 = z ∧
      saturate (((scaledFeeds c x z).map (channelFeed i).2.of).sum) ≠
        ((scaledFeeds c x z).map (channelFeed i).2.of).sum := by
  simp only [clips, List.any_eq_true, List.mem_finRange, true_and, Bool.and_eq_true, decide_eq_true_eq,
    channelSum_allFeeds, hposts, if_true]
  exact exists_congr fun i => and_congr_right fun hi => by rw [hi]

theorem saturate_bounds (v : Int) : -8388608 ≤ saturate v ∧ saturate v ≤ 8388607 := by
  unfold saturate sampleMin sampleMax
  omega

/-- What the zone channels and the clip flags of a sample instant are, and what the mixing leaves alone. -/
structure Mixed (x : SampleIn) (c d : Cabin) : Prop where
  channel : ∀ i, d.mix.channels.get i = saturate (channelSum (allFeeds c x) i)
  voice : ∀ v, d.queue.voices.get v = (c.queue.voices.get v).map advanceVoice
  zone : ∀ z, d.zone z =
    if clips (allFeeds c x) z then { c.zone z with clip := PerPort.both true } else c.zone z
  shows : c.ports.part.posts = true → ∀ z p, (d.zone z).clip.get p ≠ (c.zone z).clip.get p →
    EventSet.has (d.ports.events.get p) .zone = true
  calls : d.calls = c.calls
  builder : d.builder = c.builder
  table : d.table = c.table
  alloc : d.alloc = c.alloc
  mixZones : d.mix.zones = c.mix.zones
  lists : d.dir.lists = c.dir.lists
  rearControl : d.dir.rearControl = c.dir.rearControl
  media : d.dir.media = c.dir.media
  slots : d.queue.slots = c.queue.slots

theorem mixCabin_mixed (x : SampleIn) (c : Cabin) : Mixed x c (mixCabin x c) := by
  unfold mixCabin
  extract_lets feeds mix queue heard
  have hrest : ∀ {α : Type} (g : Cabin → α), (∀ z c, g (setClip z c) = g c) →
      g (clipWhere (clips feeds) Zone.all heard) = g heard := fun g hg => clipWhere_rest g hg _ _ _
  constructor
  case channel =>
    intro i
    refine (congrArg (Tab.get · i) (hrest (·.mix.channels) fun z c => by simp [setClip])).trans ?_
    exact Tab.get_build ..
  case voice =>
    intro v
    refine (congrArg (Tab.get · v) (hrest (·.queue.voices) fun z c => by simp [setClip])).trans ?_
    exact Tab.get_map ..
  case zone => exact clipWhere_zone _ heard
  case shows => exact fun hposts => (clipWhere_events _ _ heard hposts).2
  case calls => exact hrest (·.calls) fun z c => by simp [setClip]
  case builder => exact hrest (·.builder) fun z c => by simp [setClip]
  case table => exact hrest (·.table) fun z c => by simp [setClip]
  case alloc => exact hrest (·.alloc) fun z c => by simp [setClip]
  case mixZones => exact hrest (·.mix.zones) fun z c => by simp [setClip]
  case lists => exact hrest (·.dir.lists) fun z c => by simp [setClip]
  case rearControl => exact hrest (·.dir.rearControl) fun z c => by simp [setClip]
  case media => exact hrest (·.dir.media) fun z c => by simp [setClip]
  case slots => exact hrest (·.queue.slots) fun z c => by simp [setClip]

/-! ## The uplink and the canceller (07 R132, R133) -/

theorem echoReference_eq (c : Cabin) : echoReference c =
    (((List.finRange 14).filter fun i => decide (i.val < 10)).map c.mix.channels.get).sum := by
  have hten : ((List.finRange 14).filter fun i => decide (i.val < 10)) =
      (List.finRange 10).map (Fin.castLE (by omega)) := by decide
  rw [hten, List.map_map]
  rfl

/-- The canceller does nothing in IDLE. -/
theorem adaptPath_countSample_of_idle {v : Canceller} (h : v.state = .idle) (n : Nat) (reference mic residual : Int) :
    adaptPath n reference mic (countSample mic residual v) = v := by
  rw [countSample, if_pos h]
  simp [adaptPath, h]

/-- In the other states it counts the sample; a block with all its samples gives way to the next. -/
theorem countSample_eq {v : Canceller} (h : v.state ≠ .idle) (mic residual : Int) : countSample mic residual v =
    { v with
      samples := (if 3072 ≤ v.samples then 0 else v.samples) + 1
      micSquares := (if 3072 ≤ v.samples then 0 else v.micSquares) + mic.natAbs ^ 2
      residualSquares := (if 3072 ≤ v.samples then 0 else v.residualSquares) + residual.natAbs ^ 2
      discard := v.discard && !decide (3072 ≤ v.samples) } := by
  rw [countSample, if_neg h]
  by_cases hs : 3072 ≤ v.samples
  · simp [blockSamples, Nat.not_lt.mpr hs, nextBlock, hs]
  · simp [blockSamples, Nat.not_le.mp hs, hs]

/-- In the other states it adapts its estimate of the path but for DOUBLE-TALK. -/
theorem adaptPath_eq {v : Canceller} (h : v.state ≠ .idle) (n : Nat) (reference mic : Int) :
    adaptPath n reference mic v = { v with
      path := if v.state = .doubleTalk then v.path else Config.adaptedPath v.path reference mic n } := by
  unfold adaptPath
  split
  case h_1 hv => exact absurd hv h
  case h_2 hv => simp [hv]
  case h_3 hv => simp [hv]
  case h_4 hv => rw [if_pos hv]

theorem activeCall_of_calls {c d : Cabin} (h : d.calls.slots = c.calls.slots) : activeCall d = activeCall c := by
  have hstate : callState d = callState c := funext fun i => by simp only [callState, Cabin.callSlot, h]
  unfold activeCall
  rw [hstate]

theorem uplinkCabin_idle {img : Image} {n : Nat} {x : SampleIn} {c : Cabin} (h : activeCall c = none) :
    uplinkCabin img n x c = { c with calls := { c.calls with phoneUl := 0 } } := by
  simp [uplinkCabin, h]

theorem uplinkCabin_active {img : Image} {n : Nat} {x : SampleIn} {c : Cabin} {i : Fin 2} {r : CallRecord}
    (h : activeCall c = some i) (hr : (c.callSlot i).record = some r) :
    let mic := selectTalker r.talker (trimmed img.driverTrim x.driver) (trimmed img.passengerTrim x.passenger)
    let residual := mic - Config.echoEstimate c.calls.canceller.path (echoReference c) n
    uplinkCabin img n x c = { c with calls := { c.calls with
      phoneUl := if r.uplinkMute then 0 else saturate (scale (factorOf c.calls.uplinkLevel) residual)
      canceller := adaptPath n (echoReference c) mic (countSample mic residual c.calls.canceller) } } := by
  simp [uplinkCabin, h, hr]

/-- The uplink changes its own sample and the canceller alone. -/
theorem uplinkCabin_eq (img : Image) (n : Nat) (x : SampleIn) (c : Cabin) : ∃ u v,
    uplinkCabin img n x c = { c with calls := { c.calls with phoneUl := u, canceller := v } } := by
  unfold uplinkCabin
  split
  · exact ⟨_, _, rfl⟩
  · exact ⟨_, _, rfl⟩

/-! ## The frame (02 R40, 08 R138, R143) -/

theorem firstIdx_eq_some {n : Nat} {p : Fin n → Bool} {i : Fin n} (h : p i = true) (hlow : ∀ j < i, p j = false) :
    firstIdx p = some i := by
  unfold firstIdx
  rw [List.find?_eq_some_iff_getElem]
  refine ⟨h, i.val, by simp, by simp, fun j hj => ?_⟩
  rw [hlow]
  · rfl
  · simpa [Fin.lt_def] using hj

theorem firstIdx_eq_none {n : Nat} {p : Fin n → Bool} (h : ∀ i, p i = false) : firstIdx p = none :=
  List.find?_eq_none.mpr fun i _ => by simp [h i]

theorem soundsOn_iff (g : Ring) (i : Fin 6) (k : Fin 8) (z : ZoneChan) : soundsOn g i k z = true ↔
    (g.placement.get z).entry = some (i.val, k.val) ∧ (g.state = .up → (g.placement.get z).status = .carried) := by
  simp [soundsOn, imp_iff_not_or]

/-- What a sample instant is (02 R37 to R40): the mixing, then the uplink, then the frame of what was mixed. -/
theorem mixSample_eq (x : SampleIn) (s : State) :
    mixSample x s = { s with
      cab := uplinkCabin s.supply.image s.free x (mixCabin x s.cab)
      ring := { s.ring with
        frame := Tab.build 6 fun i => Tab.build 8 (nodeSample s.ring (mixCabin x s.cab).mix.channels i) }
      free := s.free + 1 } := by
  obtain ⟨u, v, hup⟩ := uplinkCabin_eq s.supply.image s.free x (mixCabin x s.cab)
  simp only [mixSample, sendFrame, State.onCab, hup]

theorem nodeSample_eq_some {g : Ring} {channels : Tab Int 14} {i : Fin 6} {k : Fin 8} {z : ZoneChan}
    (h : soundsOn g i k z = true) (hlow : ∀ y : ZoneChan, y < z → soundsOn g i k y = false) :
    nodeSample g channels i k = some (channels.get z) := by
  rw [nodeSample, firstIdx_eq_some h hlow, Option.map_some]

theorem nodeSample_eq_none {g : Ring} {channels : Tab Int 14} {i : Fin 6} {k : Fin 8}
    (h : ∀ z : ZoneChan, soundsOn g i k z = false) : nodeSample g channels i k = none := by
  rw [nodeSample, firstIdx_eq_none h, Option.map_none]

/-! ## The samples of the sources (02 R27) -/

theorem advanceVoice_eq (w : Voice) :
    advanceVoice w = { w with sample := match w.cadence with | .on _ => w.sample + 1 | _ => w.sample } := by
  obtain ⟨slot, cadence, _⟩ := w
  cases cadence <;> rfl

theorem chanSample_silent {c : Cabin} (x : SampleIn) {y : Chan}
    (h : (c.chan y).station = none ∨ (c.chan y).retuning = true ∨ selfProbing (c.chan y) = true ∨
      c.alloc.stopped = true) : chanSample c x y = (0, 0) := by
  unfold chanSample
  split
  case h_1 r t hstation htuner =>
    have haway : (tunerAway c y || c.alloc.stopped) = true := by
      rcases h with hnone | haway | haway | haway
      · simp [hnone] at hstation
      all_goals simp [tunerAway, haway]
    rw [if_pos haway]
  case h_2 => rfl

theorem chanSample_playing {c : Cabin} (x : SampleIn) {y : Chan} {h : StationId} {r : Station} {a : TunerId}
    (hstation : (c.chan y).station = some h) (hr : c.station h = some r) (hserving : (c.chan y).serving = some a)
    (hretune : (c.chan y).retuning = false) (hprobe : selfProbing (c.chan y) = false)
    (hrun : c.alloc.stopped = false) :
    let v := x.tuner.get (if (c.chan y).partner then a.other else a)
    chanSample c x y = (v.l.toInt, if r.freq.band = .mw then v.l.toInt else v.r.toInt) := by
  have hfreq : freqOf c h = some r.freq := by simp [freqOf, hr]
  simp only [chanSample, hstation, selectedTuner, hserving, Option.map_some, tunerAway, hretune, hprobe, hrun, hfreq]
  by_cases hband : r.freq.band = .mw <;> simp [hband]

theorem overlaySample_tone (c : Cabin) (x : SampleIn) {a : Audible}
    (h : a.kind = .chime ∨ a.kind = .ring ∨ a.kind = .waiting) :
    overlaySample c x (.entry a) = (entryVoiceSample c a.entry, entryVoiceSample c a.entry) := by
  rcases h with h | h | h <;> simp [overlaySample, h]

theorem entryVoiceSample_of_voice {c : Cabin} {a : EntryId} (ha : c.entryId a.slot = a) {v : Fin 2} {w : Voice}
    (hv : voiceOf c a.slot = some v) (hw : c.queue.voices.get v = some w) :
    entryVoiceSample c a = voiceSample w := by
  simp [entryVoiceSample, ha, hv, hw]

theorem voiceSample_off {w : Voice} (h : ∀ k, w.cadence ≠ .on k) : voiceSample w = 0 := by
  unfold voiceSample
  split
  case h_1 k hk => exact absurd hk (h k)
  case h_2 => rfl

theorem toneSample_le_peak (hz n : Nat) : (toneSample hz n).natAbs ≤ 4194304 := by
  unfold toneSample limit
  split
  · decide
  · omega

/-! ## O22 -/

/-- A clip flag is set after a sample instant that was set before it or whose zone has a saturated sum (02 R39). -/
theorem Mixed.clip_iff {x : SampleIn} {c d : Cabin} (h : Mixed x c d) (hposts : c.ports.part.posts = true) (z : Zone)
    (p : Port) : (d.zone z).clip.get p = true ↔ (c.zone z).clip.get p = true ∨
      ∃ i, (channelFeed i).1 = z ∧ saturate (((scaledFeeds c x z).map (channelFeed i).2.of).sum) ≠
        ((scaledFeeds c x z).map (channelFeed i).2.of).sum := by
  rw [← clips_iff x z hposts, h.zone z]
  split
  · simp_all
  · simp_all

theorem Mixed.zone_rest {x : SampleIn} {c d : Cabin} (h : Mixed x c d) (z : Zone) :
    { d.zone z with clip := (c.zone z).clip } = c.zone z := by
  rw [h.zone z]
  split <;> rfl

/-- The uplink of a sample instant while a call is ACTIVE, from what was mixed. -/
theorem Mixed.uplink {x : SampleIn} {c m : Cabin} (h : Mixed x c m) {i : Fin 2} {r : CallRecord}
    (hactive : activeCall c = some i) (hr : (c.callSlot i).record = some r) (img : Image) (n : Nat) :
    let mic := selectTalker r.talker (trimmed img.driverTrim x.driver) (trimmed img.passengerTrim x.passenger)
    let residual := mic - Config.echoEstimate c.calls.canceller.path (echoReference m) n
    (uplinkCabin img n x m).calls.phoneUl =
      (if r.uplinkMute then 0 else saturate (scale (factorOf c.calls.uplinkLevel) residual)) ∧
    (uplinkCabin img n x m).calls.canceller =
      adaptPath n (echoReference m) mic (countSample mic residual c.calls.canceller) := by
  have hslots : m.calls.slots = c.calls.slots := congrArg (·.slots) h.calls
  have hrecord : (m.callSlot i).record = some r := by rwa [Cabin.callSlot, hslots]
  rw [uplinkCabin_active ((activeCall_of_calls hslots).trans hactive) hrecord, h.calls]
  exact ⟨rfl, rfl⟩

/-- Settles O22: the sample instant mixes (`Mixed`), then runs the uplink on what was mixed, then sends the frame; the
other clauses are those of the channel matrix, the sources and the tone. -/
theorem mixSampleSumsAndSaturates : Obligations.MixSampleSumsAndSaturates := by
  refine ⟨fun x s => ⟨mixSample x s, rfl, ?_⟩, soundsOn_iff, fun l r => rfl, fun c x z => rfl,
    fun c x y => ⟨chanSample_silent x, fun h r a => chanSample_playing x⟩, fun c x n => rfl,
    fun c x a h => ⟨rfl, fun y hy => by simp only [overlaySample, hy, sourceSample], fun hk => by
      simp only [overlaySample, hk], fun hk ha => ⟨fun hv => ?_, fun v w hv hw => ?_⟩⟩,
    fun hz n => ⟨rfl, toneSample_le_peak hz n⟩⟩
  case refine_2 =>
    rw [overlaySample_tone c x hk]
    simp [entryVoiceSample, hv]
  case refine_3 =>
    rw [overlaySample_tone c x hk, entryVoiceSample_of_voice ha hv hw]
    exact ⟨fun hoff => by rw [voiceSample_off hoff], fun k hon => by simp only [voiceSample, hon]⟩
  rw [mixSample_eq]
  have hm := mixCabin_mixed x s.cab
  generalize mixCabin x s.cab = m at hm
  obtain ⟨u, v, hup⟩ := uplinkCabin_eq s.supply.image s.free x m
  have hchannel (i : ZoneChan) : m.mix.channels.get i = saturate (if s.cab.ports.part.posts then
      ((scaledFeeds s.cab x (channelFeed i).1).map (channelFeed i).2.of).sum else 0) := by
    rw [hm.channel, channelSum_allFeeds]
  have hmix : (uplinkCabin s.supply.image s.free x m).mix = m.mix := by rw [hup]
  have hzone (z : Zone) : (uplinkCabin s.supply.image s.free x m).zone z = m.zone z := by rw [hup]; rfl
  have hports : (uplinkCabin s.supply.image s.free x m).ports = m.ports := by rw [hup]
  refine ⟨fun i => ?channel, fun i => ?bounds, fun z => ⟨?rest, fun hposts p => ⟨?clip, ?shows⟩⟩, fun hidle => ?idle,
    fun i hactive r hr => ?active, fun i k => ⟨fun z hz hlow => ?sounds, fun hnone => ?silent⟩, fun v => ?voice,
    rfl, ?frame⟩
  case channel => exact (congrArg (·.channels.get i) hmix).trans (hchannel i)
  case bounds =>
    dsimp only
    rw [hmix, hchannel]
    exact saturate_bounds _
  case rest => exact (hzone z).symm ▸ hm.zone_rest z
  case clip => exact (hzone z).symm ▸ hm.clip_iff hposts z p
  case shows =>
    dsimp only [State.shows]
    rw [hzone, hports]
    exact hm.shows hposts z p
  case idle =>
    have hslots : m.calls.slots = s.cab.calls.slots := congrArg (·.slots) hm.calls
    dsimp only
    rw [uplinkCabin_idle ((activeCall_of_calls hslots).trans hidle), hm.calls]
    exact ⟨rfl, rfl⟩
  case active =>
    intro d p mic reference v w residual fresh
    have hmic : mic = selectTalker r.talker (trimmed s.supply.image.driverTrim x.driver)
        (trimmed s.supply.image.passengerTrim x.passenger) := by
      cases ht : r.talker <;> simp only [mic, ht] <;> rfl
    have href : reference = echoReference m := by
      rw [echoReference_eq, ← hmix]
    obtain ⟨hphone, hcanceller⟩ := hm.uplink hactive hr s.supply.image s.free
    rw [← hmic, ← href] at hphone hcanceller
    change w = adaptPath s.free reference mic (countSample mic residual v) at hcanceller
    refine ⟨hphone, fun hv => ?_, fun hv => ?_⟩
    · rw [hcanceller, adaptPath_countSample_of_idle hv]
    · rw [hcanceller, countSample_eq hv, adaptPath_eq (by exact hv)]
      simp [fresh]
  case sounds =>
    rw [Tab.get_build, Tab.get_build, nodeSample_eq_some hz hlow, hmix]
  case silent =>
    rw [Tab.get_build, Tab.get_build, nodeSample_eq_none hnone]
  case voice =>
    have hqueue : (uplinkCabin s.supply.image s.free x m).queue = m.queue := by rw [hup]
    dsimp only
    rw [hqueue, hm.voice]
    exact congrArg (Option.map · (s.cab.queue.voices.get v)) (funext advanceVoice_eq)
  case frame =>
    dsimp only
    rw [hup]
    exact ⟨hm.mixZones, hm.lists, hm.rearControl, hm.media, hm.builder, hm.table, hm.alloc, hm.slots,
      congrArg (·.slots) hm.calls, congrArg (·.uplinkGain) hm.calls, congrArg (·.uplinkLevel) hm.calls, rfl, rfl⟩

end Sys2Proof.Machine
end

section
/-! SUPPORT. Enter Hold and Release Hold (03 R51, R54, R55), and the build that the builder starts (03 R45). -/

namespace Sys2Proof.Machine

/-! ## The build that starts (03 R45) -/

theorem startBuild_of_not {c : Cabin} (h : mayBuild c = false) : startBuild c = c := by simp [startBuild, h]

theorem startBuild_of_stale {c : Cabin} {z : Zone} (h : mayBuild c = true) (hz : nextStale c = some z) :
    startBuild c = { c with builder := { c.builder with
      stale := c.builder.stale.set z false, position := z, job := some (buildJob c z) } } := by
  simp [startBuild, h, hz]

theorem startBuild_of_none {c : Cabin} (hz : nextStale c = none) : startBuild c = c := by
  simp only [startBuild, hz, ite_self]

theorem mayBuild_iff (c : Cabin) : mayBuild c = true ↔
    c.builder.job = none ∧ c.builder.hold = .running ∧ c.ports.part = .running := by
  simp [mayBuild, and_assoc]

/-- The build that has just started reads the cabin as it is, which the start leaves as it was but for the builder. -/
theorem startBuild_starts {c : Cabin} {z : Zone} (h : mayBuild c = true) (hz : nextStale c = some z) :
    (startBuild c).builder.position = z ∧ (startBuild c).builder.stale.get z = false ∧
      ∃ b, (startBuild c).builder.job = some b ∧ b.zone = z ∧ ReadsAtStart (startBuild c) b := by
  have hreads := buildJob_readsAtStart (startBuild c) z
  rw [buildJob_of_eq (startBuild_dir c) (startBuild_alloc c)] at hreads
  have hstart := startBuild_of_stale h hz
  refine ⟨by rw [hstart], by simp [hstart], buildJob c z, by rw [hstart], rfl, hreads⟩

theorem zonesFrom_ne_nil (z : Zone) : zonesFrom z ≠ [] := by cases z <;> simp [zonesFrom]

/-- While every zone is stale the builder takes the first one it looks at. -/
theorem nextStale_of_all {c : Cabin} (h : ∀ z, c.builder.stale.get z = true) :
    nextStale c = (zonesFrom c.builder.position).head? := by
  unfold nextStale
  cases hl : zonesFrom c.builder.position with
  | nil => rfl
  | cons z l => simp [h]

/-! ## Enter Hold (03 R51) -/

theorem dropBuild_job (c : Cabin) : (dropBuild c).builder.job = none := by
  unfold dropBuild
  split
  · assumption
  · rfl

theorem dropBuild_stale_iff (c : Cabin) (z : Zone) : (dropBuild c).builder.stale.get z = true ↔
    c.builder.stale.get z = true ∨ ∃ j, c.builder.job = some j ∧ j.zone = z := by
  unfold dropBuild
  split
  · rename_i hnone
    simp [hnone]
  · rename_i j hj
    by_cases hz : z = j.zone
    · subst hz
      simp [hj, markStale]
    · simp [hj, markStale, PerZone.get_set_ne _ _ _ _ hz, Ne.symm hz]

@[simp] theorem dropBuild_ports (c : Cabin) : (dropBuild c).ports = c.ports := by unfold dropBuild; split <;> rfl
@[simp] theorem dropBuild_dir (c : Cabin) : (dropBuild c).dir = c.dir := by unfold dropBuild; split <;> rfl
@[simp] theorem dropBuild_mix (c : Cabin) : (dropBuild c).mix = c.mix := by unfold dropBuild; split <;> rfl
@[simp] theorem dropBuild_table (c : Cabin) : (dropBuild c).table = c.table := by unfold dropBuild; split <;> rfl
@[simp] theorem dropBuild_alloc (c : Cabin) : (dropBuild c).alloc = c.alloc := by unfold dropBuild; split <;> rfl
@[simp] theorem dropBuild_queue (c : Cabin) : (dropBuild c).queue = c.queue := by unfold dropBuild; split <;> rfl
@[simp] theorem dropBuild_calls (c : Cabin) : (dropBuild c).calls = c.calls := by unfold dropBuild; split <;> rfl
@[simp] theorem dropBuild_hold (c : Cabin) : (dropBuild c).builder.hold = c.builder.hold := by
  unfold dropBuild; split <;> rfl
@[simp] theorem dropBuild_position (c : Cabin) : (dropBuild c).builder.position = c.builder.position := by
  unfold dropBuild; split <;> rfl

theorem exec_enterHold {s : State} (hrun : s.Running) (hhold : s.cab.builder.hold = .running) :
    exec (.enterHold .front) s = .next (s.onCab fun _ =>
      respond .front .accepted [] (settleHold (dropBuild (setHold .pending s.cab)))) := by
  have henter : enterHold .front s.cab = respond .front .accepted [] (settleHold (dropBuild (setHold .pending s.cab))) := by
    simp [enterHold, hhold]
  exact congrArg Host.Outcome.next ((cabRequest_running hrun .front _).trans (by rw [henter]))

/-! ## Release Hold (03 R54) -/

/-- The cabin that Release Hold gives to the arbitration: RUNNING, with every zone stale. -/
def releasedHold (c : Cabin) : Cabin := markAllStale (setHold .running c)

theorem exec_releaseHold {s : State} (hrun : s.Running) (hhold : s.cab.builder.hold ≠ .running) :
    exec (.releaseHold .front) s = .next (s.onCab fun _ =>
      respond .front .done [] (settleDirectory (releasedHold s.cab))) := by
  have hrelease : releaseHold .front s.cab = respond .front .done [] (settleDirectory (releasedHold s.cab)) := by
    simp [releaseHold, hhold, releasedHold]
  exact congrArg Host.Outcome.next ((cabRequest_running hrun .front _).trans (by rw [hrelease]))

theorem releasedHold_stale (c : Cabin) (z : Zone) : (releasedHold c).builder.stale.get z = true := by
  simp [releasedHold, markAllStale, markStaleWhere]

/-- Nothing that the arbitration reads has changed. -/
theorem releasedHold_sameDemand (c : Cabin) : SameDemand c (releasedHold c) :=
  ⟨fun _ _ => ⟨rfl, rfl⟩, rfl, rfl, rfl, fun _ => rfl⟩

/-- With every zone stale, the settling ends with the start of a build, unless one is in flight. -/
theorem settleDirectory_starts {c : Cabin} (hdef : NoDeferrals c) (hrun : c.ports.part = .running)
    (hhold : c.builder.hold = .running) (hstale : ∀ z, c.builder.stale.get z = true) :
    (settleDirectory c).builder.job.isSome = true ∧ (c.builder.job = none → ∃ z j,
      (zonesFrom c.builder.position).head? = some z ∧ (settleDirectory c).builder.position = z ∧
      (settleDirectory c).builder.job = some j ∧ j.zone = z ∧ ReadsAtStart (settleDirectory c) j) := by
  have hkept := arbitrate_staleKept c
  rw [settleDirectory, settleAllocator_eq_arbitrate hdef, settleRoutes]
  generalize hd : refreshSound (rederiveRoutes (arbitrate c)) = d
  have hjob : d.builder.job = c.builder.job := by simp [← hd]
  have hposition : d.builder.position = c.builder.position := by simp [← hd]
  have hall : ∀ z, d.builder.stale.get z = true := fun z => by simpa [← hd] using hkept z (hstale z)
  cases hnone : c.builder.job with
  | some j =>
    have hsome := (startBuild_undisturbed d).build j (hjob.trans hnone)
    exact ⟨by simp [hsome], fun h => by cases h⟩
  | none =>
    have hmay : mayBuild d = true := (mayBuild_iff d).mpr ⟨hjob.trans hnone, by simp [← hd, hhold], by simp [← hd, hrun]⟩
    obtain ⟨z, hz⟩ : ∃ z, (zonesFrom c.builder.position).head? = some z :=
      ⟨_, List.head?_eq_some_head (zonesFrom_ne_nil _)⟩
    obtain ⟨hp, -, j, hj, hzone, hreads⟩ :=
      startBuild_starts hmay ((nextStale_of_all hall).trans ((congrArg (fun z => (zonesFrom z).head?) hposition).trans hz))
    exact ⟨by simp [hj], fun _ => ⟨z, j, hz, hp, hj, hzone, hreads⟩⟩

/-- Settles O17: Enter Hold drops the build and tests the HOLDING condition at once; Release Hold changes nothing that
the arbitration reads, and every zone is stale when the builder starts. -/
theorem enterAndReleaseHold : Obligations.EnterAndReleaseHold := by
  refine ⟨fun s hrun hhold => ?_, fun s hrun hhold hdef => ?_⟩
  · set c : Cabin := setHold .pending s.cab with hc
    have hposts : (dropBuild c).ports.part.posts = true := running_posts ((congrArg Ports.part (dropBuild_ports c)).trans hrun)
    have hnext := settleHold_hold (dropBuild c)
    have hhas := settleHold_has_iff (dropBuild c)
    have hsettling : anySettling (dropBuild c) = anySettling s.cab := anySettling_of_mix (by simp [hc])
    rw [dropBuild_hold, dropBuild_job, hsettling] at hnext
    simp only [dropBuild_hold, dropBuild_ports] at hhas
    refine ⟨_, exec_enterHold hrun hhold, onCab_const_answer .., fun hs => ?_, fun hs => ?_, ?_, ?_, fun z => ?_,
      ⟨rfl, rfl, rfl, rfl⟩, ?_, ?_⟩
    · have hsame : settleHold (dropBuild c) = dropBuild c := settleHold_of_not fun h => by
        have hnot := ((holdingReached_iff _).mp h.2).2
        rw [hsettling, hs] at hnot
        cases hnot
      rw [onCab_cab, respond_builder, respond_events, hsame, dropBuild_hold, dropBuild_ports]
      exact ⟨rfl, rfl⟩
    · rw [if_pos ⟨rfl, rfl, hs⟩] at hnext
      have hholds : c.builder.hold ≠ (settleHold (dropBuild c)).builder.hold := by
        rw [hnext, hc, setHold_hold]
        decide
      refine ⟨hnext, (hhas .front .hold).mpr (.inr ⟨rfl, rfl, by simpa using hposts, hholds⟩), fun p k hne => ?_⟩
      exact (hhas p k).trans (or_iff_left fun h => hne (by rw [h.1, h.2.1]))
    · simp [dropBuild_job]
    · simp
    · rw [onCab_cab, respond_builder, settleHold_stale]
      exact dropBuild_stale_iff c z
    · simp [KeptPorts, State.answer]
    · simp
  · have hdemand := (releasedHold_sameDemand s.cab).newAssignment
    have hf := settleDirectory_followsUp (d := releasedHold s.cab) (hdef.of_slots rfl)
    obtain ⟨hjob, hfirst⟩ := settleDirectory_starts (c := releasedHold s.cab) (hdef.of_slots rfl) hrun rfl
      (releasedHold_stale s.cab)
    have hhold' : (releasedHold s.cab).builder.hold = .running := rfl
    have hexec := exec_releaseHold hrun hhold
    generalize settleDirectory (releasedHold s.cab) = e at *
    have hframe := hf.around.frame
    refine ⟨_, hexec, onCab_const_answer .., hframe.hold.trans hhold',
      fun z => (hf.rebuilds z (releasedHold_stale s.cab z)).rebuilds .., hjob, fun hnone => ?_,
      (hf.stations hrun).trans hdemand, hf.states, hf.routes, hf.zones, hf.rearControl, hf.media, hf.slots, hf.watch,
      ⟨rfl, rfl, rfl, rfl⟩, ⟨hframe.part, hframe.relay, hframe.liteNumber, hframe.status, ?_⟩, hf.around.events,
      ⟨hframe.canceller, hframe.uplinkGain, hframe.uplinkLevel, hframe.phoneUl, hf.around.calls⟩, hf.around.plans,
      hf.around.levels, hframe.patterns, hframe.ignored⟩
    · obtain ⟨z, j, hz, hp, hj, hzone, hreads⟩ := hfirst hnone
      exact ⟨j, hj, hzone.trans hp.symm, hz.trans (congrArg some hzone.symm), hreads⟩
    · exact (PerPort.get_set_other _ .front _).trans (congrArg (fun v => v.get Port.rear) hframe.response)

end Sys2Proof.Machine
end

section
/-! SUPPORT. The end of a build (03 R47 to R49, R52): which departing contributions a trim drops, what the installation
makes of each contribution, and the cabin change notice. -/

namespace Sys2Proof.Machine

/-! ## The order of levels (02 R24) -/

theorem Level.lt_iff (a b : Level) :
    a.lt b = true ↔ (a = .silent ∧ b ≠ .silent) ∨ ∃ m n, a = .steps m ∧ b = .steps n ∧ m < n := by
  cases a <;> cases b <;> simp [Level.lt]

/-- The first level is not above the second. -/
def Level.AtMost (a b : Level) : Prop := a.lt b = true ∨ a = b

theorem Level.AtMost.refl (a : Level) : a.AtMost a := .inr rfl

theorem Level.atMost_iff (a b : Level) :
    a.AtMost b ↔ a = .silent ∨ ∃ m n, a = .steps m ∧ b = .steps n ∧ m ≤ n := by
  unfold Level.AtMost
  cases a <;> cases b <;> simp [Level.lt, le_iff_lt_or_eq]

theorem Level.AtMost.trans {a b d : Level} (h : a.AtMost b) (h' : b.AtMost d) : a.AtMost d := by
  rw [Level.atMost_iff] at h h' ⊢
  obtain rfl | ⟨m, n, rfl, rfl, hmn⟩ := h
  · exact .inl rfl
  · obtain hb | ⟨n', k, hn, rfl, hnk⟩ := h'
    · cases hb
    · cases hn
      exact .inr ⟨m, k, rfl, rfl, hmn.trans hnk⟩

theorem Level.atMost_of_not_lt {a b : Level} (h : ¬ b.lt a = true) : a.AtMost b := by
  rw [Level.atMost_iff]
  cases a with
  | silent => exact .inl rfl
  | steps m => cases b with
    | silent => simp [Level.lt] at h
    | steps n => exact .inr ⟨m, n, rfl, rfl, by simpa [Level.lt] using h⟩

/-! ## Which departing contributions a trim drops (03 R48) -/

section Trim
variable {α β : Type} (lvl : α → Level)

theorem lowestLevel_atMost {l : List α} {x : α} (h : x ∈ l) : (lowestLevel lvl l).AtMost (lvl x) := by
  have hfold : ∀ (ys : List α) (m : Level),
      (ys.foldl (fun m y => if (lvl y).lt m then lvl y else m) m).AtMost m ∧
      ∀ y ∈ ys, (ys.foldl (fun m y => if (lvl y).lt m then lvl y else m) m).AtMost (lvl y) := by
    intro ys
    induction ys with
    | nil => exact fun m => ⟨.refl m, fun y hy => by cases hy⟩
    | cons y ys ih =>
      intro m
      obtain ⟨hm, hys⟩ := ih (if (lvl y).lt m then lvl y else m)
      have hmin : (if (lvl y).lt m then lvl y else m).AtMost m ∧ (if (lvl y).lt m then lvl y else m).AtMost (lvl y) := by
        split
        · next h => exact ⟨.inl h, .refl _⟩
        · next h => exact ⟨.refl m, Level.atMost_of_not_lt h⟩
      exact ⟨hm.trans hmin.1, List.forall_mem_cons.mpr ⟨hm.trans hmin.2, hys⟩⟩
  cases l with
  | nil => cases h
  | cons z zs =>
    obtain ⟨hz, hzs⟩ := hfold zs (lvl z)
    rcases List.mem_cons.mp h with rfl | hx
    · exact hz
    · exact hzs x hx

theorem dropLowest_sublist (l : List α) : (dropLowest lvl l).Sublist l := List.eraseP_sublist

theorem iterate_dropLowest_sublist (n : Nat) : ∀ l : List α, ((dropLowest lvl)^[n] l).Sublist l := by
  induction n with
  | zero => exact fun l => .refl l
  | succ n ih => exact fun l => (ih (dropLowest lvl l)).trans (dropLowest_sublist lvl l)

theorem trimTo_sublist (room : Nat) (l : List α) : (trimTo lvl room l).Sublist l := iterate_dropLowest_sublist lvl _ l

/-- A trim drops nothing where there is room for all. -/
theorem trimTo_of_le {room : Nat} {l : List α} (h : l.length ≤ room) : trimTo lvl room l = l := by
  rw [trimTo, Nat.sub_eq_zero_of_le h, Function.iterate_zero_apply]

theorem dropLowest_map (f : β → α) (l : List β) : dropLowest lvl (l.map f) = (dropLowest (lvl ∘ f) l).map f := by
  have hlow : lowestLevel lvl (l.map f) = lowestLevel (lvl ∘ f) l := by
    cases l with
    | nil => rfl
    | cons x xs => exact List.foldl_map ..
  simp only [dropLowest, List.eraseP_map, hlow, Function.comp_def]

/-- A trim looks at the levels alone. -/
theorem trimTo_map (room : Nat) (f : β → α) (l : List β) :
    trimTo lvl room (l.map f) = (trimTo (lvl ∘ f) room l).map f := by
  have hiter : ∀ (n : Nat) (l : List β), (dropLowest lvl)^[n] (l.map f) = ((dropLowest (lvl ∘ f))^[n] l).map f := by
    intro n
    induction n with
    | zero => exact fun l => rfl
    | succ n ih =>
      intro l
      rw [Function.iterate_succ_apply, dropLowest_map, ih, Function.iterate_succ_apply]
  rw [trimTo, List.length_map, hiter, trimTo]

/-- One contribution goes before another: it is lower, or as low and departed first. -/
def GoesBefore (a b : α × Nat) : Prop := (lvl a.1).lt (lvl b.1) = true ∨ (lvl a.1 = lvl b.1 ∧ a.2 < b.2)

theorem dropLowest_dropped {l : List (α × Nat)} (hord : l.Pairwise fun x y => x.2 < y.2) {a : α × Nat} (ha : a ∈ l)
    (hgone : a ∉ dropLowest (fun x => lvl x.1) l) : ∀ b ∈ dropLowest (fun x => lvl x.1) l, GoesBefore lvl a b := by
  intro b hb
  obtain ⟨y, hy, hlow⟩ := lowestLevel_mem (fun x : α × Nat => lvl x.1) (List.ne_nil_of_mem ha)
  obtain ⟨d, before, after, hbefore, hd, hl, herase⟩ := List.exists_of_eraseP
    (p := fun x => decide (lvl x.1 = lowestLevel (fun x : α × Nat => lvl x.1) l)) hy (decide_eq_true hlow)
  rw [dropLowest, herase] at hgone hb
  have had : a = d := by
    rw [hl] at ha
    simp only [List.mem_append, List.mem_cons] at ha hgone
    tauto
  subst had
  have ha0 : lvl a.1 = lowestLevel (fun x : α × Nat => lvl x.1) l := of_decide_eq_true hd
  have hle : (lvl a.1).AtMost (lvl b.1) := by
    rw [ha0]
    refine lowestLevel_atMost (fun x : α × Nat => lvl x.1) (x := b) ?_
    rw [hl]
    simp only [List.mem_append, List.mem_cons] at hb ⊢
    tauto
  rcases hle with hlt | heq
  · exact .inl hlt
  · refine .inr ⟨heq, ?_⟩
    rcases List.mem_append.mp hb with hb | hb
    · exact absurd (decide_eq_true (heq.symm.trans ha0)) (hbefore b hb)
    · rw [hl] at hord
      exact List.rel_of_pairwise_cons (List.pairwise_append.mp hord).2.1 hb

/-- Every contribution that a trim drops goes before every one that it keeps. -/
theorem trimTo_dropped {l : List (α × Nat)} (hord : l.Pairwise fun x y => x.2 < y.2) (room : Nat) {a : α × Nat}
    (ha : a ∈ l) (hgone : a ∉ trimTo (fun x => lvl x.1) room l) :
    ∀ b ∈ trimTo (fun x => lvl x.1) room l, GoesBefore lvl a b := by
  unfold trimTo at *
  generalize l.length - room = n at *
  induction n generalizing l with
  | zero => exact absurd ha hgone
  | succ n ih =>
    rw [Function.iterate_succ_apply] at hgone ⊢
    by_cases hd : a ∈ dropLowest (fun x => lvl x.1) l
    · exact ih (hord.sublist (dropLowest_sublist _ l)) hd hgone
    · exact fun b hb => dropLowest_dropped lvl hord ha hd b ((iterate_dropLowest_sublist _ n _).mem hb)

/-- A trim of a list in its order. -/
theorem trimTo_kept (room : Nat) (l : List α) : ∃ kept : List (α × Nat), kept.Sublist l.zipIdx ∧
    kept.map (·.1) = trimTo lvl room l ∧ kept.length = min l.length room ∧
    ∀ a ∈ l.zipIdx, a ∉ kept → ∀ b ∈ kept, GoesBefore lvl a b := by
  have hord : l.zipIdx.Pairwise fun x y => x.2 < y.2 :=
    List.pairwise_map.mp (by rw [List.zipIdx_map_snd]; exact List.pairwise_lt_range')
  refine ⟨trimTo (fun x => lvl x.1) room l.zipIdx, trimTo_sublist .., ?_, by simp [Nat.min_comm], fun a ha hgone =>
    trimTo_dropped lvl hord room ha hgone⟩
  have hmap := trimTo_map lvl room Prod.fst l.zipIdx
  rw [List.zipIdx_map_fst] at hmap
  exact hmap.symm

end Trim

/-! ## The same contribution (03 R47) -/

theorem sameShare_iff (n : BuiltShare) (x : RouteShare) : sameShare n x = true ↔
    n.orphaned = false ∧ x.orphaned = false ∧ n.route = x.route ∧ n.source = x.source := by
  simp [sameShare, and_assoc]

/-- No two contributions that are not orphaned are of one route and source. -/
def Distinguished (l : List RouteShare) : Prop :=
  l.Pairwise fun x y => x.route = y.route → x.source = y.source → x.orphaned = true ∨ y.orphaned = true

theorem eraseP_eq_filter {α : Type} {p : α → Bool} {l : List α} (h : l.Pairwise fun x y => ¬ (p x = true ∧ p y = true)) :
    l.eraseP p = l.filter fun x => !p x := by
  induction l with
  | nil => rfl
  | cons x xs ih =>
    obtain ⟨hx, hxs⟩ := List.pairwise_cons.mp h
    by_cases hp : p x = true
    · rw [List.eraseP_cons_of_pos hp, List.filter_cons_of_neg (by simp [hp])]
      exact (List.filter_eq_self.mpr fun y hy => by simpa using fun hy' => hx y hy ⟨hp, hy'⟩).symm
    · rw [List.eraseP_cons_of_neg hp, List.filter_cons_of_pos (by simp [hp]), ih hxs]

/-- What a contribution of the new set takes back is every departing contribution that is the same. -/
theorem takeBack_eq_filter (m : MixZone) {l : List RouteShare} (h : Distinguished l) (n : BuiltShare) :
    takeBack m l n = l.filter fun x => !(sameShare n x && !m.routes.any (sameShare n)) := by
  unfold takeBack
  split
  · next hany => simp [hany]
  · next hany =>
    have hone : l.Pairwise fun x y => ¬ (sameShare n x = true ∧ sameShare n y = true) := by
      refine h.imp fun hxy ⟨hx, hy⟩ => ?_
      obtain ⟨-, hxo, hxr, hxs⟩ := (sameShare_iff n _).mp hx
      obtain ⟨-, hyo, hyr, hys⟩ := (sameShare_iff n _).mp hy
      simpa [hxo, hyo] using hxy (hxr.symm.trans hyr) (hxs.symm.trans hys)
    simp [eraseP_eq_filter hone, hany]

theorem foldl_takeBack_eq_filter (m : MixZone) (ns : List BuiltShare) : ∀ {l : List RouteShare}, Distinguished l →
    ns.foldl (takeBack m) l = l.filter fun x => !ns.any fun n => sameShare n x && !m.routes.any (sameShare n) := by
  induction ns with
  | nil => intro l _; simp
  | cons n ns ih =>
    intro l h
    rw [List.foldl_cons, takeBack_eq_filter m h, ih (h.filter _), List.filter_filter]
    exact List.filter_congr fun x _ => by rw [List.any_cons, Bool.not_or, Bool.and_comm]

theorem foldl_takeBack_sublist (m : MixZone) (ns : List BuiltShare) :
    ∀ l : List RouteShare, (ns.foldl (takeBack m) l).Sublist l := by
  induction ns with
  | nil => exact fun l => .refl l
  | cons n ns ih =>
    refine fun l => (ih _).trans ?_
    unfold takeBack
    split
    · exact .refl l
    · exact List.eraseP_sublist

/-! ## The plan that is installed (03 R47, R52) -/

theorem find?_sameShare {l : List RouteShare} {n : BuiltShare} {x : RouteShare} (h : l.find? (sameShare n) = some x) :
    x.route = n.route ∧ x.source = n.source := by
  obtain ⟨-, -, hr, hs⟩ := (sameShare_iff n x).mp (List.find?_some h)
  exact ⟨hr.symm, hs.symm⟩

section Install
variable (before after : RouteShare → Level) (m : MixZone) (n : BuiltShare)

theorem installShare_planOf : (installShare before after m n).planOf = (n.route, n.source, n.duck, n.planned) := by
  unfold installShare
  split
  · next x h => simp [RouteShare.planOf, find?_sameShare h]
  · split
    · next x h => simp [RouteShare.planOf, find?_sameShare h]
    · rfl

theorem installShare_current : (installShare before after m n).current = (match m.routes.find? (sameShare n) with
    | some x => x.current
    | none => match m.leaving.find? (sameShare n) with
      | some x => x.current
      | none => .silent) := by
  unfold installShare
  cases m.routes.find? (sameShare n) with
  | some x => rfl
  | none => cases m.leaving.find? (sameShare n) <;> rfl

theorem installShare_settling : (installShare before after m n).settling = (match m.routes.find? (sameShare n) with
    | some x => x.settling || decide (before x ≠ after { x with duck := n.duck, planned := n.planned })
    | none => true) := by
  unfold installShare
  cases m.routes.find? (sameShare n) with
  | some x => rfl
  | none => cases m.leaving.find? (sameShare n) <;> rfl

end Install

/-- A target reads the duck state and the recorded values of the plan, and the contribution. -/
theorem routeTarget_of_eq {m m' : MixZone} (ha : m'.audible = m.audible) (hl : m'.listened = m.listened)
    (hr : m'.recorded = m.recorded) (e : ZoneEntry) (crank : Int) (x : RouteShare) :
    routeTarget e crank m' x = routeTarget e crank m x := by
  obtain ⟨⟩ := m
  obtain ⟨⟩ := m'
  subst ha hl hr
  rfl

/-- The contributions that no contribution of the new set is the same as: they depart. -/
def goneShares (j : BuildJob) (m : MixZone) : List RouteShare :=
  (m.routes.filter fun y => !j.shares.any fun n => sameShare n y).map fun y => { y with settling := true }

theorem mem_goneShares {j : BuildJob} {m : MixZone} {x : RouteShare} : x ∈ goneShares j m ↔
    ∃ y ∈ m.routes, x = { y with settling := true } ∧ ∀ n ∈ j.shares, sameShare n y = false := by
  simp only [goneShares, List.mem_map, List.mem_filter, Bool.not_eq_true', List.any_eq_false, Bool.not_eq_true]
  exact ⟨fun ⟨y, ⟨hy, hn⟩, hx⟩ => ⟨y, hy, hx.symm, hn⟩, fun ⟨y, hy, hx, hn⟩ => ⟨y, ⟨hy, hn⟩, hx.symm⟩⟩

section Zone
variable (e : ZoneEntry) (crank : Int) (muted : Bool) (j : BuildJob) (m : MixZone)

theorem installZone_leaving : (installZone e crank muted j m).leaving =
    trimTo (·.current) (16 - j.shares.length) (j.shares.foldl (takeBack m) m.leaving ++ goneShares j m) := by
  simp [installZone, goneShares]

theorem installZone_planOf : (installZone e crank muted j m).routes.map RouteShare.planOf =
    j.shares.map fun n => (n.route, n.source, n.duck, n.planned) := by
  simp only [installZone, List.map_map]
  exact List.map_congr_left fun n _ => installShare_planOf ..

theorem installZone_current : (installZone e crank muted j m).routes.map (·.current) = j.shares.map (fun n =>
    match m.routes.find? (sameShare n) with
    | some x => x.current
    | none => match m.leaving.find? (sameShare n) with
      | some x => x.current
      | none => .silent) := by
  simp only [installZone, List.map_map]
  exact List.map_congr_left fun n _ => installShare_current ..

theorem installZone_settling : (installZone e crank muted j m).routes.map (·.settling) = j.shares.map (fun n =>
    match m.routes.find? (sameShare n) with
    | some x => x.settling || decide (inForce muted (routeTarget e crank m x) ≠
        inForce muted (routeTarget e crank (installZone e crank muted j m) { x with duck := n.duck, planned := n.planned }))
    | none => true) := by
  simp only [installZone, List.map_map]
  exact List.map_congr_left fun n _ => installShare_settling ..

theorem mem_installZone_leaving {x : RouteShare} (h : x ∈ (installZone e crank muted j m).leaving) :
    x ∈ m.leaving ∨ ∃ y ∈ m.routes, x = { y with settling := true } ∧ ∀ n ∈ j.shares, sameShare n y = false := by
  rw [installZone_leaving] at h
  exact (List.mem_append.mp ((trimTo_sublist ..).mem h)).imp (foldl_takeBack_sublist m _ _).mem mem_goneShares.mp

theorem goneShares_kept (hroom : j.shares.length + m.leaving.length + m.routes.length ≤ 16) {y : RouteShare}
    (hy : y ∈ m.routes) (hn : ∀ n ∈ j.shares, sameShare n y = false) :
    { y with settling := true } ∈ (installZone e crank muted j m).leaving := by
  have htaken := (foldl_takeBack_sublist m j.shares m.leaving).length_le
  have hgone : (goneShares j m).length ≤ m.routes.length := by
    rw [goneShares, List.length_map]
    exact List.length_filter_le ..
  rw [installZone_leaving, trimTo_of_le _ (by rw [List.length_append]; omega)]
  exact List.mem_append_right _ (mem_goneShares.mpr ⟨y, hy, rfl, hn⟩)

theorem installZone_number (h : j.shares.length ≤ 16) :
    (installZone e crank muted j m).routes.length + (installZone e crank muted j m).leaving.length ≤ 16 := by
  simp only [installZone, trimTo_length, List.length_map]
  omega

theorem installZone_removals (h : Distinguished m.leaving) :
    ∃ (departing : List RouteShare) (kept : List (RouteShare × Nat)), departing = (m.leaving.filter fun x =>
        !j.shares.any fun n => sameShare n x && !m.routes.any (sameShare n)) ++
      ((m.routes.filter fun y => !j.shares.any fun n => sameShare n y).map fun y => { y with settling := true }) ∧
      kept.Sublist departing.zipIdx ∧ kept.map (·.1) = (installZone e crank muted j m).leaving ∧
      kept.length = min departing.length (16 - j.shares.length) ∧
      ∀ a ∈ departing.zipIdx, a ∉ kept → ∀ b ∈ kept, a.1.current.lt b.1.current = true ∨
        (a.1.current = b.1.current ∧ a.2 < b.2) := by
  rw [installZone_leaving, foldl_takeBack_eq_filter m _ h]
  obtain ⟨kept, hkept⟩ := trimTo_kept (fun x : RouteShare => x.current) (16 - j.shares.length)
    ((m.leaving.filter fun x => !j.shares.any fun n => sameShare n x && !m.routes.any (sameShare n)) ++ goneShares j m)
  exact ⟨_, kept, rfl, hkept⟩

end Zone

/-! ## The cabin change notice (03 R49) -/

theorem samePairs_eq_false_iff (a b : List (RouteId × PlanSource)) :
    samePairs a b = false ↔ (∃ y ∈ a, y ∉ b) ∨ ∃ y ∈ b, y ∉ a := by
  simp only [samePairs, Bool.and_eq_false_iff, List.all_eq_false, List.contains_eq_mem, decide_eq_true_eq]

theorem loudspeakerZone_iff (z : Zone) : loudspeakerZone z = true ↔ z = .z0 ∨ z = .z1 ∨ z = .z2 := by
  cases z <;> simp [loudspeakerZone]

/-- A reconvergence trigger writes the canceller and events, and no more. -/
theorem reconverge_keeps (c : Cabin) : (reconverge c).dir = c.dir ∧ (reconverge c).mix = c.mix ∧
    (reconverge c).builder = c.builder ∧ (reconverge c).table = c.table ∧ (reconverge c).alloc = c.alloc ∧
    (reconverge c).queue = c.queue ∧ (reconverge c).calls.slots = c.calls.slots ∧
    (reconverge c).ports.part = c.ports.part := by
  unfold reconverge
  cases c.calls.canceller.state <;> simp [enterEcho, setCanceller]

theorem reconverge_calls (c : Cabin) : (reconverge c).calls = { c.calls with canceller :=
    match c.calls.canceller.state with
    | .idle => c.calls.canceller
    | _ => restartConverging c.calls.canceller } := by
  unfold reconverge
  cases h : c.calls.canceller.state <;> simp [enterEcho, setCanceller]

theorem reconverge_calls_of_eq {c d : Cabin} (h : d.calls = c.calls) : (reconverge d).calls = (reconverge c).calls := by
  rw [reconverge_calls, reconverge_calls, h]

theorem enterEcho_shows {c : Cabin} (hposts : c.ports.part.posts = true) (v : Canceller) :
    EventSet.has ((enterEcho v c).ports.events.get .front) .echo = true :=
  post_shows (c := setCanceller v c) hposts .front .echo

theorem reconverge_shows_echo {c : Cabin} (hposts : c.ports.part.posts = true)
    (h : (reconverge c).calls.canceller.state ≠ c.calls.canceller.state) :
    EventSet.has ((reconverge c).ports.events.get .front) .echo = true := by
  unfold reconverge at h ⊢
  cases hs : c.calls.canceller.state with
  | idle => simp [hs] at h
  | converging => simp [hs, setCanceller, restartConverging] at h
  | tracking => exact enterEcho_shows hposts _
  | doubleTalk => exact enterEcho_shows hposts _

/-! ## The end of a build -/

/-- The cabin with the plan of the build in it, and no build in flight. -/
def installedPlan (crank : Int) (muted : Bool) (j : BuildJob) (c : Cabin) : Cabin :=
  { setMixZone j.zone (installZone (c.zone j.zone) crank muted j (c.mixZone j.zone)) c with
    builder := { c.builder with job := none } }

/-- The installation calls for a cabin change notice. -/
def cabinChanges (crank : Int) (muted : Bool) (j : BuildJob) (c : Cabin) : Bool :=
  loudspeakerZone j.zone && !samePairs (sharePairs (c.mixZone j.zone))
    (sharePairs (installZone (c.zone j.zone) crank muted j (c.mixZone j.zone)))

/-- The cabin after the notice, if one is called for. -/
def noticedPlan (crank : Int) (muted : Bool) (j : BuildJob) (c : Cabin) : Cabin :=
  if cabinChanges crank muted j c then reconverge (installedPlan crank muted j c) else installedPlan crank muted j c

theorem completeBuild_of_none {c : Cabin} (h : c.builder.job = none) (crank : Int) (muted : Bool) :
    completeBuild crank muted c = c := by simp only [completeBuild, h]

theorem completeBuild_of_job {c : Cabin} {j : BuildJob} (h : c.builder.job = some j) (crank : Int) (muted : Bool) :
    completeBuild crank muted c = startBuild (settleHold (noticedPlan crank muted j c)) := by
  simp only [completeBuild, h]
  rfl

section Complete
variable (crank : Int) (muted : Bool) (j : BuildJob) (c : Cabin)

theorem noticedPlan_keeps : (noticedPlan crank muted j c).dir = c.dir ∧
    (noticedPlan crank muted j c).mix = (installedPlan crank muted j c).mix ∧
    (noticedPlan crank muted j c).builder = { c.builder with job := none } ∧
    (noticedPlan crank muted j c).table = c.table ∧ (noticedPlan crank muted j c).alloc = c.alloc ∧
    (noticedPlan crank muted j c).queue = c.queue ∧ (noticedPlan crank muted j c).calls.slots = c.calls.slots ∧
    (noticedPlan crank muted j c).ports.part = c.ports.part := by
  unfold noticedPlan
  split
  · exact reconverge_keeps (installedPlan crank muted j c)
  · exact ⟨rfl, rfl, rfl, rfl, rfl, rfl, rfl, rfl⟩

theorem completeBuild_mix (h : c.builder.job = some j) :
    (completeBuild crank muted c).mix = (installedPlan crank muted j c).mix := by
  rw [completeBuild_of_job h, startBuild_mix, settleHold_mix]
  exact (noticedPlan_keeps crank muted j c).2.1

theorem completeBuild_mixZone (h : c.builder.job = some j) (z : Zone) : (completeBuild crank muted c).mixZone z =
    if z = j.zone then installZone (c.zone j.zone) crank muted j (c.mixZone j.zone) else c.mixZone z := by
  have hzones : (completeBuild crank muted c).mixZone z =
      (setMixZone j.zone (installZone (c.zone j.zone) crank muted j (c.mixZone j.zone)) c).mixZone z :=
    mixZone_of_zones (congrArg Mix.zones (completeBuild_mix crank muted j c h)) z
  rw [hzones, setMixZone_mixZone]

theorem completeBuild_frame (h : c.builder.job = some j) :
    (completeBuild crank muted c).dir = c.dir ∧ (completeBuild crank muted c).table = c.table ∧
    (completeBuild crank muted c).alloc = c.alloc ∧ (completeBuild crank muted c).queue = c.queue ∧
    (completeBuild crank muted c).calls.slots = c.calls.slots ∧
    (completeBuild crank muted c).mix.channels = c.mix.channels := by
  obtain ⟨hdir, -, -, htable, halloc, hqueue, hslots, -⟩ := noticedPlan_keeps crank muted j c
  have hmix := completeBuild_mix crank muted j c h
  rw [completeBuild_of_job h] at hmix ⊢
  simp only [startBuild_dir, startBuild_table, startBuild_alloc, startBuild_queue, startBuild_calls, settleHold_dir,
    settleHold_table, settleHold_alloc, settleHold_queue, settleHold_calls]
  exact ⟨hdir, htable, halloc, hqueue, hslots, (congrArg Mix.channels hmix :)⟩

theorem cabinChanges_iff : cabinChanges crank muted j c = true ↔ (j.zone = .z0 ∨ j.zone = .z1 ∨ j.zone = .z2) ∧
    ((∃ y ∈ sharePairs (c.mixZone j.zone),
        y ∉ sharePairs (installZone (c.zone j.zone) crank muted j (c.mixZone j.zone))) ∨
      ∃ y ∈ sharePairs (installZone (c.zone j.zone) crank muted j (c.mixZone j.zone)),
        y ∉ sharePairs (c.mixZone j.zone)) := by
  rw [cabinChanges, Bool.and_eq_true, Bool.not_eq_true', loudspeakerZone_iff, samePairs_eq_false_iff]

theorem completeBuild_calls (h : c.builder.job = some j) : (completeBuild crank muted c).calls =
    if cabinChanges crank muted j c then (reconverge c).calls else c.calls := by
  rw [completeBuild_of_job h, startBuild_calls, settleHold_calls, noticedPlan]
  split
  · exact reconverge_calls_of_eq (d := installedPlan crank muted j c) rfl
  · rfl

theorem completeBuild_shows_echo (h : c.builder.job = some j) (hchange : cabinChanges crank muted j c = true)
    (hposts : c.ports.part.posts = true)
    (hstate : (completeBuild crank muted c).calls.canceller.state ≠ c.calls.canceller.state) :
    EventSet.has ((completeBuild crank muted c).ports.events.get .front) .echo = true := by
  rw [completeBuild_of_job h] at hstate ⊢
  rw [startBuild_calls, settleHold_calls, noticedPlan, if_pos hchange] at hstate
  rw [startBuild_ports]
  refine (settleHold_has_iff _ _ _).mpr (.inl ?_)
  rw [noticedPlan, if_pos hchange]
  exact reconverge_shows_echo (c := installedPlan crank muted j c) hposts hstate

/-- The builder, RUNNING and with no build in flight, takes the next zone that is stale. -/
theorem completeBuild_starts (h : c.builder.job = some j) (hhold : c.builder.hold = .running)
    (hrun : c.ports.part = .running) :
    (∀ z, nextStale c = some z → (completeBuild crank muted c).builder.position = z ∧
      (completeBuild crank muted c).builder.stale.get z = false ∧
      ∃ b, (completeBuild crank muted c).builder.job = some b ∧ b.zone = z ∧
        ReadsAtStart (completeBuild crank muted c) b) ∧
    (nextStale c = none → (completeBuild crank muted c).builder.job = none) := by
  obtain ⟨-, -, hbuilder, -, -, -, -, hpart⟩ := noticedPlan_keeps crank muted j c
  rw [completeBuild_of_job h]
  generalize noticedPlan crank muted j c = d at *
  have hdhold : d.builder.hold = .running := by rw [hbuilder]; exact hhold
  rw [settleHold_of_not fun hp => by simp [hdhold] at hp]
  have hnext : nextStale d = nextStale c := by simp only [nextStale, hbuilder]
  have hmay : mayBuild d = true := (mayBuild_iff d).mpr ⟨by rw [hbuilder], hdhold, hpart.trans hrun⟩
  refine ⟨fun z hz => startBuild_starts hmay (hnext.trans hz), fun hz => ?_⟩
  rw [startBuild_of_none (hnext.trans hz), hbuilder]

end Complete

/-- Settles O23: the mix of the end of a build is the mix with the plan installed, the notice touches the canceller and
events alone, and the next build finds the builder as the last one left it. -/
theorem planBuildCompleteInstalls : Obligations.PlanBuildCompleteInstalls := by
  refine ⟨fun s j hj => ?_, sameShare_iff, Level.lt_iff, fun s hj =>
    congrArg (fun c : Cabin => Host.Outcome.next (s.onCab fun _ => c)) (completeBuild_of_none hj ..)⟩
  have hzone := completeBuild_mixZone s.supply.crank s.ring.lineSeen j s.cab hj
  have hcalls := completeBuild_calls s.supply.crank s.ring.lineSeen j s.cab hj
  have hecho := completeBuild_shows_echo s.supply.crank s.ring.lineSeen j s.cab hj
  have hchange := cabinChanges_iff s.supply.crank s.ring.lineSeen j s.cab
  have hframe := completeBuild_frame s.supply.crank s.ring.lineSeen j s.cab hj
  refine ⟨_, rfl, ?_, fun z hz => (hzone z).trans (if_neg hz), fun hhold hrun =>
    completeBuild_starts s.supply.crank s.ring.lineSeen j s.cab hj hhold hrun, ?_⟩
  · rw [onCab_cab, (hzone j.zone).trans (if_pos rfl)]
    refine ⟨rfl, installZone_planOf .., installZone_current .., installZone_settling .., ⟨fun hz hd => ?_, fun hd => ?_⟩,
      fun x => mem_installZone_leaving _ _ _ _ _, fun h y => goneShares_kept _ _ _ _ _ h, installZone_number _ _ _ _ _,
      installZone_removals _ _ _ _ _, rfl, rfl, rfl, rfl⟩
    · have hnotice := hchange.mpr ⟨hz, hd⟩
      rw [if_pos hnotice] at hcalls
      exact ⟨hcalls, fun hstate hposts => hecho hnotice hposts hstate⟩
    · rwa [if_neg] at hcalls
      rw [hchange]
      rintro ⟨hz, hdiff⟩
      rcases hd with h | h | h
      · simp [h] at hz
      · simp [h] at hz
      · exact h hdiff
  · obtain ⟨hdir, htable, halloc, hqueue, hslots, hchannels⟩ := hframe
    exact ⟨hdir, htable, halloc, hqueue, hslots, hchannels, rfl, rfl, rfl, rfl⟩

end Sys2Proof.Machine
end

section
/-! SUPPORT. Commands under which no plan is rebuilt and the stations stay on their channels (03 R53): first what that
means of two cabins, then the operations of the queue, the calls, the routes and the tuners. -/

namespace Sys2Proof.Machine

/-! ## The plans and the stations of the channels -/

/-- What `KeptPlans` says of the cabin blocks. -/
def PlansKept (c d : Cabin) : Prop :=
  ∀ z, (d.mixZone z).recorded = (c.mixZone z).recorded ∧
    (d.mixZone z).routes.map RouteShare.planOf = (c.mixZone z).routes.map RouteShare.planOf

theorem PlansKept.refl (c : Cabin) : PlansKept c c := fun _ => ⟨rfl, rfl⟩

theorem PlansKept.trans {c d e : Cabin} (h : PlansKept c d) (g : PlansKept d e) : PlansKept c e := fun z =>
  ⟨(g z).1.trans (h z).1, (g z).2.trans (h z).2⟩

theorem PlansKept.of_mixing {c d : Cabin} (h : d.mixing = c.mixing) : PlansKept c d := fun z => by
  rw [mixZone_of_zones (congrArg Prod.fst h)]
  exact ⟨rfl, rfl⟩

theorem Undisturbed.plansKept {c d : Cabin} (h : Undisturbed c d) : PlansKept c d := fun z =>
  ⟨(h.shares z).1, map_of_timeless (fun _ => rfl) (h.shares z).2.1⟩

def StationsKept (c d : Cabin) : Prop := ∀ x, (d.chan x).station = (c.chan x).station

theorem StationsKept.refl (c : Cabin) : StationsKept c c := fun _ => rfl

theorem StationsKept.trans {c d e : Cabin} (h : StationsKept c d) (g : StationsKept d e) : StationsKept c e := fun x =>
  (g x).trans (h x)

theorem StationsKept.of_chans {c d : Cabin} (h : d.alloc.chans = c.alloc.chans) : StationsKept c d := fun x =>
  congrArg ProgChan.station (chan_of_chans h x)

theorem SameStates.stationsKept {c d : Cabin} (h : SameStates c d) : StationsKept c d := fun x => (h.2.2.2 x).1

theorem Apart.stationsKept {c d : Cabin} (h : Apart c d) : StationsKept c d := .of_chans h.2.2

theorem Quiet.stationsKept {c d : Cabin} (h : Quiet c d) : StationsKept c d := h.2.stationsKept

/-- Plans and stations both. -/
structure Steady (c d : Cabin) : Prop where
  plans : PlansKept c d
  stations : StationsKept c d

theorem Steady.refl (c : Cabin) : Steady c c := ⟨.refl c, .refl c⟩

theorem Steady.trans {c d e : Cabin} (h : Steady c d) (g : Steady d e) : Steady c e :=
  ⟨h.plans.trans g.plans, h.stations.trans g.stations⟩

theorem Steady.of_mixing {c d : Cabin} (hm : d.mixing = c.mixing) (hs : StationsKept c d) : Steady c d :=
  ⟨.of_mixing hm, hs⟩

theorem Steady.of_apart {c d : Cabin} (hm : d.mixing = c.mixing) (h : Apart c d) : Steady c d :=
  .of_mixing hm h.stationsKept

theorem Steady.of_undisturbed {c d : Cabin} (h : Undisturbed c d) (ha : d.alloc = c.alloc) : Steady c d :=
  ⟨h.plansKept, .of_chans (congrArg Allocator.chans ha)⟩

section Operations
variable {c d e : Cabin}

theorem Steady.onCab {s : State} {f : Cabin → Cabin} (h : Steady s.cab (f s.cab)) : Steady s.cab (s.onCab f).cab := h

/-- What leaves the mix and the channels as they were comes last and is steady. -/
theorem Steady.same (h : Steady c d) (hm : e.mixing = d.mixing) (ha : e.alloc.chans = d.alloc.chans) : Steady c e :=
  h.trans (.of_mixing hm (.of_chans ha))

theorem Steady.respond (h : Steady c d) (p : Port) (r : Result) (ws : List Word) : Steady c (respond p r ws d) :=
  h.same rfl rfl

theorem Steady.refuse (h : Steady c d) (p : Port) (r : Result) : Steady c (refuse p r d) := h.same rfl rfl

theorem Steady.post (h : Steady c d) (p : Port) (k : EventKind) : Steady c (post p k d) :=
  h.trans (.of_undisturbed (post_undisturbed ..) (by simp))

theorem Steady.postBoth (h : Steady c d) (k : EventKind) : Steady c (postBoth k d) := (h.post ..).post ..

theorem Steady.foldl {α : Type} {f : Cabin → α → Cabin} (hf : ∀ d a, Steady d (f d a)) (h : Steady c d) (l : List α) :
    Steady c (l.foldl f d) := by
  induction l generalizing d with
  | nil => exact h
  | cons a l ih => exact ih (h.trans (hf d a))

/-! ## Routes, audibility and the queue -/

theorem Steady.refreshSound (h : Steady c d) : Steady c (refreshSound d) :=
  h.trans (.of_undisturbed (refreshSound_undisturbed d) (by simp))

theorem Steady.settleRoutes (h : Steady c d) : Steady c (settleRoutes d) :=
  h.trans (.of_undisturbed (settleRoutes_undisturbed d) (by simp))

theorem settleStates_undisturbed (c : Cabin) : Undisturbed c (settleStates c) :=
  (rederiveRoutes_undisturbed c).trans (startBuild_undisturbed _)

theorem Steady.settleStates (h : Steady c d) : Steady c (settleStates d) :=
  h.trans (.of_undisturbed (settleStates_undisturbed d) (by simp))

theorem Steady.modifyEntry (h : Steady c d) (i : Fin 8) (f : Entry → Entry) : Steady c (modifyEntry i f d) :=
  h.same (modifyEntry_mixing ..) (by simp)

theorem Steady.testTraffic (h : Steady c d) : Steady c (testTraffic d) :=
  h.trans (.of_undisturbed (testTraffic_undisturbed d) (by simp))

theorem testStation_undisturbed (s : StationId) (c : Cabin) : Undisturbed c (testStation s c) := by
  unfold testStation
  split
  · exact .refl c
  · dsimp only
    split
    · exact testTrafficOn_undisturbed ..
    · exact (testTrafficOn_undisturbed ..).trans (testTraffic_undisturbed _)

theorem Steady.endEntry (h : Steady c d) (i : Fin 8) (r : EndReason) : Steady c (endEntry i r d) :=
  h.trans (.of_undisturbed (endEntry_undisturbed ..) (by simp))

theorem queueEntry_undisturbed (k : EntryKind) (n : Nat) (t : ZoneSet) (ms : Nat) (c : Cabin) :
    Undisturbed c (queueEntry k n t ms c).1 := by
  unfold queueEntry
  split
  · exact (admitEntry_undisturbed ..).trans (testTraffic_undisturbed _)
  · exact admitEntry_undisturbed ..

theorem Steady.queueEntry (h : Steady c d) (k : EntryKind) (n : Nat) (t : ZoneSet) (ms : Nat) :
    Steady c (queueEntry k n t ms d).1 := h.trans (.of_undisturbed (queueEntry_undisturbed ..) (by simp))

theorem Steady.endAndIgnore (h : Steady c d) (i : Fin 8) (r : EndReason) : Steady c (endAndIgnore i r d) := by
  unfold Machine.endAndIgnore
  repeat' split
  · exact h
  · rename_i s _ _
    have hignore : Steady c (ignoreStation s d) := h.same (by simp [Cabin.mixing]) (by simp)
    exact hignore.endEntry ..
  · exact h.endEntry ..

/-! ## Calls (07) -/

theorem Steady.modifyCall (h : Steady c d) (i : Fin 2) (f : CallRecord → CallRecord) : Steady c (modifyCall i f d) :=
  h.same (modifyCall_mixing ..) (by simp)

theorem Steady.putCall (h : Steady c d) (i : Fin 2) (v : CallSlot) : Steady c (putCall i v d) :=
  h.same (putCall_mixing ..) (by simp)

theorem Steady.setCallState (h : Steady c d) (i : Fin 2) (v : CallState) : Steady c (setCallState i v d) :=
  h.modifyCall ..

theorem Steady.activate (h : Steady c d) (i : Fin 2) : Steady c (activate i d) := by
  unfold Machine.activate
  dsimp only
  split
  · exact (h.setCallState ..).setCallState ..
  · exact h.setCallState ..

theorem Steady.dropTone (h : Steady c d) (i : Fin 2) : Steady c (dropTone i d) := by
  unfold Machine.dropTone endTone setTone
  repeat' split
  · exact h
  · exact h
  · exact h.modifyCall ..
  · exact (h.endEntry ..).modifyCall ..

theorem Steady.queueTone (h : Steady c d) (i : Fin 2) (r : CallRecord) : Steady c (queueTone i r d) := by
  unfold Machine.queueTone
  extract_lets waiting kind targets
  have hqueued := h.queueEntry kind 6 targets 0
  split <;> rename_i hr <;> rw [hr] at hqueued
  · exact hqueued.modifyCall ..
  · exact hqueued.same (by simp [postCall, Cabin.mixing]) (by simp [postCall])

theorem Steady.settleTone (h : Steady c d) (i : Fin 2) : Steady c (settleTone i d) := by
  unfold Machine.settleTone
  repeat' split
  · exact h
  · exact (h.dropTone i).queueTone ..
  · exact h

theorem Steady.settleCalls (h : Steady c d) : Steady c (settleCalls d) :=
  (h.same (followActiveCall_mixing d) (apart_followActiveCall d).2.2).refreshSound

theorem Steady.changeCall (h : Steady c d) (i : Fin 2) (r : CallRecord) : Steady c (changeCall i r d) := by
  have hfollow : ∀ {d}, Steady c d → Steady c (followListeners i d) := fun {d} h => by
    unfold followListeners
    repeat' split
    · exact h
    · exact h
    · exact h
    · exact h.modifyEntry ..
    · exact h
  exact (hfollow (h.modifyCall ..)).refreshSound

end Operations

/-! ## The requests and events of the queue (06) -/

section Commands
variable (c : Cabin)

theorem startChime_steady (p : Port) (n : Nat) (t : Option Nat) : Steady c (startChime p n t c) := by
  have hchime : ∀ n t, Steady c (chimeAt p n t c) := fun n t => by
    have hqueued := (Steady.refl c).queueEntry (.chime n) (c.queue.patterns.get n).priority t 0
    unfold chimeAt restartChime
    split
    · exact ((Steady.refl c).same (by simp [restartVoice, Cabin.mixing]) (by simp [restartVoice])).refreshSound.respond ..
    · split <;> rename_i hr <;> rw [hr] at hqueued
      · exact (Steady.refl c).refuse ..
      · exact hqueued.respond ..
  unfold startChime
  repeat' split
  · exact (Steady.refl c).refuse ..
  · exact (Steady.refl c).refuse ..
  · exact (Steady.refl c).refuse ..
  · exact hchime ..

theorem startNav_steady (p : Port) (n : Nat) : Steady c (startNav p n c) := by
  have hnav : ∀ t, Steady c (navAt p t c) := fun t => by
    have hqueued := (Steady.refl c).queueEntry .nav 4 t navLimit
    unfold navAt
    split
    · exact ((Steady.refl c).modifyEntry ..).refreshSound.respond ..
    · split <;> rename_i hr <;> rw [hr] at hqueued
      · exact (Steady.refl c).refuse ..
      · exact hqueued.respond ..
  unfold startNav
  repeat' split
  · exact (Steady.refl c).refuse ..
  · exact (Steady.refl c).refuse ..
  · exact hnav _

theorem cancelAnnouncement_steady (p : Port) (h : Handle) : Steady c (cancelAnnouncement p h c) := by
  unfold cancelAnnouncement
  repeat' split
  · exact (Steady.refl c).refuse ..
  · exact (Steady.refl c).refuse ..
  · exact (Steady.refl c).refuse ..
  · exact (Steady.refl c).refuse ..
  · exact ((Steady.refl c).endAndIgnore ..).respond ..

theorem keepNav_steady (p : Port) : Steady c (keepNav p c) := by
  unfold keepNav
  repeat' split
  · exact (Steady.refl c).refuse ..
  · exact (Steady.refl c).refuse ..
  · exact ((Steady.refl c).modifyEntry ..).respond ..

theorem endNav_steady (p : Port) : Steady c (endNav p c) := by
  unfold endNav
  repeat' split
  · exact (Steady.refl c).refuse ..
  · exact (Steady.refl c).refuse ..
  · exact ((Steady.refl c).endEntry ..).respond ..

theorem setPattern_steady (p : Port) (n : Nat) (a : PatternArgs) : Steady c (setPattern p n a c) := by
  have hfollow : ∀ n d, Steady d (followPriority n d) := fun n d => by
    unfold followPriority
    split
    · exact .refl d
    · exact (Steady.refl d).modifyEntry ..
  unfold setPattern
  dsimp only
  repeat' split
  · exact (Steady.refl c).refuse ..
  · exact (Steady.refl c).refuse ..
  · exact (((Steady.refl c).same (by rfl) (by rfl)).trans (hfollow ..)).refreshSound.respond ..
  · exact (Steady.refl c).refuse ..

theorem chimeCompleted_steady (v : Fin 2) : Steady c (chimeCompleted v c) := by
  unfold chimeCompleted
  repeat' split
  · exact .refl c
  · exact (Steady.refl c).endEntry ..
  · exact .refl c

theorem navTimeout_steady : Steady c (navTimeout c) := by
  unfold navTimeout
  split
  · exact .refl c
  · exact (Steady.refl c).endEntry ..

theorem trafficTimeout_steady (i : Fin 8) : Steady c (trafficTimeout i c) := by
  unfold trafficTimeout
  repeat' split
  · exact .refl c
  · exact (Steady.refl c).endAndIgnore ..
  · exact .refl c

/-! ## The requests on calls (07) -/

theorem openCall_steady (p : Port) (a : OpenArgs) : Steady c (openCall p a c) := by
  unfold openCall
  repeat' split
  · exact (Steady.refl c).refuse ..
  · exact (Steady.refl c).refuse ..
  · exact (((Steady.refl c).putCall ..).settleTone _).settleCalls.respond ..
  · exact (Steady.refl c).refuse ..

theorem onCall_steady {k : Fin 2 → CallRecord → Cabin → Cabin} (hk : ∀ i r, Steady c (k i r c)) (p : Port)
    (h : Handle) : Steady c (onCall p h k c) := by
  unfold onCall
  repeat' split
  · exact (Steady.refl c).refuse ..
  · exact (Steady.refl c).refuse ..
  · exact (Steady.refl c).refuse ..
  · exact hk ..

theorem answerCall_steady (p : Port) (h : Handle) : Steady c (answerCall p h c) := by
  refine onCall_steady c (fun i r => ?_) p h
  unfold answerAt
  split
  · exact ((((Steady.refl c).activate i).dropTone i).settleTone _).settleCalls.respond ..
  · exact (Steady.refl c).refuse ..

theorem holdCall_steady (p : Port) (h : Handle) : Steady c (holdCall p h c) := by
  refine onCall_steady c (fun i r => ?_) p h
  unfold holdAt
  split
  · exact (((Steady.refl c).setCallState i .held).settleTone _).settleCalls.respond ..
  · exact (Steady.refl c).refuse ..

theorem resumeCall_steady (p : Port) (h : Handle) : Steady c (resumeCall p h c) := by
  refine onCall_steady c (fun i r => ?_) p h
  unfold resumeAt
  split
  · exact (((Steady.refl c).activate i).settleTone _).settleCalls.respond ..
  · exact (Steady.refl c).refuse ..

theorem endCall_steady (p : Port) (h : Handle) : Steady c (endCall p h c) := by
  refine onCall_steady c (fun i r => ?_) p h
  unfold endAt retireCall
  exact ((((Steady.refl c).dropTone i).putCall ..).settleTone _).settleCalls.respond ..

theorem setListeners_steady (p : Port) (h : Handle) (n : Nat) : Steady c (setListeners p h n c) := by
  unfold setListeners
  split
  · exact (Steady.refl c).refuse ..
  · refine onCall_steady c (fun i r => ?_) p h
    unfold listenersAt
    exact ((Steady.refl c).changeCall ..).respond ..

theorem setCall_steady (p : Port) (h : Handle) (a : CallArgs) : Steady c (setCall p h a c) := by
  unfold setCall
  split
  · refine onCall_steady c (fun i r => ?_) p h
    unfold settingsAt
    exact ((Steady.refl c).changeCall ..).respond ..
  · exact (Steady.refl c).refuse ..

theorem onRearCall_steady {k : Zone → Fin 2 → CallRecord → Cabin → Cabin} (hk : ∀ z i r, Steady c (k z i r c))
    (p : Port) (h : Handle) (n : Nat) : Steady c (onRearCall p h n k c) := by
  unfold onRearCall
  repeat' split
  · exact (Steady.refl c).refuse ..
  · exact (Steady.refl c).refuse ..
  · exact hk ..
  · exact (Steady.refl c).refuse ..

theorem joinCall_steady (p : Port) (h : Handle) (n : Nat) : Steady c (joinCall p h n c) := by
  refine onRearCall_steady c (fun z i r => ?_) p h n
  unfold joinAt
  repeat' split
  · exact (Steady.refl c).refuse ..
  · exact (Steady.refl c).refuse ..
  · exact ((Steady.refl c).changeCall ..).respond ..

theorem leaveCall_steady (p : Port) (h : Handle) (n : Nat) : Steady c (leaveCall p h n c) := by
  refine onRearCall_steady c (fun z i r => ?_) p h n
  unfold leaveAt
  exact ((Steady.refl c).changeCall ..).respond ..

/-! ## Reads, and requests that touch neither the mix nor the channels -/

theorem readRoute_steady (p : Port) (h : Handle) : Steady c (readRoute p h c) := by
  unfold readRoute
  repeat' split
  all_goals exact (Steady.refl c).same rfl rfl

theorem clearMarks_steady (p : Port) (h : Handle) : Steady c (clearMarks p h c) := by
  unfold clearMarks
  repeat' split
  all_goals exact (Steady.refl c).same rfl rfl

theorem readZone_steady (p : Port) (n : Nat) : Steady c (readZone p n c) := by
  unfold readZone
  split <;> exact (Steady.refl c).same rfl rfl

theorem grantRearControl_steady (p : Port) (n : Nat) : Steady c (grantRearControl p n c) := by
  unfold grantRearControl
  repeat' split
  · exact (Steady.refl c).refuse ..
  · exact (Steady.refl c).refuse ..
  · exact (Steady.refl c).respond ..
  · exact (((Steady.refl c).same (by rfl) (by rfl)).postBoth ..).respond ..

theorem readStation_steady (p : Port) (h : Handle) : Steady c (readStation p h c) := by
  unfold readStation
  repeat' split
  all_goals exact (Steady.refl c).same rfl rfl

theorem keepStation_steady (v : Bool) (p : Port) (h : Handle) : Steady c (keepStation v p h c) := by
  unfold keepStation setKept
  repeat' split
  · exact (Steady.refl c).refuse ..
  · exact (Steady.refl c).refuse ..
  · exact ((Steady.refl c).same (modifyStation_mixing ..) (by simp)).respond ..

theorem retireStation_steady (p : Port) (h : Handle) : Steady c (retireStation p h c) := by
  unfold retireStation retireStationAt
  repeat' split
  · exact (Steady.refl c).refuse ..
  · exact (Steady.refl c).refuse ..
  · exact (Steady.refl c).refuse ..
  · exact (Steady.refl c).refuse ..
  · exact (((Steady.refl c).same (by rfl) (by rfl)).postBoth ..).respond ..

theorem addStation_steady (p : Port) (b : Nat) (n : Int) : Steady c (addStation p b n c) := by
  unfold addStation addStationAt createStation
  repeat' split
  · exact (Steady.refl c).refuse ..
  · exact (Steady.refl c).respond ..
  · exact (Steady.refl c).refuse ..
  · exact (((Steady.refl c).same (by rfl) (by rfl)).postBoth ..).respond ..

theorem walkStations_steady (p : Port) (n : Int) (m : Nat) : Steady c (walkStations p n m c) := by
  unfold walkStations
  split <;> exact (Steady.refl c).same rfl rfl

theorem readPattern_steady (p : Port) (n : Nat) : Steady c (readPattern p n c) := by
  unfold readPattern
  split <;> exact (Steady.refl c).same rfl rfl

theorem setUplinkGain_steady (p : Port) (n : Int) : Steady c (setUplinkGain p n c) := by
  unfold setUplinkGain
  split <;> exact (Steady.refl c).same rfl rfl

theorem readCall_steady (p : Port) (h : Handle) : Steady c (readCall p h c) := by
  unfold readCall
  repeat' split
  all_goals exact (Steady.refl c).same rfl rfl

theorem relaySend_steady (p : Port) (w : Word) : Steady c (relaySend p w c) := by
  unfold relaySend
  split
  · exact (Steady.refl c).refuse ..
  · exact (((Steady.refl c).same (by rfl) (by rfl)).post ..).respond ..

theorem relayTake_steady (p : Port) : Steady c (relayTake p c) := by
  unfold relayTake
  split
  · exact (Steady.refl c).refuse ..
  · exact (((Steady.refl c).same (by rfl) (by rfl)).post ..).respond ..

theorem enterHold_steady (p : Port) : Steady c (enterHold p c) := by
  unfold enterHold
  repeat' split
  · exact (Steady.refl c).refuse ..
  · exact (Steady.refl c).refuse ..
  · exact (Steady.trans ⟨fun z => by simp [Cabin.mixZone], .of_chans (by simp)⟩ (.refl _)).respond ..

/-! ## Streams, tuners and the scan (01 R22, 04, 05) -/

theorem mediaState_steady (p : Port) (m0 m1 m2 m3 : Option Nat) : Steady c (mediaState p m0 m1 m2 m3 c) := by
  have hdeclared := (declaredMedia_declares m0 m1 m2 m3 c).only
  have hsteady : Steady c (declaredMedia m0 m1 m2 m3 c) := .of_undisturbed hdeclared.undisturbed hdeclared.alloc
  unfold mediaState
  dsimp only
  repeat' split
  · exact (Steady.refl c).refuse ..
  · exact (Steady.refl c).refuse ..
  · exact (Steady.refl c).respond ..
  · exact hsteady.settleStates.respond ..

section Tuners
variable {c d : Cabin}

theorem Steady.setChan (h : Steady c d) {x : Chan} {v : ProgChan} (hv : v.station = (d.chan x).station) :
    Steady c (setChan x v d) := h.trans (.of_mixing rfl fun y => setChan_station hv y)

theorem Steady.setTuner (h : Steady c d) (t : TunerId) (v : Tuner) : Steady c (setTuner t v d) := h.same rfl rfl

theorem Steady.settleRoles (h : Steady c d) : Steady c (settleRoles d) := h.same (settleRoles_mixing d) (by simp)

theorem Steady.modifyStation (h : Steady c d) (i : Fin 40) (g : Station → Station) : Steady c (modifyStation i g d) :=
  h.same (modifyStation_mixing ..) (by simp)

theorem Steady.endDiversity (h : Steady c d) (x : Chan) : Steady c (endDiversity x d) :=
  h.trans (.of_mixing (endDiversity_mixing ..) (endDiversity_quiet ..).stationsKept)

theorem Steady.beginRetune (h : Steady c d) (x : Chan) : Steady c (beginRetune x d) := by
  unfold Machine.beginRetune
  split
  · exact (h.setChan (by rfl)).setTuner ..
  · exact h

theorem Steady.decideSelf (h : Steady c d) (x : Chan) (s : StationId) (f : Follow) : Steady c (decideSelf x s f d) := by
  unfold Machine.decideSelf
  split
  · exact h.setChan rfl
  · exact (h.modifyStation ..).beginRetune x

theorem Steady.advanceSelf (h : Steady c d) (x : Chan) (s : StationId) (t : TunerId) (f : Follow) :
    Steady c (advanceSelf x s t f d) := by
  unfold Machine.advanceSelf
  split
  · exact h.decideSelf ..
  · exact (h.setChan (by rfl)).setTuner ..

theorem Steady.advanceBorrowed (h : Steady c d) (x : Chan) (s : StationId) (t : TunerId) (f : Follow) :
    Steady c (advanceBorrowed x s t f d) := by
  unfold Machine.advanceBorrowed decideBorrowed adoptBorrowed
  repeat' split
  · exact (h.setChan (by rfl)).settleRoles
  · exact (((h.modifyStation ..).setTuner ..).setChan (by rfl)).settleRoles
  · exact (h.setChan (by rfl)).setTuner ..
  · exact (h.setChan (by rfl)).setTuner ..

end Tuners

theorem retuneComplete_steady (x : Chan) : Steady c (retuneComplete x c) := by
  unfold retuneComplete
  split
  · exact ((Steady.refl c).setChan (by rfl)).settleStates
  · exact .refl c

theorem followStart_steady (x : Chan) : Steady c (followStart x c) := by
  unfold followStart startBorrowed
  repeat' split
  · exact (((Steady.refl c).endDiversity x).setChan (by rfl)).settleRoles.advanceBorrowed ..
  · exact ((Steady.refl c).advanceSelf ..).settleStates
  · exact .refl c
  · exact .refl c

theorem excursionStart_steady (x : Chan) : Steady c (excursionStart x c) := by
  unfold excursionStart
  repeat' split
  · exact ((Steady.refl c).advanceSelf ..).settleStates
  · exact .refl c
  · exact .refl c

theorem excursionEnd_steady (img : Image) (x : Chan) (f : Figures) : Steady c (excursionEnd img x f c) := by
  have hreturned : ∀ s t g ch raw, Steady c (returnFrom x s t g (noteProbe s ch raw c)) := fun s t g ch raw =>
    (((Steady.refl c).modifyStation ..).setChan (by rfl)).setTuner ..
  unfold excursionEnd
  split
  · split
    · exact .refl c
    · split
      · dsimp only
        split
        · exact ((hreturned ..).decideSelf ..).settleStates
        · exact (hreturned ..).settleStates
      · exact .refl c
  · exact .refl c

theorem stopTuners_steady : Steady c (stopTuners c) := by
  have hstopped : Steady c { c with alloc := { c.alloc with
      stopped := true
      tuners := ⟨untune c.alloc.tuners.t0, untune c.alloc.tuners.t1⟩
      chans := ⟨stopChan c.alloc.chans.pc0, stopChan c.alloc.chans.pc1⟩ } } :=
    .of_mixing rfl fun x => by cases x <;> rfl
  exact (hstopped.settleRoles.same (discardPass_mixing _) rfl).settleStates

theorem restartTuners_steady : Steady c (restartTuners c) := by
  have hrestarted : Steady c { c with alloc := { c.alloc with stopped := false } } := (Steady.refl c).same rfl rfl
  exact ((hrestarted.beginRetune .pc0).beginRetune .pc1).settleRoles.settleStates

theorem advanceScan_chans : (advanceScan c).alloc.chans = c.alloc.chans := by
  have htune : ∀ c, (tuneScan c).alloc.chans = c.alloc.chans := fun _ => rfl
  unfold advanceScan
  rw [htune]
  split
  · rfl
  · have halloc := eachIdx_keeps (fun c : Cabin => c.alloc) 40 ageSlot (fun i c => ageSlot_alloc c i) c
    simp only [completePass, halloc]

theorem createFound_chans (raw : Nat) (code : Option Nat) : (createFound raw code c).alloc.chans = c.alloc.chans := by
  unfold createFound createStation
  dsimp only
  repeat' split
  · simp
  · simp [retireStationSlot]
  · rfl
  · rfl

theorem scanMeasurement_chans (img : Image) (f : Figures) :
    (scanMeasurement img f c).alloc.chans = c.alloc.chans := by
  unfold scanMeasurement scanOutcome scanKnown
  dsimp only
  repeat' split
  all_goals simp [advanceScan_chans, createFound_chans]

theorem scanMeasurement_steady (img : Image) (f : Figures) : Steady c (scanMeasurement img f c) :=
  .of_mixing (scanMeasurement_mixing ..) (.of_chans (scanMeasurement_chans ..))

theorem beginRunning_steady (img : Image) : Steady c (beginRunning img c) := by
  unfold beginRunning
  exact (((Steady.refl c).same (e := { setPart .running c with dir := { c.dir with zones := resetZones img } })
    rfl rfl).settleRoles.same (e := markAllStale _) rfl rfl).settleRoutes

theorem rampCabin_steady (crank : Int) (muted : Bool) : Steady c (rampCabin crank muted c) := by
  refine ⟨fun z => ?_, (rampCabin_quiet ..).stationsKept⟩
  obtain ⟨d, hd, hticked⟩ := rampCabin_ticked crank muted c
  obtain ⟨-, hplans, -, -, -, -, -, -, -, -, hrecorded, -⟩ := tickMixZone_columns c crank muted z (c.mixZone z)
  have hzone : (rampCabin crank muted c).mixZone z = tickMixZone c crank muted z (c.mixZone z) := by
    rw [hd, ← hticked.zone z]
    simp [Cabin.mixZone]
  rw [hzone]
  exact ⟨hrecorded, hplans⟩

end Commands

/-! ## The supply (09) -/

section States
variable (s : State)

theorem enterSupply_steady (v : SupplyState) : Steady s.cab (enterSupply v s).cab :=
  .of_apart (enterSupply_mixing s v) (apart_enterSupply s v)

theorem enterLow_steady : Steady s.cab (enterLow s).cab := by
  unfold enterLow
  extract_lets u supply drive v
  have hu : Steady s.cab u.cab := enterSupply_steady s .low
  have hv : Steady u.cab v.cab := .of_apart (setDrive_mixing (u.setSupply _) _) (apart_setDrive (u.setSupply _) _)
  exact (hu.trans hv).trans (.onCab (stopTuners_steady v.cab))

theorem leaveLow_steady : Steady s.cab (leaveLow s).cab :=
  (enterSupply_steady s .settle).trans (.onCab (s := enterSupply .settle s) (restartTuners_steady _))

theorem takeClass_steady (k : SampleClass) : Steady s.cab (takeClass k s).cab := by
  unfold takeClass
  split
  · exact .refl _
  · exact enterLow_steady s
  · exact enterSupply_steady ..
  · exact enterSupply_steady ..
  · exact enterSupply_steady ..
  · exact .refl _
  · exact enterSupply_steady ..
  · exact leaveLow_steady s
  · exact .refl _
  · exact .refl _
  · exact .refl _

theorem takeSample_steady (mv : Nat) : Steady s.cab (takeSample mv s).cab := by
  have hfirst : ∀ u : State, Steady u.cab (firstSample mv u).cab := fun u => by
    unfold firstSample
    repeat' split
    · exact enterSupply_steady ..
    · exact enterSupply_steady ..
    · exact enterLow_steady u
  unfold takeSample
  split
  · exact hfirst (s.setSupply { s.supply with previous := some mv, window := false })
  · rename_i v _
    exact takeClass_steady
      (s.setSupply { s.supply with previous := some mv, window := s.supply.window && !endsWindow (classOf v mv) })
      (classOf v mv)

theorem imageLoadEnd_steady (e : EepromRead) : Steady s.cab (imageLoadEnd e s).cab := by
  unfold imageLoadEnd
  split
  · extract_lets img supply u ring v
    exact (Steady.onCab (beginRunning_steady v.cab img)).trans (.of_apart (beginLocking_mixing _) (apart_beginLocking _))
  · exact .refl _

end States

end Sys2Proof.Machine
end

section
/-! SUPPORT. What a settling does while the part holds (03 R53, 04 R75 to R78, 05 R91): no arbitration is run, and only a
merge moves a station, whose record goes as it does. -/

namespace Sys2Proof.Machine

/-! ## Slots and channels -/

/-- The record of a slot goes, and the generation of the slot advances. -/
def Retired (v w : StationSlot) : Prop := w.gen = v.gen + 1 ∧ v.record ≠ none ∧ w.record = none

/-- A slot is retired, or keeps its generation and stays free if it is free. -/
def SlotHeld (v w : StationSlot) : Prop := Retired v w ∨ (w.gen = v.gen ∧ (v.record = none → w.record = none))

theorem SlotHeld.refl (v : StationSlot) : SlotHeld v v := .inr ⟨rfl, id⟩

theorem SlotHeld.trans {u v w : StationSlot} (h : SlotHeld u v) (g : SlotHeld v w) : SlotHeld u w := by
  rcases h with ⟨hgen, hsome, hnone⟩ | ⟨hgen, hfree⟩
  · rcases g with ⟨-, gsome, -⟩ | ⟨ggen, gfree⟩
    · exact absurd hnone gsome
    · exact .inl ⟨ggen.trans hgen, hsome, gfree hnone⟩
  · rcases g with ⟨ggen, gsome, gnone⟩ | ⟨ggen, gfree⟩
    · exact .inl ⟨ggen.trans (congrArg (· + 1) hgen), fun h => gsome (hfree h), gnone⟩
    · exact .inr ⟨ggen.trans hgen, gfree ∘ hfree⟩

theorem Retired.of_held {u v w : StationSlot} (h : Retired u v) (g : SlotHeld v w) : Retired u w := by
  obtain ⟨hgen, hsome, hnone⟩ := h
  rcases g with ⟨-, gsome, -⟩ | ⟨ggen, gfree⟩
  · exact absurd hnone gsome
  · exact ⟨ggen.trans hgen, hsome, gfree hnone⟩

theorem SlotHeld.then_retired {u v w : StationSlot} (h : SlotHeld u v) (g : Retired v w) : Retired u w := by
  rcases h with ⟨-, -, hnone⟩ | ⟨hgen, hfree⟩
  · exact absurd hnone g.2.1
  · exact ⟨g.1.trans (congrArg (· + 1) hgen), fun h => g.2.1 (hfree h), g.2.2⟩

theorem SlotHeld.of_map (v : StationSlot) (f : Station → Station) : SlotHeld v { v with record := v.record.map f } :=
  .inr ⟨rfl, fun h => by simp [h]⟩

theorem SlotHeld.moved (n m : Nat) (v : StationSlot) : SlotHeld v (StationSlot.moved n m v) :=
  .inr ⟨rfl, fun h => by simp [StationSlot.moved, h]⟩

/-- The channels stay as they are but where the record of a channel's station goes. -/
def ChansHeld (c d : Cabin) : Prop := ∀ x,
  ((c.chan x).station = none → (d.chan x).station = none) ∧
  ∀ h, (c.chan x).station = some h →
    (d.chan x).station = some h ∨ Retired (c.stationSlot h.slot) (d.stationSlot h.slot)

/-- What the commands do that settle while the part holds; where `b` holds and no identity is deferred, the channels
keep their stations. -/
structure Held (b : Prop) (c d : Cabin) : Prop where
  plans : PlansKept c d
  hold : d.builder.hold = c.builder.hold
  slots : ∀ i, SlotHeld (c.stationSlot i) (d.stationSlot i)
  chans : ChansHeld c d
  calm : b → NoDeferrals c → NoDeferrals d ∧ StationsKept c d

theorem Held.trans {b : Prop} {c d e : Cabin} (h : Held b c d) (g : Held b d e) : Held b c e where
  plans := h.plans.trans g.plans
  hold := g.hold.trans h.hold
  slots i := (h.slots i).trans (g.slots i)
  chans x := by
    obtain ⟨hnone, hsome⟩ := h.chans x
    obtain ⟨gnone, gsome⟩ := g.chans x
    refine ⟨gnone ∘ hnone, fun a ha => ?_⟩
    rcases hsome a ha with hd | hretired
    · exact (gsome a hd).imp_right (h.slots a.slot).then_retired
    · exact .inr (hretired.of_held (g.slots a.slot))
  calm hb hc := by
    obtain ⟨hd, hstations⟩ := h.calm hb hc
    obtain ⟨he, gstations⟩ := g.calm hb hd
    exact ⟨he, hstations.trans gstations⟩

/-- Only records change, in their fields. -/
theorem Held.of_steady {b : Prop} {c d : Cabin} (h : Steady c d) (hold : d.builder.hold = c.builder.hold)
    (hslots : ∀ i, SlotHeld (c.stationSlot i) (d.stationSlot i)) (hcalm : b → NoDeferrals c → NoDeferrals d) :
    Held b c d where
  plans := h.plans
  hold := hold
  slots := hslots
  chans x := ⟨fun hn => (h.stations x).trans hn, fun _ ha => .inl ((h.stations x).trans ha)⟩
  calm hb hc := ⟨hcalm hb hc, h.stations⟩

theorem Held.of_slots {b : Prop} {c d : Cabin} (h : Steady c d) (hold : d.builder.hold = c.builder.hold)
    (hslots : d.table.slots = c.table.slots) : Held b c d :=
  .of_steady h hold (fun i => by rw [stationSlot_of_slots hslots]; exact .refl _) fun _ hc => hc.of_slots hslots

theorem Held.refl (b : Prop) (c : Cabin) : Held b c c := .of_slots (.refl c) rfl rfl

section Operations
variable {b : Prop} {c d e : Cabin}

/-- What leaves the mix, the hold, the channels and the station slots as they were. -/
theorem Held.same (h : Held b c d) (hm : e.mixing = d.mixing) (ha : e.alloc.chans = d.alloc.chans)
    (hold : e.builder.hold = d.builder.hold) (hslots : e.table.slots = d.table.slots) : Held b c e :=
  h.trans (.of_slots ((Steady.refl d).same hm ha) hold hslots)

theorem Held.respond (h : Held b c d) (p : Port) (r : Result) (ws : List Word) : Held b c (respond p r ws d) :=
  h.same rfl rfl rfl rfl

theorem Held.refuse (h : Held b c d) (p : Port) (r : Result) : Held b c (refuse p r d) := h.same rfl rfl rfl rfl

theorem Held.postBoth (h : Held b c d) (k : EventKind) : Held b c (postBoth k d) :=
  h.same (by simp) (by simp) (by simp) (by simp)

theorem Held.foldl {α : Type} {f : Cabin → α → Cabin} (hf : ∀ d a, Held b d (f d a)) (h : Held b c d) (l : List α) :
    Held b c (l.foldl f d) := by
  induction l generalizing d with
  | nil => exact h
  | cons a l ih => exact ih (h.trans (hf d a))

theorem Held.settleRoutes (h : Held b c d) : Held b c (settleRoutes d) :=
  h.trans (.of_slots (Steady.refl d).settleRoutes (by simp) (by simp))

theorem Held.testTraffic (h : Held b c d) : Held b c (testTraffic d) :=
  h.trans (.of_slots (Steady.refl d).testTraffic (by simp) (by simp))

theorem Held.testStation (h : Held b c d) (s : StationId) : Held b c (testStation s d) :=
  h.trans (.of_slots (.of_undisturbed (testStation_undisturbed s d) (by simp)) (by simp) (by simp))

theorem Held.modifyStation (h : Held b c d) (i : Fin 40) {g : Station → Station}
    (hg : b → ∀ r, r.deferred = none → (g r).deferred = none) : Held b c (modifyStation i g d) := by
  refine h.trans (.of_steady ((Steady.refl d).modifyStation ..) (by simp) (fun j => ?_) fun hb hd j r hr => ?_)
  · rw [modifyStation_stationSlot]
    split
    · exact .of_map ..
    · exact .refl _
  · rw [modifyStation_stationSlot] at hr
    split at hr
    · obtain ⟨q, hq, rfl⟩ := Option.map_eq_some_iff.mp hr
      exact hg hb q (hd j q hq)
    · exact hd j r hr

theorem Held.of_records {n m : Fin 40 → Nat} (h : RecordsChange c d)
    (hslots : ∀ i, d.stationSlot i = StationSlot.moved (n i) (m i) (c.stationSlot i)) : Held b c d :=
  .of_steady ⟨h.around.plans, .of_chans h.chans⟩ h.around.frame.hold
    (fun i => by rw [hslots]; exact .moved ..) fun _ hc => hc.of_moved hslots

/-! ## Merges (04 R75 to R78) -/

theorem relabelChan_station (b a : StationId) (x : Chan) (c : Cabin) (y : Chan) :
    ((relabelChan b a x c).chan y).station = if y = x ∧ (c.chan x).station = some b then some a else (c.chan y).station := by
  unfold relabelChan
  split
  · rename_i h
    rw [(Quiet.stationsKept (settleRoles_quiet _)) y, abandonFollow_station]
    by_cases hy : y = x
    · subst hy
      rw [if_pos ⟨rfl, h⟩]
      simp [Cabin.chan]
    · simp [hy, Cabin.chan, PerChan.get_set_ne _ _ _ _ hy]
  · rename_i h
    rw [if_neg fun hy => h hy.2]

theorem relabelBoth_station (b a : StationId) (c : Cabin) (x : Chan) :
    ((relabelChan b a .pc1 (relabelChan b a .pc0 c)).chan x).station =
      if (c.chan x).station = some b then some a else (c.chan x).station := by
  cases x <;> simp [relabelChan_station]

theorem relabelChan_builder (b a : StationId) (x : Chan) (c : Cabin) : (relabelChan b a x c).builder = c.builder := by
  unfold relabelChan
  split <;> simp

/-- Nothing has changed that a merge asks the channels, the slots, the hold or the mix for. -/
structure Beside (c d : Cabin) : Prop where
  mixing : d.mixing = c.mixing
  alloc : d.alloc = c.alloc
  hold : d.builder.hold = c.builder.hold
  slots : d.table.slots = c.table.slots

theorem Beside.refl (c : Cabin) : Beside c c := ⟨rfl, rfl, rfl, rfl⟩

theorem Beside.trans {c d e : Cabin} (h : Beside c d) (g : Beside d e) : Beside c e :=
  ⟨g.mixing.trans h.mixing, g.alloc.trans h.alloc, g.hold.trans h.hold, g.slots.trans h.slots⟩

theorem repointAt_beside (b a : StationId) (x : Fin 8 × Fin 6) (c : Cabin) : Beside c (repointAt b a x c) := by
  refine ⟨repointAt_mixing .., ?_, ?_, congrArg StationTable.slots (repointAt_table ..)⟩ <;>
    unfold repointAt <;> repeat' split
  all_goals simp

theorem repointAll_beside (b a : StationId) (l : List (Fin 8 × Fin 6)) (c : Cabin) :
    Beside c (l.foldl (fun c x => repointAt b a x c) c) := by
  induction l generalizing c with
  | nil => exact .refl c
  | cons x l ih => exact (repointAt_beside b a x c).trans (ih _)

theorem repointQueue_alloc (b a : StationId) (c : Cabin) : (repointQueue b a c).alloc = c.alloc := by
  unfold repointQueue
  refine (eachIdx_keeps (fun c : Cabin => c.alloc) 8 _ (fun i c => by simp) _).trans ?_
  split <;> simp

theorem repointQueue_builder (b a : StationId) (c : Cabin) : (repointQueue b a c).builder = c.builder := by
  unfold repointQueue
  refine (eachIdx_keeps (fun c : Cabin => c.builder) 8 _ (fun i c => by simp) _).trans ?_
  split <;> simp

theorem repointQueue_beside (b a : StationId) (c : Cabin) : Beside c (repointQueue b a c) :=
  ⟨repointQueue_mixing .., repointQueue_alloc .., congrArg Builder.hold (repointQueue_builder ..),
    congrArg StationTable.slots (repointQueue_table ..)⟩

/-- The record of `i` goes, that of `a` changes, and the channels that carried `i` carry `a`. -/
theorem held_of_merge {i a : Fin 40} {ri ra r : Station} (hi : (c.stationSlot i).record = some ri)
    (ha : (c.stationSlot a).record = some ra) (hplans : PlansKept c d) (hold : d.builder.hold = c.builder.hold)
    (hslot : ∀ j, d.stationSlot j = if j = i then ⟨(c.stationSlot i).gen + 1, none⟩
      else if j = a then ⟨(c.stationSlot a).gen, some r⟩ else c.stationSlot j)
    (hstation : ∀ x, (d.chan x).station =
      if (c.chan x).station = some (c.stationId i) then some (c.stationId a) else (c.chan x).station) : Held False c d where
  plans := hplans
  hold := hold
  slots j := by
    rw [hslot]
    split
    · next h =>
      subst h
      exact .inl ⟨rfl, by simp [hi], rfl⟩
    · split
      · next h =>
        subst h
        exact .inr ⟨rfl, fun h => by simp [ha] at h⟩
      · exact .refl _
  chans x := by
    have hgone : d.stationSlot i = ⟨(c.stationSlot i).gen + 1, none⟩ := (hslot i).trans (if_pos rfl)
    rw [hstation]
    refine ⟨fun hn => by simp [hn], fun s hs => ?_⟩
    by_cases hb : s = c.stationId i
    · subst hb
      exact .inr ⟨congrArg StationSlot.gen hgone, by simp [Cabin.stationId, hi], congrArg StationSlot.record hgone⟩
    · rw [hs, if_neg fun h => hb (Option.some.inj h)]
      exact .inl rfl
  calm h := h.elim

theorem mergeInto_held {i a : Fin 40} (hne : i ≠ a) (c : Cabin) : Held False c (mergeInto i a c) := by
  unfold mergeInto
  split
  · rename_i rb ra hb ha
    extract_lets hB hA relabel retest slotA written relabelled repointed table watched queued retired tested
    have hstation : ∀ x, (relabelled.chan x).station = if (c.chan x).station = some hB then some hA else (c.chan x).station :=
      relabelBoth_station hB hA written
    have hrelabelled : relabelled.mixing = c.mixing ∧ relabelled.builder.hold = c.builder.hold ∧
        relabelled.table.slots = written.table.slots := by
      simp [relabelled, relabelChan_builder, relabelChan_slots, written]
    clear_value relabelled
    have hrepointed : Beside relabelled repointed := repointAll_beside hB hA routeKeys relabelled
    clear_value repointed
    have hwatched : Beside repointed watched := ⟨rfl, rfl, rfl, rfl⟩
    have hqueued : Beside relabelled queued := (hrepointed.trans hwatched).trans (repointQueue_beside hB hA watched)
    clear_value queued
    obtain ⟨hmixing, hhold, hslots⟩ := hrelabelled
    have hretired : Held False c retired := by
      refine held_of_merge (r := if relabel then relabelledRecord ra rb else mergedRecord ra rb) hb ha
        (.of_mixing ?_) ?_ (fun j => ?_) fun x => ?_
      · simp [retired, hqueued.mixing, hmixing]
      · simp [retired, retireStationSlot, hqueued.hold, hhold]
      · have hwritten : ∀ j, queued.stationSlot j = written.stationSlot j :=
          stationSlot_of_slots (hqueued.slots.trans hslots)
        have hlast : retired.stationSlot j =
            if j = i then ⟨(queued.stationSlot i).gen + 1, none⟩ else queued.stationSlot j :=
          (stationSlot_of_slots (by simp only [retired, postBoth_table]) j).trans (retireStationSlot_stationSlot queued i j)
        rw [hlast, hwritten, hwritten]
        simp only [written, setStationSlot_stationSlot]
        rw [if_neg hne]
      · rw [← hstation]
        exact congrArg ProgChan.station (chan_of_chans (by simp [retired, retireStationSlot, hqueued.alloc]) x)
    have htested : Held False c tested := by
      unfold tested
      split
      · exact hretired.testStation hA
      · exact hretired
    split
    · exact htested.same (by simp [Cabin.mixing]) (by simp) (by simp) (by simp)
    · exact htested
  · exact .refl _ c

theorem setStationSlot_held {i : Fin 40} {r r' : Station} (hr : (c.stationSlot i).record = some r) :
    Held False c (setStationSlot i { c.stationSlot i with record := some r' } c) := by
  refine .of_steady ((Steady.refl c).same rfl rfl) rfl (fun j => ?_) fun h => h.elim
  rw [setStationSlot_stationSlot]
  split
  · next h =>
    subst h
    exact .inr ⟨rfl, fun h => by simp [hr] at h⟩
  · exact .refl _

theorem takeIdentity_held (i : Fin 40) (code : Nat) (c : Cabin) : Held False c (takeIdentity i code c) := by
  unfold takeIdentity
  split
  · exact .refl _ c
  · rename_i r hr
    dsimp only
    refine Held.postBoth ?_ _
    split
    · exact setStationSlot_held hr
    · exact (setStationSlot_held hr).same rfl rfl rfl rfl

theorem applyIdentity_held (i : Fin 40) (code : Nat) (c : Cabin) : Held False c (applyIdentity i code c) := by
  unfold applyIdentity
  repeat' split
  · exact .refl _ c
  · exact (Held.refl _ c).modifyStation i fun h => h.elim
  · exact (Held.refl _ c).modifyStation i fun h => h.elim
  · rename_i a ha _
    exact mergeInto_held (otherWithIdentity_ne ha).symm c
  · exact takeIdentity_held ..

/-! ## Changes of the records (01, 04 R82) -/

theorem placed_held (l : Fin 8) (k : Fin 6) (r : RouteRecord) (c : Cabin) : Held b c (placed l k r c) :=
  .of_records (placed_change ..) (placed_stationSlot c l k r)

theorem changeRoute_held (p : Port) (l : Fin 8) (k : Fin 6) (old new : RouteRecord) (c : Cabin) :
    Held b c (changeRoute p l k old new c) :=
  .of_records (n := fun _ => 0) (m := fun _ => 0) (changeRoute_change ..) fun i => by
    rw [changeRoute_stationSlot, moved_zero]

theorem altered_held (p : Port) (l : Fin 8) (k : Fin 6) (old new : RouteRecord) (c : Cabin) :
    Held b c (altered p l k old new c) := .of_records (altered_change ..) (altered_stationSlot c p l k old new)

theorem Held.settlePlaced (h : Held b c d) (l : Fin 8) (k : Fin 6) : Held b c (settlePlaced l k d) := by
  obtain ⟨honly, -, -, -, htable, hbuilder⟩ := settlePlaced_only l k d
  exact h.same (settlePlaced_mixing ..) (congrArg Allocator.chans honly.alloc) (congrArg Builder.hold hbuilder)
    (congrArg StationTable.slots htable)

theorem Held.retireRouteAt (h : Held b c d) (p : Port) {l : Fin 8} {k : Fin 6} {r : RouteRecord}
    (hr : (d.route l k).record = some r) : Held b c (retireRouteAt p l k r d) :=
  have hretires := retireRouteAt_retires (p := p) hr
  h.trans (.of_records hretires.change hretires.stations)

theorem changeZone_held (z : Zone) (e : ZoneEntry) (c : Cabin) : Held b c (changeZone z e c) :=
  .of_records (n := fun _ => 0) (m := fun _ => 0) (changeZone_change z e c) fun i => by
    rw [moved_zero]
    exact stationSlot_of_slots (by simp [changeZone]) i

theorem Held.setWatched (h : Held b c d) (s : StationId) (v : Bool) : Held b c (setWatched s v d) := by
  unfold Machine.setWatched
  split
  · exact h.modifyStation _ fun _ _ hr => hr
  · exact h

theorem putWatch_held (w : Option Watch) (c : Cabin) : Held b c (putWatch w c) := by
  unfold putWatch
  extract_lets cleared set table
  have hcleared : Held b c cleared := by
    unfold cleared
    split
    · exact .refl b c
    · exact (Held.refl b c).setWatched ..
  have hset : Held b c set := by
    unfold set
    split
    · exact hcleared
    · exact hcleared.setWatched ..
  exact hset.same rfl rfl rfl rfl

/-! ## The settling (04 R78, 05 R91) -/

/-- While the part holds no arbitration is run. -/
theorem arbitrate_of_hold (h : c.builder.hold ≠ .running) : arbitrate c = c := if_neg fun hr => h hr.1

theorem settleStations_held (n : Nat) : ∀ {c : Cabin}, c.builder.hold ≠ .running → Held False c (settleStations n c) := by
  induction n with
  | zero => exact fun _ => .refl _ _
  | succ n ih =>
    intro c h
    unfold settleStations
    rw [arbitrate_of_hold h]
    dsimp only
    split
    · exact .refl _ c
    · rename_i i code _
      have happlied := applyIdentity_held i code c
      exact happlied.trans (ih (by rwa [happlied.hold]))

theorem settleAllocator_held (b : Prop) (h : c.builder.hold ≠ .running) : Held b c (settleAllocator c) := by
  obtain ⟨hplans, hhold, hslots, hchans, -⟩ := settleStations_held 41 h
  refine ⟨hplans, hhold, hslots, hchans, fun _ hc => ?_⟩
  rw [settleAllocator_eq_arbitrate hc, arbitrate_of_hold h]
  exact ⟨hc, .refl c⟩

theorem Held.settleAllocator (h : Held b c d) (hc : c.builder.hold ≠ .running) : Held b c (settleAllocator d) :=
  h.trans (settleAllocator_held b (by rwa [h.hold]))

theorem Held.settleDirectory (h : Held b c d) (hc : c.builder.hold ≠ .running) : Held b c (settleDirectory d) :=
  (h.settleAllocator hc).settleRoutes

theorem Held.settleInputs (h : Held b c d) (hc : c.builder.hold ≠ .running) : Held b c (settleInputs d) :=
  (h.settleAllocator hc).testTraffic.settleRoutes

end Operations

/-! ## The requests that settle (01, 04 R82) -/

section Commands
variable {b : Prop} {c : Cabin} (hold : c.builder.hold ≠ .running)
include hold

theorem placeRoute_held (p : Port) (a : PlaceArgs) : Held b c (placeRoute p a c) := by
  have hplaced : ∀ l k r v, Held b c (placeAt p l k r v c) := fun l k r v => by
    rw [placeAt_eq]
    exact (((placed_held l k r c).settleAllocator hold).settlePlaced l k).testTraffic.settleRoutes.respond ..
  unfold placeRoute
  repeat' split
  · exact (Held.refl b c).refuse ..
  · exact (Held.refl b c).refuse ..
  · exact (Held.refl b c).refuse ..
  · exact (Held.refl b c).refuse ..
  · exact (Held.refl b c).refuse ..
  · exact hplaced ..

theorem alterRoute_held (p : Port) (h : Handle) (a : AlterArgs) : Held b c (alterRoute p h a c) := by
  have haltered : ∀ l k r src, Held b c (alterAt p l k r src a c) := fun l k r src => by
    unfold alterAt
    refine Held.respond ?_ ..
    split
    · exact .refl b c
    · exact (altered_held p l k r (alteredRecord r src a) c).settleInputs hold
  unfold alterRoute
  repeat' split
  · exact (Held.refl b c).refuse ..
  · exact (Held.refl b c).refuse ..
  · exact (Held.refl b c).refuse ..
  · exact (Held.refl b c).refuse ..
  · exact (Held.refl b c).refuse ..
  · exact haltered ..
  · exact (Held.refl b c).refuse ..

theorem setPresent_held (p : Port) (l : Fin 8) (k : Fin 6) (r : RouteRecord) (v : Bool) :
    Held b c (setPresent p l k r v c) :=
  ((changeRoute_held ..).settleInputs hold).respond ..

theorem parkRoute_held (p : Port) (h : Handle) : Held b c (parkRoute p h c) := by
  unfold parkRoute
  repeat' split
  · exact (Held.refl b c).refuse ..
  · exact (Held.refl b c).refuse ..
  · exact (Held.refl b c).refuse ..
  · exact (Held.refl b c).refuse ..
  · exact setPresent_held hold ..

theorem unparkRoute_held (p : Port) (h : Handle) : Held b c (unparkRoute p h c) := by
  unfold unparkRoute
  repeat' split
  · exact (Held.refl b c).refuse ..
  · exact (Held.refl b c).refuse ..
  · exact (Held.refl b c).refuse ..
  · exact (Held.refl b c).refuse ..
  · exact (Held.refl b c).refuse ..
  · exact setPresent_held hold ..

theorem retireRoute_held (p : Port) (h : Handle) : Held b c (retireRoute p h c) := by
  unfold retireRoute
  repeat' split
  · exact (Held.refl b c).refuse ..
  · exact (Held.refl b c).refuse ..
  · exact (Held.refl b c).refuse ..
  · rename_i hr _
    exact (((Held.refl b c).retireRouteAt p (routeOf_record hr)).settleInputs hold).respond ..

theorem clearZoneRoutes_held (p : Port) (n : Nat) : Held b c (clearZoneRoutes p n c) := by
  have hretire : ∀ d (x : Fin 8 × Fin 6), Held b d (retireIfOccupied p x d) := fun d x => by
    unfold retireIfOccupied
    split
    · exact .refl b d
    · exact (Held.refl b d).retireRouteAt p ‹_›
  unfold clearZoneRoutes
  dsimp only
  repeat' split
  · exact (Held.refl b c).refuse ..
  · exact (Held.refl b c).respond ..
  · exact (((Held.refl b c).foldl hretire _).settleInputs hold).respond ..

theorem setZone_held (img : Image) (p : Port) (n : Nat) (a : ZoneArgs) : Held b c (setZone img p n a c) := by
  unfold setZone zoneChanged
  dsimp only
  repeat' split
  · exact (Held.refl b c).refuse ..
  · exact (Held.refl b c).refuse ..
  · exact (Held.refl b c).refuse ..
  · exact (Held.refl b c).respond ..
  · exact ((changeZone_held ..).settleDirectory hold).respond ..
  · exact ((changeZone_held ..).settleInputs hold).respond ..

theorem linkList_held (p : Port) (n : Nat) (l : Option Nat) : Held b c (linkList p n l c) := by
  unfold linkList
  repeat' split
  · exact (Held.refl b c).refuse ..
  · exact (Held.refl b c).respond ..
  · exact ((changeZone_held ..).settleInputs hold).respond ..
  · exact (Held.refl b c).refuse ..

theorem setTrafficWatch_held (p : Port) (h : Option Handle) (n : Int) : Held b c (setTrafficWatch p h n c) := by
  have hwatch : ∀ w, Held b c (changeWatch w c) := fun w => by
    unfold changeWatch
    split
    · exact (putWatch_held w c).settleDirectory hold
    · exact (putWatch_held w c).settleInputs hold
  unfold setTrafficWatch
  repeat' split
  · exact (Held.refl b c).refuse ..
  · exact (hwatch _).respond ..
  · exact (Held.refl b c).refuse ..
  · exact (Held.refl b c).refuse ..
  · exact (Held.refl b c).refuse ..
  · exact (hwatch _).respond ..

theorem liteEndCabin_held : Held b c (liteEndCabin c) := by
  unfold liteEndCabin
  extract_lets ports ended
  have hended : Held b c ended := (Held.refl b c).same rfl rfl rfl rfl
  exact ((hended.postBoth .zone).same (by simp [Cabin.mixing]) (by simp) (by simp) (by simp)).settleDirectory hold

end Commands

end Sys2Proof.Machine
end

section
/-! SUPPORT. The data groups and the dwells of the scan while the part holds (04 R63 to R75), and every command in turn
(03 R53). -/

namespace Sys2Proof.Machine

/-! ## Data groups on a channel (04 R71 to R75) -/

section Groups
variable {c d : Cabin}

theorem Held.endEntry {b : Prop} (h : Held b c d) (i : Fin 8) (r : EndReason) : Held b c (endEntry i r d) :=
  h.trans (.of_slots ((Steady.refl d).endEntry ..) (by simp) (by simp))

theorem Held.clearTraffic {b : Prop} (h : Held b c d) (s : StationId) : Held b c (clearTraffic s d) := by
  unfold Machine.clearTraffic
  refine Held.same (d := match trafficEntry d s with | none => d | some i => Machine.endEntry i .cleared d) ?_ rfl rfl rfl rfl
  split
  · exact h
  · exact h.endEntry ..

theorem Held.takeContent (h : Held False c d) (t : TunerId) (s : StationId) (g : GroupContent) :
    Held False c (takeContent t s g d) := by
  have hacc : ∀ a, Held False c (setAcceptance t a d) := fun a => h.same rfl rfl rfl rfl
  unfold Machine.takeContent
  split
  · unfold takeIdent acceptFlags
    dsimp only
    split
    · split
      · exact ((hacc _).modifyStation _ fun h => h.elim).testStation s
      · exact ((hacc _).modifyStation _ fun h => h.elim).clearTraffic s
    · exact hacc _
  · unfold takeName
    dsimp only
    split
    · exact (hacc _).modifyStation _ fun h => h.elim
    · exact hacc _
  · exact h.modifyStation _ fun h => h.elim

theorem groupOnChan_held (hold : c.builder.hold ≠ .running) (t : TunerId) (x : Chan) (g : DataGroup) :
    Held False c (groupOnChan t x g c) := by
  unfold groupOnChan
  extract_lets new counted applied taken
  have hcounted : Held False c counted := (Held.refl _ c).same rfl rfl rfl rfl
  have happlied : Held False c applied := by
    unfold applied
    repeat' split
    · exact hcounted
    · exact hcounted.trans (applyIdentity_held ..)
    · exact hcounted
  have htaken : Held False c taken := by
    unfold taken
    repeat' split
    · exact happlied
    · exact happlied.takeContent ..
    · exact happlied
  exact htaken.settleDirectory hold

end Groups

/-! ## The scan moves on (04 R63, R68) -/

section Scan
variable {b : Prop} {c d : Cabin}

theorem retireStationSlot_held {i : Fin 40} {r : Station} (hr : (c.stationSlot i).record = some r) :
    Held b c (retireStationSlot i c) := by
  refine .of_steady (.of_mixing (retireStationSlot_mixing ..) (.of_chans (by simp [retireStationSlot])))
    (by simp [retireStationSlot]) (fun j => ?_) fun _ hc j q hq => ?_
  · rw [retireStationSlot_stationSlot]
    split
    · next h =>
      subst h
      exact .inl ⟨rfl, by simp [hr], rfl⟩
    · exact .refl _
  · rw [retireStationSlot_stationSlot] at hq
    split at hq
    · cases hq
    · exact hc j q hq

theorem agedRecord_deferred (r : Station) : (agedRecord r).deferred = r.deferred := by
  unfold agedRecord
  dsimp only
  repeat' split
  all_goals rfl

theorem ageSlot_held (i : Fin 40) (c : Cabin) : Held b c (ageSlot i c) := by
  unfold ageSlot
  split
  · exact .refl b c
  · rename_i r hr
    split
    · exact (retireStationSlot_held hr).postBoth _
    · exact (Held.refl b c).modifyStation i fun _ q hq => (agedRecord_deferred q).trans hq

theorem completePass_held (c : Cabin) : Held b c (completePass c) := by
  have haged : Held b c (eachIdx 40 ageSlot c) := (Held.refl b c).foldl (fun d i => ageSlot_held i d) _
  unfold completePass
  generalize eachIdx 40 ageSlot c = d at haged ⊢
  exact haged.same rfl rfl rfl rfl

theorem advanceScan_held (c : Cabin) : Held b c (advanceScan c) := by
  have htune : ∀ d, Held b d (tuneScan d) := fun d => (Held.refl b d).same rfl rfl rfl rfl
  unfold advanceScan
  split
  · rename_i f _
    exact Held.trans (d := setPosition f c) ((Held.refl b c).same rfl rfl rfl rfl) (htune _)
  · exact (completePass_held c).trans (htune _)

end Scan

/-! ## What the commands keep while the part holds (03 R53) -/

/-- The plans stay; a channel's station goes only where its record has; and where `b` holds and no identity is deferred,
no station goes. -/
structure UnderHold (b : Prop) (c d : Cabin) : Prop where
  plans : PlansKept c d
  chans : ∀ x, ((c.chan x).station = none → (d.chan x).station = none) ∧
    ∀ h, (c.chan x).station = some h → (d.stationSlot h.slot).gen = (c.stationSlot h.slot).gen →
      (d.chan x).station = some h
  calm : b → NoDeferrals c → StationsKept c d

/-- A record may have come into a slot, where another may have gone. -/
structure Found (c d : Cabin) : Prop where
  steady : Steady c d
  hold : d.builder.hold = c.builder.hold
  gens : ∀ i, (d.stationSlot i).gen = (c.stationSlot i).gen ∨ (d.stationSlot i).gen = (c.stationSlot i).gen + 1
  calm : NoDeferrals c → NoDeferrals d

theorem Found.refl (c : Cabin) : Found c c := ⟨.refl c, rfl, fun _ => .inl rfl, id⟩

section UnderHold
variable {b : Prop} {c d e : Cabin}

theorem Steady.underHold (h : Steady c d) : UnderHold b c d where
  plans := h.plans
  chans x := ⟨fun hn => (h.stations x).trans hn, fun _ ha _ => (h.stations x).trans ha⟩
  calm _ _ := h.stations

/-- Two advances do not bring a generation back. -/
theorem Found.underHold (h : Found c d) (g : Held b d e) : UnderHold b c e where
  plans := h.steady.plans.trans g.plans
  chans x := by
    obtain ⟨gnone, gsome⟩ := g.chans x
    rw [h.steady.stations x] at gnone gsome
    refine ⟨gnone, fun a ha hgen => (gsome a ha).resolve_right fun ⟨hadvance, _⟩ => ?_⟩
    rcases h.gens a.slot with hd | hd <;> rw [hd, hgen] at hadvance <;> revert hadvance <;>
      generalize (c.stationSlot a.slot).gen = v <;> revert v <;> decide
  calm hb hc := h.steady.stations.trans (g.calm hb (h.calm hc)).2

theorem Held.underHold (h : Held b c d) : UnderHold b c d := (Found.refl c).underHold h

/-- What touches neither the channels nor the slots may come first. -/
theorem UnderHold.after (g : UnderHold b d e) (h : Steady c d) (hslots : d.table.slots = c.table.slots) : UnderHold b c e where
  plans := h.plans.trans g.plans
  chans x := by
    obtain ⟨gnone, gsome⟩ := g.chans x
    rw [h.stations x] at gnone gsome
    exact ⟨gnone, fun a ha hgen => gsome a ha (by rw [hgen, stationSlot_of_slots hslots])⟩
  calm hb hc := h.stations.trans (g.calm hb (hc.of_slots hslots))

theorem UnderHold.of_not (h : UnderHold False c d) (hb : ¬ b) : UnderHold b c d :=
  ⟨h.plans, h.chans, fun hb' => absurd hb' hb⟩

/-! ## Dwells (04 R64, R65) -/

theorem Held.of_not (h : Held False c d) (hb : ¬ b) : Held b c d :=
  ⟨h.plans, h.hold, h.slots, h.chans, fun hb' => absurd hb' hb⟩

theorem createStation_slots (i : Fin 40) (r : Station) (c : Cabin) (j : Fin 40) :
    (createStation i r c).stationSlot j = if j = i then ⟨(c.stationSlot i).gen, some r⟩ else c.stationSlot j :=
  (stationSlot_of_slots (by simp [createStation]) j).trans (setStationSlot_stationSlot ..)

theorem Found.of_created {i : Fin 40} {g : Fin 16} {r : Station} (h : Steady c d)
    (hold : d.builder.hold = c.builder.hold)
    (hslots : ∀ j, d.stationSlot j = if j = i then ⟨g, some r⟩ else c.stationSlot j)
    (hg : g = (c.stationSlot i).gen ∨ g = (c.stationSlot i).gen + 1) (hr : r.deferred = none) : Found c d where
  steady := h
  hold := hold
  gens j := by
    rw [hslots]
    split
    · next hj =>
      subst hj
      exact hg
    · exact .inl rfl
  calm hc := fun j q hq => by
    rw [hslots] at hq
    split at hq
    · cases hq
      exact hr
    · exact hc j q hq

theorem createFound_found (raw : Nat) (code : Option Nat) (c : Cabin) : Found c (createFound raw code c) := by
  have hcreate : ∀ i r, Steady c (createStation i r c) := fun i r => .of_mixing (by simp) (.of_chans (by simp [createStation]))
  have hfull : Found c { c with table := { c.table with tableFull := true } } :=
    ⟨(Steady.refl c).same rfl rfl, rfl, fun _ => .inl rfl, id⟩
  unfold createFound
  dsimp only
  repeat' split
  · exact .of_created (hcreate ..) (by simp [createStation]) (createStation_slots _ _ c) (.inl rfl) rfl
  · rename_i j r _ _
    refine .of_created (i := j) (g := (c.stationSlot j).gen + 1)
      (r := newStation c.table.position raw .candidate .scan code) (.of_mixing (by simp) (.of_chans ?_)) ?_ (fun i => ?_)
      (.inr rfl) rfl
    · simp [createStation, retireStationSlot]
    · simp [createStation, retireStationSlot]
    · rw [createStation_slots, retireStationSlot_stationSlot, retireStationSlot_stationSlot, if_pos rfl]
      split <;> rfl
  · exact hfull
  · exact hfull

/-- The outcome of a dwell finds a record, or changes those there are. -/
theorem dwellOutcome_found {accepted : Option Nat} (hb : b → accepted = none) (raw : Nat) (c : Cabin) :
    ∃ d, Found c d ∧ Held b d (dwellOutcome raw accepted c) := by
  unfold dwellOutcome dwellNew
  repeat' split
  · exact ⟨_, createFound_found .., .refl b _⟩
  · exact ⟨c, .refl c, (Held.refl b c).modifyStation _ fun hb' => by cases hb hb'⟩
  · exact ⟨_, createFound_found .., .refl b _⟩
  · exact ⟨c, .refl c, .refl b c⟩
  · exact ⟨c, .refl c, (applyIdentity_held ..).of_not fun hb' => by cases hb hb'⟩

theorem dwellEnd_underHold {accepted : Option Nat} (hb : b → accepted = none) (hold : c.builder.hold ≠ .running) :
    UnderHold b c (dwellEnd accepted c) := by
  unfold dwellEnd
  split
  · exact (Held.refl b c).underHold
  · rename_i raw _
    obtain ⟨d, hfound, hheld⟩ := dwellOutcome_found hb raw { c with table := { c.table with dwell := none } }
    have hmoved := hheld.trans (advanceScan_held _)
    have hsettled := hmoved.settleDirectory (by rw [hfound.hold]; exact hold)
    exact (hfound.underHold hsettled).after ((Steady.refl c).same rfl rfl) rfl

theorem dataGroup_underHold (hold : c.builder.hold ≠ .running) (t : TunerId) (g : DataGroup) :
    UnderHold False c (dataGroup t g c) := by
  have hcounted : Steady c (setAcceptance t (countCode g.code (c.tuner t).acc) c) := (Steady.refl c).same rfl rfl
  unfold dataGroup
  repeat' split
  · exact (Held.refl _ c).underHold
  · exact (Held.refl _ c).underHold
  · exact (groupOnChan_held hold t _ g).underHold
  · unfold groupInDwell
    dsimp only
    split
    · exact (dwellEnd_underHold (c := setAcceptance t (countCode g.code (c.tuner t).acc) c) False.elim hold).after hcounted rfl
    · exact hcounted.underHold

end UnderHold

/-! ## Commands that end the hold, or find nothing to do -/

section Ends
variable {b : Prop}

theorem completeBuild_steady {c : Cabin} (h : c.builder.job = none) (crank : Int) (muted : Bool) :
    Steady c (completeBuild crank muted c) := by
  rw [completeBuild_of_none h]
  exact .refl c

theorem settleAllocator_hold (c : Cabin) : (settleAllocator c).builder.hold = c.builder.hold := by
  have hsettle : ∀ n (c : Cabin), (settleStations n c).builder.hold = c.builder.hold := by
    intro n
    induction n with
    | zero => exact fun _ => rfl
    | succ n ih =>
      intro c
      unfold settleStations
      dsimp only
      split
      · exact arbitrate_hold c
      · rw [ih, (applyIdentity_held ..).hold, arbitrate_hold]
  exact hsettle 41 c

/-- Release Hold that is performed ends the hold. -/
theorem releaseHold_underHold {c : Cabin} (hold : c.builder.hold ≠ .running) (p : Port)
    (h : (releaseHold p c).builder.hold ≠ .running) : UnderHold b c (releaseHold p c) := by
  unfold releaseHold at h ⊢
  split
  · exact ((Steady.refl c).refuse ..).underHold
  · rename_i hfront
    rw [if_neg hfront, if_neg hold] at h
    refine absurd ?_ h
    simp [settleDirectory, settleAllocator_hold]

theorem liteCabin_builder (img : Image) (c : Cabin) : (liteCabin img c).builder = Builder.reset := by
  have hdiscard : ∀ c, (discardPass c).builder = c.builder := fun _ => rfl
  simp [liteCabin, hdiscard, liteAllocator, liteBuilder]

theorem setDrive_builder (v : DriveCauses) (s : State) : (setDrive v s).cab.builder = s.cab.builder := by
  unfold setDrive settleMute
  split
  · rfl
  · exact postBoth_builder ..

/-- A lite reset that is performed ends the hold. -/
theorem liteReset_underHold (p : Port) (s : State) (h : (liteReset p s).cab.builder.hold ≠ .running) :
    UnderHold b s.cab (liteReset p s).cab := by
  unfold liteReset at h ⊢
  split
  · exact ((Steady.refl s.cab).refuse ..).underHold
  · rename_i hfront
    rw [if_neg hfront] at h
    refine absurd ?_ h
    rw [onCab_cab, respond_builder, setDrive_builder, onCab_cab, liteCabin_builder]
    rfl

theorem liteResetEnd_held {s : State} (hold : s.cab.builder.hold ≠ .running) : Held b s.cab (liteResetEnd s).cab := by
  unfold liteResetEnd
  split
  · refine Held.same ?_ (setDrive_mixing _ _) (apart_setDrive _ _).2.2 ?_ (apart_setDrive _ _).2.1
    · rw [onCab_cab]
      exact liteEndCabin_held hold
    · rw [setDrive_builder]
  · exact .refl b _

/-- A brownout ends the hold. -/
theorem supplySample_underHold (mv : Nat) (s : State) (h : (supplySample mv s).cab.builder.hold ≠ .running) :
    UnderHold b s.cab (supplySample mv s).cab := by
  unfold supplySample at h ⊢
  split
  · exact (Steady.refl _).underHold
  · rename_i hpart
    rw [if_neg hpart] at h
    split
    · rename_i hlow
      rw [if_pos hlow] at h
      exact absurd rfl h
    · exact (takeSample_steady ..).underHold

theorem takeRequest_underHold {p : Port} {k : State → State} {s : State}
    (h : (k s).cab.builder.hold ≠ .running → UnderHold b s.cab (k s).cab)
    (hold : (takeRequest p k s).cab.builder.hold ≠ .running) : UnderHold b s.cab (takeRequest p k s).cab := by
  unfold takeRequest at hold ⊢
  split
  · exact (Steady.refl _).underHold
  · exact ((Steady.refl s.cab).refuse ..).underHold
  · exact ((Steady.refl s.cab).refuse ..).underHold
  · rename_i hpart
    rw [hpart] at hold
    exact h hold

theorem cabRequest_underHold {p : Port} {k : Cabin → Cabin} {s : State}
    (h : (k s.cab).builder.hold ≠ .running → UnderHold b s.cab (k s.cab)) :
    (cabRequest p k s).cab.builder.hold ≠ .running → UnderHold b s.cab (cabRequest p k s).cab :=
  takeRequest_underHold (k := State.onCab k) h

end Ends

/-! ## Every command -/

/-- A command that neither mixes nor assigns the tuners. -/
theorem underHold_of_apart {b : Prop} {c d : Cabin} (hm : d.mixing = c.mixing) (h : Apart c d) : UnderHold b c d :=
  (Steady.of_apart hm h).underHold

theorem exec_underHold (i : Instr) {s : State} (hfit : HoldFits s.cab) (hold : s.cab.builder.hold ≠ .running) :
    ∃ t, exec i s = .next t ∧
      (t.cab.builder.hold ≠ .running → UnderHold (∀ u g, i ≠ .dataGroup u g) s.cab t.cab) :=
  match i with
  | .portSelect _ => ⟨_, rfl, fun _ => underHold_of_apart rfl (apart_portSelect ..)⟩
  | .transactionAbandoned _ => ⟨_, rfl, fun _ => (Steady.refl _).underHold⟩
  | .unknownRequest _ _ _ => ⟨_, rfl, cabRequest_underHold fun _ => underHold_of_apart rfl (apart_refuse ..)⟩
  | .placeRoute _ _ => ⟨_, rfl, cabRequest_underHold fun _ => (placeRoute_held hold ..).underHold⟩
  | .alterRoute _ _ _ => ⟨_, rfl, cabRequest_underHold fun _ => (alterRoute_held hold ..).underHold⟩
  | .park _ _ => ⟨_, rfl, cabRequest_underHold fun _ => (parkRoute_held hold ..).underHold⟩
  | .unpark _ _ => ⟨_, rfl, cabRequest_underHold fun _ => (unparkRoute_held hold ..).underHold⟩
  | .retireRoute _ _ => ⟨_, rfl, cabRequest_underHold fun _ => (retireRoute_held hold ..).underHold⟩
  | .readRoute _ _ => ⟨_, rfl, cabRequest_underHold fun _ => (readRoute_steady ..).underHold⟩
  | .clearMarks _ _ => ⟨_, rfl, cabRequest_underHold fun _ => (clearMarks_steady ..).underHold⟩
  | .setZone _ _ _ => ⟨_, rfl, cabRequest_underHold fun _ => (setZone_held hold ..).underHold⟩
  | .readZone _ _ => ⟨_, rfl, cabRequest_underHold fun _ => (readZone_steady ..).underHold⟩
  | .linkList _ _ _ => ⟨_, rfl, cabRequest_underHold fun _ => (linkList_held hold ..).underHold⟩
  | .grantRearControl _ _ => ⟨_, rfl, cabRequest_underHold fun _ => (grantRearControl_steady ..).underHold⟩
  | .clearZoneRoutes _ _ => ⟨_, rfl, cabRequest_underHold fun _ => (clearZoneRoutes_held hold ..).underHold⟩
  | .mediaState _ _ _ _ _ => ⟨_, rfl, cabRequest_underHold fun _ => (mediaState_steady ..).underHold⟩
  | .enterHold _ => ⟨_, rfl, cabRequest_underHold fun _ => (enterHold_steady ..).underHold⟩
  | .releaseHold _ => ⟨_, rfl, cabRequest_underHold (releaseHold_underHold hold _)⟩
  | .readStation _ _ => ⟨_, rfl, cabRequest_underHold fun _ => (readStation_steady ..).underHold⟩
  | .walkStations _ _ _ => ⟨_, rfl, cabRequest_underHold fun _ => (walkStations_steady ..).underHold⟩
  | .addStation _ _ _ => ⟨_, rfl, cabRequest_underHold fun _ => (addStation_steady ..).underHold⟩
  | .keep _ _ => ⟨_, rfl, cabRequest_underHold fun _ => (keepStation_steady ..).underHold⟩
  | .unkeep _ _ => ⟨_, rfl, cabRequest_underHold fun _ => (keepStation_steady ..).underHold⟩
  | .retireStation _ _ => ⟨_, rfl, cabRequest_underHold fun _ => (retireStation_steady ..).underHold⟩
  | .setTrafficWatch _ _ _ => ⟨_, rfl, cabRequest_underHold fun _ => (setTrafficWatch_held hold ..).underHold⟩
  | .readReception _ => ⟨_, rfl, cabRequest_underHold fun _ => underHold_of_apart rfl (apart_readReception ..)⟩
  | .startChime _ _ _ => ⟨_, rfl, cabRequest_underHold fun _ => (startChime_steady ..).underHold⟩
  | .cancelAnnouncement _ _ => ⟨_, rfl, cabRequest_underHold fun _ => (cancelAnnouncement_steady ..).underHold⟩
  | .startNav _ _ => ⟨_, rfl, cabRequest_underHold fun _ => (startNav_steady ..).underHold⟩
  | .keepNav _ => ⟨_, rfl, cabRequest_underHold fun _ => (keepNav_steady ..).underHold⟩
  | .endNav _ => ⟨_, rfl, cabRequest_underHold fun _ => (endNav_steady ..).underHold⟩
  | .setPattern _ _ _ => ⟨_, rfl, cabRequest_underHold fun _ => (setPattern_steady ..).underHold⟩
  | .readPattern _ _ => ⟨_, rfl, cabRequest_underHold fun _ => (readPattern_steady ..).underHold⟩
  | .readAnnouncements _ => ⟨_, rfl,
      cabRequest_underHold fun _ => underHold_of_apart rfl (apart_readAnnouncements ..)⟩
  | .openCall _ _ => ⟨_, rfl, cabRequest_underHold fun _ => (openCall_steady ..).underHold⟩
  | .answer _ _ => ⟨_, rfl, cabRequest_underHold fun _ => (answerCall_steady ..).underHold⟩
  | .holdCall _ _ => ⟨_, rfl, cabRequest_underHold fun _ => (holdCall_steady ..).underHold⟩
  | .resume _ _ => ⟨_, rfl, cabRequest_underHold fun _ => (resumeCall_steady ..).underHold⟩
  | .endCall _ _ => ⟨_, rfl, cabRequest_underHold fun _ => (endCall_steady ..).underHold⟩
  | .setListeners _ _ _ => ⟨_, rfl, cabRequest_underHold fun _ => (setListeners_steady ..).underHold⟩
  | .setCall _ _ _ => ⟨_, rfl, cabRequest_underHold fun _ => (setCall_steady ..).underHold⟩
  | .setUplinkGain _ _ => ⟨_, rfl, cabRequest_underHold fun _ => (setUplinkGain_steady ..).underHold⟩
  | .joinCall _ _ _ => ⟨_, rfl, cabRequest_underHold fun _ => (joinCall_steady ..).underHold⟩
  | .leaveCall _ _ _ => ⟨_, rfl, cabRequest_underHold fun _ => (leaveCall_steady ..).underHold⟩
  | .readCall _ _ => ⟨_, rfl, cabRequest_underHold fun _ => (readCall_steady ..).underHold⟩
  | .readRing _ => ⟨_, rfl, takeRequest_underHold fun _ => underHold_of_apart rfl (apart_readRing ..)⟩
  | .readNode _ _ => ⟨_, rfl,
      takeRequest_underHold fun _ => underHold_of_apart (readNode_mixing ..) (apart_readNode ..)⟩
  | .restartNode _ _ => ⟨_, rfl,
      takeRequest_underHold fun _ => underHold_of_apart (restartNode_mixing ..) (apart_restartNode ..)⟩
  | .systemMute _ _ => ⟨_, rfl,
      takeRequest_underHold fun _ => underHold_of_apart (systemMute_mixing ..) (apart_systemMute ..)⟩
  | .expectDip _ => ⟨_, rfl,
      takeRequest_underHold fun _ => underHold_of_apart (expectDip_mixing ..) (apart_expectDip ..)⟩
  | .readEvents _ => ⟨_, rfl, cabRequest_underHold fun _ => underHold_of_apart rfl (apart_readEvents s.cab _)⟩
  | .relaySend _ _ => ⟨_, rfl, cabRequest_underHold fun _ => (relaySend_steady ..).underHold⟩
  | .relayTake _ => ⟨_, rfl, cabRequest_underHold fun _ => (relayTake_steady ..).underHold⟩
  | .liteReset _ => ⟨_, rfl, takeRequest_underHold (liteReset_underHold _ _)⟩
  | .liteResetEnd => ⟨_, rfl, fun _ => (liteResetEnd_held hold).underHold⟩
  | .powerOnReset => ⟨_, rfl, fun h => absurd rfl h⟩
  | .imageLoadEnd _ => ⟨_, rfl, fun _ => (imageLoadEnd_steady ..).underHold⟩
  | .supplySample _ => ⟨_, rfl, supplySample_underHold _ _⟩
  | .settleTimerExpiry => ⟨_, rfl,
      fun _ => underHold_of_apart (settleTimerExpiry_mixing ..) (apart_settleTimerExpiry ..)⟩
  | .recoverStep => ⟨_, rfl, fun _ => underHold_of_apart (recoverStep_mixing ..) (apart_recoverStep ..)⟩
  | .expectWindowExpiry => ⟨_, rfl,
      fun _ => underHold_of_apart (expectWindowExpiry_mixing ..) (apart_expectWindowExpiry ..)⟩
  | .rampTick => ⟨_, rfl, fun _ => (Steady.onCab (rampCabin_steady ..)).underHold⟩
  | .mixSample _ => ⟨_, rfl,
      fun _ => (Steady.of_mixing ((uplinkCabin_mixing ..).trans (mixCabin_mixing ..)) (mixSample_quiet ..).stationsKept).underHold⟩
  | .planBuildComplete => ⟨_, rfl, fun _ => (Steady.onCab (completeBuild_steady (hfit hold) ..)).underHold⟩
  | .measurement _ _ => ⟨_, rfl,
      fun _ => (Steady.of_mixing (measurement_mixing ..) (measurement_quiet ..).stationsKept).underHold⟩
  | .diversityOff _ => ⟨_, rfl,
      fun _ => (Steady.of_mixing (diversityOff_mixing ..) (diversityOff_quiet ..).stationsKept).underHold⟩
  | .diversityTuneComplete => ⟨_, rfl, fun _ => (Steady.onCab (.of_apart rfl (apart_diversityTuned s.cab))).underHold⟩
  | .retuneComplete _ => ⟨_, rfl, fun _ => (retuneComplete_steady ..).underHold⟩
  | .followStart _ => ⟨_, rfl, fun _ => (followStart_steady ..).underHold⟩
  | .followProbeComplete _ => ⟨_, rfl,
      fun _ => (Steady.of_mixing (followProbeComplete_mixing ..) (followProbeComplete_quiet ..).stationsKept).underHold⟩
  | .followWinnerTuned => ⟨_, rfl,
      fun _ => (Steady.of_mixing (followWinnerTuned_mixing ..) (followWinnerTuned_quiet ..).stationsKept).underHold⟩
  | .excursionStart _ => ⟨_, rfl, fun _ => (excursionStart_steady ..).underHold⟩
  | .excursionEnd _ _ => ⟨_, rfl, fun _ => (excursionEnd_steady ..).underHold⟩
  | .scanMeasurement _ => ⟨_, rfl, fun _ => (Steady.onCab (scanMeasurement_steady ..)).underHold⟩
  | .dwellTimeout => ⟨_, rfl, fun _ => dwellEnd_underHold (fun _ => rfl) hold⟩
  | .dataGroup _ _ => ⟨_, rfl, fun _ => (dataGroup_underHold hold ..).of_not fun h => h _ _ rfl⟩
  | .cadenceTick => ⟨_, rfl, fun _ => underHold_of_apart (cadenceTick_mixing ..) (apart_cadenceTick ..)⟩
  | .chimeCompleted _ => ⟨_, rfl, fun _ => (chimeCompleted_steady ..).underHold⟩
  | .navTimeout => ⟨_, rfl, fun _ => (navTimeout_steady ..).underHold⟩
  | .trafficTimeout _ => ⟨_, rfl, fun _ => (trafficTimeout_steady ..).underHold⟩
  | .echoBlockEnd => ⟨_, rfl, fun _ => underHold_of_apart (endBlock_mixing ..) (apart_endBlock ..)⟩
  | .doubleTalkTimeout => ⟨_, rfl, fun _ => underHold_of_apart (doubleTalkOut_mixing ..) (apart_doubleTalkOut ..)⟩
  | .returnFrame _ => ⟨_, rfl, fun _ => underHold_of_apart rfl (apart_returnFrame ..)⟩
  | .ringUp => ⟨_, rfl, fun _ => underHold_of_apart (ringUp_mixing ..) (apart_ringUp ..)⟩
  | .ringDown => ⟨_, rfl, fun _ => underHold_of_apart (ringDown_mixing ..) (apart_ringDown ..)⟩
  | .nodeLost _ => ⟨_, rfl, fun _ => underHold_of_apart (nodeLost_mixing ..) (apart_nodeLost ..)⟩
  | .discoveryPoll => ⟨_, rfl, fun _ => underHold_of_apart (discoveryPoll_mixing ..) (apart_discoveryPoll ..)⟩
  | .pollAnswer _ => ⟨_, rfl, fun _ => underHold_of_apart (pollAnswer_mixing ..) (apart_pollAnswer ..)⟩
  | .abilityPage _ _ => ⟨_, rfl, fun _ => underHold_of_apart (abilityPage_mixing ..) (apart_abilityPage ..)⟩
  | .pageTimerExpiry _ => ⟨_, rfl, fun _ => underHold_of_apart (pageTimerExpiry_mixing ..) (apart_pageTimerExpiry ..)⟩
  | .configPageAnswer _ _ => ⟨_, rfl,
      fun _ => underHold_of_apart (configPageAnswer_mixing ..) (apart_configPageAnswer ..)⟩
  | .configTimeout _ => ⟨_, rfl, fun _ => underHold_of_apart (configTimeout_mixing ..) (apart_configTimeout ..)⟩
  | .statusReport _ _ => ⟨_, rfl, fun _ => underHold_of_apart (statusReport_mixing ..) (apart_statusReport ..)⟩
  | .muteLineChange _ => ⟨_, rfl, fun _ => underHold_of_apart (muteLineChange_mixing ..) (apart_muteLineChange ..)⟩
  | .startUp _ _ => ⟨_, rfl, fun _ => underHold_of_apart (startUp_mixing ..) (apart_startUp ..)⟩

/-- Settles O18: no command runs the arbitration while the part holds, and a merge is the one change of a channel's
station; the hold ends where a plan goes. -/
theorem holdKeepsPlansAndAssignment : Obligations.HoldKeepsPlansAndAssignment := by
  intro i s t hfit hold hexec hheld
  obtain ⟨u, hu, hkept⟩ := exec_underHold i hfit hold
  rw [hexec] at hu
  obtain rfl := Host.Outcome.next.inj hu
  obtain ⟨hplans, hchans, hcalm⟩ := hkept hheld
  exact ⟨hplans, hchans, fun hdef hgroup => hcalm hgroup hdef⟩

end Sys2Proof.Machine
end

section
/-! SUPPORT. The station records stay distinct and their alternates in order (04 R61, R62): what a change of the table has
to respect, and the operations that respect it. -/

namespace Sys2Proof.Machine

/-! ## Alternates (04 R62) -/

/-- The alternates of a record whose own channel is `own`: at most 6, distinct, not the own channel, and in order. -/
def AltsFit (own : Nat) (l : List Alternate) : Prop :=
  l.length ≤ 6 ∧ (l.map (·.chan)).Nodup ∧ own ∉ l.map (·.chan) ∧ l.Pairwise fun a b => altBefore b a = false

theorem alternatesFit_iff (c : Cabin) : AlternatesFit c ↔
    ∀ i r, (c.stationSlot i).record = some r → AltsFit r.freq.chan r.alternates := Iff.rfl

theorem AlternatesFit.altsFit {c : Cabin} (h : AlternatesFit c) {i : Fin 40} {r : Station}
    (hr : (c.stationSlot i).record = some r) : AltsFit r.freq.chan r.alternates := h i r hr

theorem altsFit_nil (own : Nat) : AltsFit own [] := by simp [AltsFit]

theorem altBefore_false_trans {a b e : Alternate} (h : altBefore b a = false) (g : altBefore e b = false) :
    altBefore e a = false := by
  cases ha : a.quality <;> cases hb : b.quality <;> cases he : e.quality <;>
    simp only [altBefore, ha, hb, he, decide_eq_false_iff_not] at h g ⊢ <;> first | omega | simp_all

theorem altBefore_asymm {a b : Alternate} (h : altBefore a b = true) : altBefore b a = false := by
  cases ha : a.quality <;> cases hb : b.quality <;> simp_all [altBefore]; omega

theorem placeAlt_perm (e : Alternate) (l : List Alternate) : (placeAlt e l).Perm (e :: l) := by
  induction l with
  | nil => exact .refl _
  | cons x xs ih =>
    unfold placeAlt
    split
    · exact .refl _
    · exact (ih.cons x).trans (.swap e x xs)

theorem placeAlt_ordered {e : Alternate} {l : List Alternate} (h : l.Pairwise fun a b => altBefore b a = false) :
    (placeAlt e l).Pairwise fun a b => altBefore b a = false := by
  induction l with
  | nil => simp [placeAlt]
  | cons x xs ih =>
    obtain ⟨hx, hxs⟩ := List.pairwise_cons.mp h
    unfold placeAlt
    split
    · rename_i hbefore
      refine List.pairwise_cons.mpr ⟨fun y hy => ?_, h⟩
      obtain rfl | hy := List.mem_cons.mp hy
      · exact altBefore_asymm hbefore
      · exact altBefore_false_trans (altBefore_asymm hbefore) (hx y hy)
    · rename_i hbefore
      refine List.pairwise_cons.mpr ⟨fun y hy => ?_, ih hxs⟩
      obtain rfl | hy := List.mem_cons.mp ((placeAlt_perm e xs).mem_iff.mp hy)
      · simpa using hbefore
      · exact hx y hy

theorem AltsFit.sublist {own : Nat} {l m : List Alternate} (h : AltsFit own l) (hs : m.Sublist l) : AltsFit own m := by
  obtain ⟨hlen, hnodup, hown, hord⟩ := h
  have hmap := hs.map (·.chan)
  exact ⟨hs.length_le.trans hlen, hnodup.sublist hmap, fun hm => hown (hmap.subset hm), hord.sublist hs⟩

theorem AltsFit.place {own : Nat} {e : Alternate} {l : List Alternate} (h : AltsFit own l) (hlen : l.length < 6)
    (hown : e.chan ≠ own) (hnew : e.chan ∉ l.map (·.chan)) : AltsFit own (placeAlt e l) := by
  obtain ⟨-, hnodup, hout, hord⟩ := h
  have hmap := (placeAlt_perm e l).map (·.chan)
  refine ⟨?_, ?_, ?_, placeAlt_ordered hord⟩
  · rw [(placeAlt_perm e l).length_eq]; exact hlen
  · rw [hmap.nodup_iff]; exact List.nodup_cons.mpr ⟨hnew, hnodup⟩
  · rw [hmap.mem_iff]; simpa [hown.symm] using hout

theorem removeAlt_sublist (ch : Nat) (l : List Alternate) : (removeAlt ch l).Sublist l := List.filter_sublist

theorem not_mem_removeAlt (ch : Nat) (l : List Alternate) : ch ∉ (removeAlt ch l).map (·.chan) := by
  simp [removeAlt]

theorem hasAlt_iff {l : List Alternate} {ch : Nat} : hasAlt l ch = true ↔ ch ∈ l.map (·.chan) := by
  simp [hasAlt]

/-- Removing a channel that is there makes room for one more. -/
theorem removeAlt_length_lt {ch : Nat} {l : List Alternate} (h : ch ∈ l.map (·.chan)) :
    (removeAlt ch l).length < l.length := by
  obtain ⟨a, ha, rfl⟩ := List.mem_map.mp h
  exact List.length_filter_lt_length_iff_exists.mpr ⟨a, ha, by simp⟩

theorem AltsFit.setQuality {own : Nat} {l : List Alternate} (h : AltsFit own l) (ch q : Nat) :
    AltsFit own (setAltQuality ch q l) := by
  unfold setAltQuality
  split
  · rename_i hm
    rw [hasAlt_iff] at hm
    refine (h.sublist (removeAlt_sublist ch l)).place ?_ ?_ (not_mem_removeAlt ch l)
    · exact Nat.lt_of_lt_of_le (removeAlt_length_lt hm) h.1
    · exact fun e => h.2.2.1 (e ▸ hm)
  · exact h

/-- 04 R62: whatever joins a list in order leaves it in order. -/
theorem AltsFit.join {own : Nat} {l : List Alternate} (h : AltsFit own l) (ch : Nat) (q : Option Nat) :
    AltsFit own (joinAlt own ch q l) := by
  unfold joinAlt
  split
  · exact h
  · rename_i hown
    split
    · split
      · exact h
      · exact h.setQuality ..
    · rename_i hnew
      rw [hasAlt_iff] at hnew
      have hlen := h.1
      split
      · refine (h.sublist (List.dropLast_sublist l)).place ?_ hown fun hm => ?_
        · rw [List.length_dropLast]; omega
        · exact hnew (((List.dropLast_sublist l).map (·.chan)).subset hm)
      · exact h.place (by omega) hown hnew

/-- A record that moves to another channel leaves that channel out of its alternates (04 R77, 05 R98). -/
theorem AltsFit.move {own : Nat} {l : List Alternate} (h : AltsFit own l) (ch : Nat) : AltsFit ch (removeAlt ch l) := by
  obtain ⟨hlen, hnodup, -, hord⟩ := h.sublist (removeAlt_sublist ch l)
  exact ⟨hlen, hnodup, not_mem_removeAlt ch l, hord⟩

theorem AltsFit.takeAlt {r : Station} (h : AltsFit r.freq.chan r.alternates) (ch : Option Nat) :
    AltsFit (takeAlt ch r).freq.chan (takeAlt ch r).alternates := by
  unfold Machine.takeAlt
  repeat' split
  · exact h
  · exact h.join ..
  · exact h

theorem AltsFit.moveRecord {r : Station} (h : AltsFit r.freq.chan r.alternates) (ch raw : Nat) :
    AltsFit (moveRecord ch raw r).freq.chan (moveRecord ch raw r).alternates := (h.move ch).join ..

theorem AltsFit.merged {ra : Station} (h : AltsFit ra.freq.chan ra.alternates) (rb : Station) :
    AltsFit (mergedRecord ra rb).freq.chan (mergedRecord ra rb).alternates := h.join ..

theorem AltsFit.relabelled {ra : Station} (h : AltsFit ra.freq.chan ra.alternates) (rb : Station) :
    AltsFit (relabelledRecord ra rb).freq.chan (relabelledRecord ra rb).alternates := (h.move rb.freq.chan).join ..

/-! ## What the two statements read of a record -/

/-- What 04 R61 and R62 speak of: the frequency, the accepted identity and the alternates. -/
def Station.face (r : Station) : Freq × Option Nat × List Alternate := (r.freq, r.identity, r.alternates)

/-- Every live record of `d` stands in the same slot of `c`, with the same frequency, identity and alternates. -/
structure FacesWithin (c d : Cabin) : Prop where
  within : ∀ i r, (d.stationSlot i).record = some r → ∃ q, (c.stationSlot i).record = some q ∧ r.face = q.face

/-- A change that keeps the station records distinct and their alternates in order. -/
def KeepsStations (c d : Cabin) : Prop := (StationsDiffer c → StationsDiffer d) ∧ (AlternatesFit c → AlternatesFit d)

theorem FacesWithin.refl (c : Cabin) : FacesWithin c c := ⟨fun _ r h => ⟨r, h, rfl⟩⟩

theorem FacesWithin.trans {c d e : Cabin} (h : FacesWithin c d) (g : FacesWithin d e) : FacesWithin c e :=
  ⟨fun i r hr => by
    obtain ⟨q, hq, eq⟩ := g.within i r hr
    obtain ⟨p, hp, ep⟩ := h.within i q hq
    exact ⟨p, hp, eq.trans ep⟩⟩

theorem KeepsStations.refl (c : Cabin) : KeepsStations c c := ⟨id, id⟩

theorem KeepsStations.trans {c d e : Cabin} (h : KeepsStations c d) (g : KeepsStations d e) : KeepsStations c e :=
  ⟨g.1 ∘ h.1, g.2 ∘ h.2⟩

theorem FacesWithin.keeps {c d : Cabin} (h : FacesWithin c d) : KeepsStations c d := by
  refine ⟨fun hc i j a b hij ha hb => ?_, fun hc i r hr => ?_⟩
  · obtain ⟨a', ha', ea⟩ := h.within i a ha
    obtain ⟨b', hb', eb⟩ := h.within j b hb
    obtain ⟨hfa, hia, -⟩ : _ ∧ _ ∧ _ := by simpa [Station.face] using ea
    obtain ⟨hfb, hib, -⟩ : _ ∧ _ ∧ _ := by simpa [Station.face] using eb
    rw [hfa, hfb, hia, hib]
    exact hc i j a' b' hij ha' hb'
  · obtain ⟨q, hq, e⟩ := h.within i r hr
    obtain ⟨hf, -, ha⟩ : _ ∧ _ ∧ _ := by simpa [Station.face] using e
    rw [hf, ha]
    exact hc i q hq

theorem FacesWithin.of_map {c d : Cabin}
    (h : ∀ i, (d.stationSlot i).record.map Station.face = (c.stationSlot i).record.map Station.face) : FacesWithin c d :=
  ⟨fun i r hr => by
    have := h i
    rw [hr, Option.map_some] at this
    obtain ⟨q, hq, e⟩ := Option.map_eq_some_iff.mp this.symm
    exact ⟨q, hq, e.symm⟩⟩

theorem FacesWithin.of_slots {c d : Cabin} (h : d.table.slots = c.table.slots) : FacesWithin c d :=
  .of_map fun i => by rw [stationSlot_of_slots h]

theorem FacesWithin.of_moved {c d : Cabin} {n m : Fin 40 → Nat}
    (h : ∀ i, d.stationSlot i = StationSlot.moved (n i) (m i) (c.stationSlot i)) : FacesWithin c d :=
  .of_map fun i => by rw [h, StationSlot.moved, Option.map_map]; rfl

theorem Apart.faces {c d : Cabin} (h : Apart c d) : FacesWithin c d := .of_slots h.2.1

theorem Apart.keepsStations {c d : Cabin} (h : Apart c d) : KeepsStations c d := h.faces.keeps

theorem KeepsStations.of_slots {c d : Cabin} (h : d.table.slots = c.table.slots) : KeepsStations c d :=
  (FacesWithin.of_slots h).keeps

theorem modifyStation_faces (c : Cabin) (i : Fin 40) {g : Station → Station} (hg : ∀ r, (g r).face = r.face) :
    FacesWithin c (modifyStation i g c) := .of_map fun j => by
  rw [modifyStation_stationSlot]
  split
  · simp [Function.comp_def, hg]
  · rfl

/-- A change whose frequency, identity and alternates are as they were in every record. -/
theorem modifyStation_sameFace (c : Cabin) (i : Fin 40) {g : Station → Station} (hg : ∀ r, (g r).face = r.face) :
    KeepsStations c (modifyStation i g c) := (modifyStation_faces c i hg).keeps

/-- A change beside the station slots comes first. -/
theorem KeepsStations.after {c d e : Cabin} (g : KeepsStations d e) (h : d.table.slots = c.table.slots) :
    KeepsStations c e := (KeepsStations.of_slots h).trans g

theorem KeepsStations.respond {c d : Cabin} (h : KeepsStations c d) (p : Port) (r : Result) (ws : List Word) :
    KeepsStations c (respond p r ws d) := h.trans (apart_respond d p r ws).keepsStations

/-! ## A slot takes another record -/

/-- A record that comes into a slot: its frequency and its identity are no other record's, and its alternates fit. -/
theorem KeepsStations.of_put {c d : Cabin} {i : Fin 40} {q : Station} (hi : (d.stationSlot i).record = some q)
    (hother : ∀ j r, j ≠ i → (d.stationSlot j).record = some r → ∃ p, (c.stationSlot j).record = some p ∧ r.face = p.face)
    (hdiff : StationsDiffer c → ∀ j r, j ≠ i → (d.stationSlot j).record = some r →
      r.freq ≠ q.freq ∧ ∀ code, q.identity = some code → r.identity ≠ some code)
    (halts : AlternatesFit c → AltsFit q.freq.chan q.alternates) : KeepsStations c d := by
  refine ⟨fun hc j k a b hjk ha hb => ?_, fun hc j r hr => ?_⟩
  · by_cases hj : j = i
    · subst hj
      obtain rfl := Option.some.inj (hi.symm.trans ha)
      obtain ⟨hf, hid⟩ := hdiff hc k b hjk.symm hb
      exact ⟨hf.symm, hid⟩
    · by_cases hk : k = i
      · subst hk
        obtain rfl := Option.some.inj (hi.symm.trans hb)
        obtain ⟨hf, hid⟩ := hdiff hc j a hj ha
        exact ⟨hf, fun code h h' => hid code h' h⟩
      · obtain ⟨a', ha', ea⟩ := hother j a hj ha
        obtain ⟨b', hb', eb⟩ := hother k b hk hb
        obtain ⟨hfa, hia, -⟩ : _ ∧ _ ∧ _ := by simpa [Station.face] using ea
        obtain ⟨hfb, hib, -⟩ : _ ∧ _ ∧ _ := by simpa [Station.face] using eb
        rw [hfa, hfb, hia, hib]
        exact hc j k a' b' hjk ha' hb'
  · by_cases hj : j = i
    · subst hj
      obtain rfl := Option.some.inj (hi.symm.trans hr)
      exact halts hc
    · obtain ⟨p, hp, e⟩ := hother j r hj hr
      obtain ⟨hf, -, ha⟩ : _ ∧ _ ∧ _ := by simpa [Station.face] using e
      rw [hf, ha]
      exact hc j p hp

/-- A change of the record in a slot that keeps its frequency and identity. -/
theorem modifyStation_keepsStations (c : Cabin) (i : Fin 40) {g : Station → Station}
    (hf : ∀ r, (g r).freq = r.freq) (hid : ∀ r, (g r).identity = r.identity)
    (ha : ∀ r, AltsFit r.freq.chan r.alternates → AltsFit r.freq.chan (g r).alternates) :
    KeepsStations c (modifyStation i g c) := by
  cases hr : (c.stationSlot i).record with
  | none => rw [show modifyStation i g c = c by simp [modifyStation, hr]]; exact .refl c
  | some r =>
    refine .of_put (i := i) (q := g r) (by simp [hr]) (fun j q hj hq => ⟨q, ?_, rfl⟩) (fun hc j q hj hq => ?_) fun hc => ?_
    · simpa [hj] using hq
    · rw [hf, hid]
      exact hc j i q r hj (by simpa [hj] using hq) hr |>.imp_right fun h code e e' => h code e' e
    · rw [hf]; exact ha r (hc i r hr)

theorem retireStationSlot_faces (c : Cabin) (i : Fin 40) : FacesWithin c (retireStationSlot i c) where
  within j r hr := by
    rw [retireStationSlot_stationSlot] at hr
    split at hr
    · cases hr
    · exact ⟨r, hr, rfl⟩

/-- No live record has the frequency. -/
theorem stationAtFreq_none {c : Cabin} {f : Freq} (h : stationAtFreq c f = none) {i : Fin 40} {r : Station}
    (hr : (c.stationSlot i).record = some r) : r.freq ≠ f := by
  have := firstIdx_none h i
  simpa [hr] using this

theorem otherWithIdentity_none {c : Cabin} {i : Fin 40} {code : Nat} (h : otherWithIdentity c i code = none) {j : Fin 40}
    {r : Station} (hj : j ≠ i) (hr : (c.stationSlot j).record = some r) : r.identity ≠ some code := by
  have := firstIdx_none h j
  simpa [hr, hj] using this

theorem otherAtFreq_false {c : Cabin} {i : Fin 40} {f : Freq} (h : otherAtFreq c i f = false) {j : Fin 40}
    {r : Station} (hj : j ≠ i) (hr : (c.stationSlot j).record = some r) : r.freq ≠ f := by
  have := firstIdx_none (Option.isSome_eq_false_iff.mp h |> Option.isNone_iff_eq_none.mp) j
  simpa [hr, hj] using this

theorem findStation_none {c : Cabin} {p : Station → Bool} (h : findStation c p = none) {i : Fin 40} {r : Station}
    (hr : (c.stationSlot i).record = some r) : p r = false := by
  have := firstIdx_none h i
  simpa [hr] using this

/-- A new record at a frequency that no live record has, with no identity that one has. -/
theorem createStation_keepsStations {c : Cabin} {i : Fin 40} {q : Station}
    (hfreq : ∀ j r, (c.stationSlot j).record = some r → r.freq ≠ q.freq)
    (hid : ∀ j r code, (c.stationSlot j).record = some r → q.identity = some code → r.identity ≠ some code)
    (halts : q.alternates = []) : KeepsStations c (createStation i q c) := by
  have hslot : ∀ j, (createStation i q c).stationSlot j = if j = i then ⟨(c.stationSlot i).gen, some q⟩ else c.stationSlot j :=
    fun j => (stationSlot_of_slots (by simp [createStation]) j).trans (setStationSlot_stationSlot ..)
  refine .of_put (i := i) (q := q) (by simp [hslot]) (fun j r hj hr => ⟨r, ?_, rfl⟩) (fun _ j r hj hr => ?_) fun _ => ?_
  · simpa [hslot, hj] using hr
  · rw [hslot, if_neg hj] at hr
    exact ⟨hfreq j r hr, fun code h => hid j r code hr h⟩
  · rw [halts]; exact altsFit_nil _

end Sys2Proof.Machine
end

section
/-! SUPPORT. The commands keep the station records distinct and their alternates in order: identities and merges, the
follows, the scan, the decoder and the requests (04 R61, R62, R64 to R80, 05 R98). -/

namespace Sys2Proof.Machine

/-! ## Identities and merges (04 R75 to R78) -/

/-- The slots after a merge: B's is freed, its generation advanced, and A's holds the merged record (04 R76, R77). -/
theorem mergeInto_stationSlot {b a : Fin 40} {rb ra : Station} {c : Cabin} (hab : a ≠ b)
    (hb : (c.stationSlot b).record = some rb) (ha : (c.stationSlot a).record = some ra) (j : Fin 40) :
    (mergeInto b a c).stationSlot j = if j = b then ⟨(c.stationSlot b).gen + 1, none⟩
      else if j = a then ⟨(c.stationSlot a).gen,
        some (if carried c (c.stationId b) then relabelledRecord ra rb else mergedRecord ra rb)⟩
      else c.stationSlot j := by
  unfold mergeInto
  split
  · rename_i rb' ra' hb' ha'
    obtain rfl := Option.some.inj (hb'.symm.trans hb)
    obtain rfl := Option.some.inj (ha'.symm.trans ha)
    extract_lets hB hA relabel retest slotA c1 c2 c3 tbl c4 c5 c6 c7
    have h7 : c7.table = c6.table := by simp only [c7]; split <;> simp
    have hlast : (if relabel then markStationStale hA c7 else c7).table.slots = c6.table.slots := by
      split <;> simp [h7]
    have h5 : ∀ j, c5.stationSlot j = c1.stationSlot j := fun j => stationSlot_of_slots (by
      simp only [c5, repointQueue_table, c4, tbl, c3, repointAll_table, c2, relabelChan_slots]) j
    have h6 : c6.stationSlot j = if j = b then ⟨(c5.stationSlot b).gen + 1, none⟩ else c5.stationSlot j :=
      (stationSlot_of_slots (by simp only [c6, postBoth_table]) j).trans (retireStationSlot_stationSlot c5 b j)
    rw [stationSlot_of_slots hlast, h6, h5, h5]
    simp only [c1, setStationSlot_stationSlot]
    rw [if_neg hab.symm]
  · rename_i hnone
    exact (hnone rb ra hb ha).elim

theorem mergeInto_keepsStations {b a : Fin 40} (hab : a ≠ b) (c : Cabin) : KeepsStations c (mergeInto b a c) := by
  cases hb : (c.stationSlot b).record with
  | none => rw [show mergeInto b a c = c by simp [mergeInto, hb]]; exact .refl c
  | some rb =>
    cases ha : (c.stationSlot a).record with
    | none => rw [show mergeInto b a c = c by simp [mergeInto, hb, ha]]; exact .refl c
    | some ra =>
      have hslot := mergeInto_stationSlot hab hb ha
      have hold : ∀ j r, j ≠ a → ((mergeInto b a c).stationSlot j).record = some r →
          j ≠ b ∧ (c.stationSlot j).record = some r := fun j r hj hr => by
        rw [hslot, if_neg hj] at hr
        split at hr
        · cases hr
        · exact ⟨‹_›, hr⟩
      refine .of_put (i := a) (by rw [hslot, if_neg hab, if_pos rfl]) (fun j r hj hr => ⟨r, (hold j r hj hr).2, rfl⟩)
        (fun hc j r hj hr => ?_) fun hc => ?_
      · obtain ⟨hjb, hr⟩ := hold j r hj hr
        obtain ⟨hfa, hid⟩ := hc j a r ra hj hr ha
        split
        · exact ⟨(hc j b r rb hjb hr hb).1, fun code h h' => hid code h' h⟩
        · exact ⟨hfa, fun code h h' => hid code h' h⟩
      · split
        · exact (hc.altsFit ha).relabelled rb
        · exact (hc.altsFit ha).merged rb

/-- What a record becomes as it takes an identity it did not have (04 R75). -/
def Station.identified (code : Nat) (r : Station) : Station :=
  if r.identity = none then { r with identity := some code, deferred := none }
  else { r with identity := some code, deferred := none, name := Tab.fill 4 none, tp := none, ta := none, alternates := [] }

theorem takeIdentity_stationSlot {i : Fin 40} {code : Nat} {r : Station} {c : Cabin}
    (hr : (c.stationSlot i).record = some r) (j : Fin 40) : (takeIdentity i code c).stationSlot j =
      if j = i then ⟨(c.stationSlot i).gen, some (r.identified code)⟩ else c.stationSlot j := by
  unfold takeIdentity
  split
  · rename_i hnone
    cases hnone.symm.trans hr
  · rename_i r' hr'
    obtain rfl := Option.some.inj (hr'.symm.trans hr)
    extract_lets q slot d
    have hd : ∀ e : Cabin, e = (if r'.identity = none then d else unignoreStation (d.stationId i) d) →
        (postBoth .stations e).table.slots = d.table.slots := by
      rintro _ rfl
      rw [postBoth_table]
      split <;> simp
    rw [stationSlot_of_slots (hd _ rfl)]
    exact setStationSlot_stationSlot ..

theorem takeIdentity_keepsStations {i : Fin 40} {code : Nat} {c : Cabin} (hother : otherWithIdentity c i code = none) :
    KeepsStations c (takeIdentity i code c) := by
  cases hr : (c.stationSlot i).record with
  | none => rw [show takeIdentity i code c = c by simp [takeIdentity, hr]]; exact .refl c
  | some r =>
    have hslot := takeIdentity_stationSlot (code := code) hr
    have hold : ∀ j q, j ≠ i → ((takeIdentity i code c).stationSlot j).record = some q → (c.stationSlot j).record = some q :=
      fun j q hj hq => by simpa [hslot, hj] using hq
    have hfreq : (r.identified code).freq = r.freq := by unfold Station.identified; split <;> rfl
    have hid : (r.identified code).identity = some code := by unfold Station.identified; split <;> rfl
    refine .of_put (i := i) (by rw [hslot, if_pos rfl]) (fun j q hj hq => ⟨q, hold j q hj hq, rfl⟩)
      (fun hc j q hj hq => ?_) fun hc => ?_
    · have hq := hold j q hj hq
      refine ⟨hfreq ▸ (hc j i q r hj hq hr).1, fun k hk => ?_⟩
      exact Option.some.inj (hid.symm.trans hk) ▸ otherWithIdentity_none hother hj hq
    · rw [hfreq]
      unfold Station.identified
      split
      · exact hc i r hr
      · exact altsFit_nil _

theorem applyIdentity_keepsStations (i : Fin 40) (code : Nat) (c : Cabin) : KeepsStations c (applyIdentity i code c) := by
  unfold applyIdentity
  split
  · exact .refl c
  · split
    · exact modifyStation_sameFace c i fun _ => rfl
    · split
      · rename_i a ha
        split
        · exact modifyStation_sameFace c i fun _ => rfl
        · exact mergeInto_keepsStations (otherWithIdentity_ne ha) c
      · exact takeIdentity_keepsStations ‹_›

/-! ## Settling -/

theorem settleStations_keepsStations (n : Nat) (c : Cabin) : KeepsStations c (settleStations n c) := by
  induction n generalizing c with
  | zero => exact .refl c
  | succ n ih =>
    have ha : KeepsStations c (arbitrate c) := .of_slots (by simp)
    unfold settleStations
    dsimp only
    split
    · exact ha
    · exact ha.trans ((applyIdentity_keepsStations ..).trans (ih _))

section Settling

variable {c d e : Cabin} (h : KeepsStations c d)
include h

/-- A change beside the station slots. -/
theorem KeepsStations.same (he : e.table.slots = d.table.slots) : KeepsStations c e := h.trans (.of_slots he)

theorem KeepsStations.settleAllocator : KeepsStations c (settleAllocator d) := h.trans (settleStations_keepsStations 41 d)

theorem KeepsStations.settleRoutes : KeepsStations c (settleRoutes d) := h.same (by simp)

theorem KeepsStations.settleStates : KeepsStations c (settleStates d) := h.same (by simp)

theorem KeepsStations.settleDirectory : KeepsStations c (settleDirectory d) := h.settleAllocator.settleRoutes

theorem KeepsStations.settleInputs : KeepsStations c (settleInputs d) :=
  (h.settleAllocator.same (by simp)).settleRoutes

end Settling

/-! ## The directory and the watch station (01, 04 R82) -/

section Requests

variable (c : Cabin)

theorem settlePlaced_slots (l : Fin 8) (k : Fin 6) : (settlePlaced l k c).table.slots = c.table.slots := by
  unfold settlePlaced; split <;> rfl

theorem placeRoute_keepsStations (p : Port) (a : PlaceArgs) : KeepsStations c (placeRoute p a c) := by
  unfold placeRoute
  repeat' split
  · exact (apart_refuse ..).keepsStations
  · exact (apart_refuse ..).keepsStations
  · exact (apart_refuse ..).keepsStations
  · exact (apart_refuse ..).keepsStations
  · exact (apart_refuse ..).keepsStations
  · rename_i f _ _ src _ _ _ _ k _
    have hplaced : KeepsStations c (placed f.list k (placedRecord p f src a) c) :=
      (FacesWithin.of_moved (m := fun _ => 0) (placed_stationSlot c _ _ _)).keeps
    rw [placeAt_eq]
    refine KeepsStations.respond (KeepsStations.settleRoutes ?_) ..
    exact (hplaced.settleAllocator.same (settlePlaced_slots _ f.list k)).same (by simp)

theorem altered_keepsStations (p : Port) (l : Fin 8) (k : Fin 6) (old new : RouteRecord) :
    KeepsStations c (altered p l k old new c) := (FacesWithin.of_moved (altered_stationSlot c _ _ _ _ _)).keeps

theorem alterRoute_keepsStations (p : Port) (h : Handle) (a : AlterArgs) : KeepsStations c (alterRoute p h a c) := by
  unfold alterRoute
  repeat' split
  · exact (apart_refuse ..).keepsStations
  · exact (apart_refuse ..).keepsStations
  · exact (apart_refuse ..).keepsStations
  · exact (apart_refuse ..).keepsStations
  · exact (apart_refuse ..).keepsStations
  · unfold alterAt
    refine KeepsStations.respond ?_ ..
    split
    · exact .refl c
    · exact (altered_keepsStations (new := alteredRecord ..) ..).settleInputs
  · exact (apart_refuse ..).keepsStations

theorem setPresent_keepsStations (p : Port) (l : Fin 8) (k : Fin 6) (r : RouteRecord) (v : Bool) :
    KeepsStations c (setPresent p l k r v c) :=
  (KeepsStations.settleInputs (.of_slots (by simp [changeRoute]))).respond ..

theorem parkRoute_keepsStations (p : Port) (h : Handle) : KeepsStations c (parkRoute p h c) := by
  unfold parkRoute
  repeat' split
  · exact (apart_refuse ..).keepsStations
  · exact (apart_refuse ..).keepsStations
  · exact (apart_refuse ..).keepsStations
  · exact (apart_refuse ..).keepsStations
  · exact setPresent_keepsStations ..

theorem unparkRoute_keepsStations (p : Port) (h : Handle) : KeepsStations c (unparkRoute p h c) := by
  unfold unparkRoute
  repeat' split
  · exact (apart_refuse ..).keepsStations
  · exact (apart_refuse ..).keepsStations
  · exact (apart_refuse ..).keepsStations
  · exact (apart_refuse ..).keepsStations
  · exact (apart_refuse ..).keepsStations
  · exact setPresent_keepsStations ..

theorem retireRouteAt_keepsStations (p : Port) (l : Fin 8) (k : Fin 6) (r : RouteRecord) :
    KeepsStations c (retireRouteAt p l k r c) :=
  (FacesWithin.of_moved (n := fun _ => 0) (retireRouteAt_stationSlot c _ _ _ _)).keeps

theorem retireAll_keepsStations (p : Port) (l : List (Fin 8 × Fin 6)) :
    KeepsStations c (l.foldl (fun c x => retireIfOccupied p x c) c) := by
  induction l generalizing c with
  | nil => exact .refl c
  | cons x l ih =>
    refine KeepsStations.trans (d := retireIfOccupied p x c) ?_ (ih _)
    unfold retireIfOccupied
    split
    · exact .refl c
    · exact retireRouteAt_keepsStations ..

theorem retireRoute_keepsStations (p : Port) (h : Handle) : KeepsStations c (retireRoute p h c) := by
  unfold retireRoute
  repeat' split
  · exact (apart_refuse ..).keepsStations
  · exact (apart_refuse ..).keepsStations
  · exact (apart_refuse ..).keepsStations
  · exact (retireRouteAt_keepsStations ..).settleInputs.respond ..

theorem clearZoneRoutes_keepsStations (p : Port) (n : Nat) : KeepsStations c (clearZoneRoutes p n c) := by
  unfold clearZoneRoutes
  split
  · exact (apart_refuse ..).keepsStations
  · refine KeepsStations.respond ?_ ..
    split
    · exact .refl c
    · exact (retireAll_keepsStations ..).settleInputs

theorem clearMarks_keepsStations (p : Port) (h : Handle) : KeepsStations c (clearMarks p h c) := by
  unfold clearMarks
  repeat' split
  · exact (apart_refuse ..).keepsStations
  · exact (apart_refuse ..).keepsStations
  · exact (apart_refuse ..).keepsStations
  · exact .of_slots rfl

theorem changeZone_keepsStations (z : Zone) (e : ZoneEntry) : KeepsStations c (changeZone z e c) :=
  .of_slots (by simp [changeZone])

theorem setZone_keepsStations (img : Image) (p : Port) (n : Nat) (a : ZoneArgs) :
    KeepsStations c (setZone img p n a c) := by
  unfold setZone
  split
  · exact (apart_refuse ..).keepsStations
  · split
    · exact (apart_refuse ..).keepsStations
    · split
      · exact (apart_refuse ..).keepsStations
      · refine KeepsStations.respond ?_ ..
        split
        · exact .refl c
        · unfold zoneChanged
          split
          · exact (changeZone_keepsStations ..).settleDirectory
          · exact (changeZone_keepsStations ..).settleInputs

theorem linkList_keepsStations (p : Port) (n : Nat) (m : Option Nat) : KeepsStations c (linkList p n m c) := by
  unfold linkList
  split
  · split
    · exact (apart_refuse ..).keepsStations
    · refine KeepsStations.respond ?_ ..
      split
      · exact .refl c
      · exact (changeZone_keepsStations ..).settleInputs
  · exact (apart_refuse ..).keepsStations

theorem readZone_keepsStations (p : Port) (n : Nat) : KeepsStations c (readZone p n c) := by
  unfold readZone
  split
  · exact (apart_refuse ..).keepsStations
  · exact .of_slots rfl

theorem grantRearControl_keepsStations (p : Port) (v : Nat) : KeepsStations c (grantRearControl p v c) := by
  unfold grantRearControl
  split
  · exact (apart_refuse ..).keepsStations
  · split
    · exact (apart_refuse ..).keepsStations
    · refine KeepsStations.respond ?_ ..
      split
      · exact .refl c
      · exact .of_slots (by simp)

theorem declareMedia_keepsStations (n : Fin 4) (v : Option Bool) : KeepsStations c (declareMedia n v c) := by
  unfold declareMedia
  repeat' split
  · exact .refl c
  · exact .refl c
  · exact .of_slots rfl

theorem mediaState_keepsStations (p : Port) (m0 m1 m2 m3 : Option Nat) :
    KeepsStations c (mediaState p m0 m1 m2 m3 c) := by
  unfold mediaState
  split
  · exact (apart_refuse ..).keepsStations
  · split
    · exact (apart_refuse ..).keepsStations
    · refine KeepsStations.respond ?_ ..
      split
      · exact .refl c
      · exact ((((declareMedia_keepsStations c 0 _).trans (declareMedia_keepsStations _ 1 _)).trans
          (declareMedia_keepsStations _ 2 _)).trans (declareMedia_keepsStations _ 3 _)).settleStates

theorem releaseHold_keepsStations (p : Port) : KeepsStations c (releaseHold p c) := by
  unfold releaseHold
  repeat' split
  · exact (apart_refuse ..).keepsStations
  · exact (apart_refuse ..).keepsStations
  · refine KeepsStations.respond (KeepsStations.settleDirectory (.of_slots ?_)) ..
    rfl

theorem keepStation_keepsStations (v : Bool) (p : Port) (h : Handle) : KeepsStations c (keepStation v p h c) := by
  unfold keepStation
  repeat' split
  · exact (apart_refuse ..).keepsStations
  · exact (apart_refuse ..).keepsStations
  · exact KeepsStations.respond (modifyStation_sameFace c _ fun _ => by rfl) ..

theorem retireStation_keepsStations (p : Port) (h : Handle) : KeepsStations c (retireStation p h c) := by
  unfold retireStation
  repeat' split
  · exact (apart_refuse ..).keepsStations
  · exact (apart_refuse ..).keepsStations
  · exact (apart_refuse ..).keepsStations
  · exact (apart_refuse ..).keepsStations
  · rename_i i _ _ _ _ _ _
    exact ((retireStationSlot_faces c i).keeps.same (by simp [retireStationAt])).respond ..

theorem addStation_keepsStations (p : Port) (b : Nat) (n : Int) : KeepsStations c (addStation p b n c) := by
  unfold addStation addStationAt
  repeat' split
  · exact (apart_refuse ..).keepsStations
  · exact (apart_respond ..).keepsStations
  · exact (apart_refuse ..).keepsStations
  · rename_i hnone _ i _
    refine KeepsStations.respond (createStation_keepsStations (fun j r hr => ?_) (fun _ _ _ _ h => by cases h) rfl) ..
    exact stationAtFreq_none hnone hr

theorem setWatched_keepsStations (h : StationId) (v : Bool) : KeepsStations c (setWatched h v c) := by
  unfold setWatched
  split
  · exact modifyStation_sameFace c _ fun _ => rfl
  · exact .refl c

theorem putWatch_keepsStations (w : Option Watch) : KeepsStations c (putWatch w c) := by
  unfold putWatch
  extract_lets d e
  have hd : KeepsStations c d := by
    simp only [d]
    split
    · exact .refl c
    · exact setWatched_keepsStations ..
  have he : KeepsStations d e := by
    simp only [e]
    split
    · exact .refl d
    · exact setWatched_keepsStations ..
  exact (hd.trans he).same rfl

theorem setTrafficWatch_keepsStations (p : Port) (h : Option Handle) (n : Int) :
    KeepsStations c (setTrafficWatch p h n c) := by
  have hchange : ∀ w, KeepsStations c (changeWatch w c) := by
    intro w
    unfold changeWatch
    split
    · exact (putWatch_keepsStations ..).settleDirectory
    · exact (putWatch_keepsStations ..).settleInputs
  unfold setTrafficWatch
  repeat' split
  · exact (apart_refuse ..).keepsStations
  · exact (hchange _).respond ..
  · exact (apart_refuse ..).keepsStations
  · exact (apart_refuse ..).keepsStations
  · exact (apart_refuse ..).keepsStations
  · exact (hchange _).respond ..

end Requests

/-! ## The tuners and the follows (05 R86 to R101) -/

section Tuners

variable (c : Cabin)

theorem setChan_keepsStations (x : Chan) (v : ProgChan) : KeepsStations c (setChan x v c) := .of_slots rfl

theorem noteChanQuality_keepsStations (x : Chan) (q : Nat) : KeepsStations c (noteChanQuality x q c) := by
  unfold noteChanQuality
  split
  · exact setChan_keepsStations ..
  · exact KeepsStations.trans (modifyStation_sameFace c _ fun _ => by rfl) (setChan_keepsStations ..)

theorem reselect_slots (x : Chan) : (reselect x c).table.slots = c.table.slots := by
  unfold reselect
  repeat' split
  all_goals rfl

theorem startDiversity_slots (x : Chan) : (startDiversity x c).table.slots = c.table.slots := by
  unfold startDiversity
  split
  · simp
  · rfl

theorem measurement_keepsStations (img : Image) (t : TunerId) (f : Figures) : KeepsStations c (measurement img t f c) := by
  unfold measurement measureOn
  split
  · exact .refl c
  · extract_lets q ofChannel old d e
    have he : KeepsStations c e := by
      refine KeepsStations.same (d := if ofChannel then noteChanQuality _ q d else d) ?_ (reselect_slots ..)
      split
      · exact (noteChanQuality_keepsStations ..).after rfl
      · exact .of_slots rfl
    split
    · exact he.same (startDiversity_slots ..)
    · exact he

theorem diversityOff_keepsStations (x : Chan) : KeepsStations c (diversityOff x c) := by
  unfold diversityOff
  split
  · exact .of_slots (by simp)
  · exact .refl c

theorem retuneComplete_keepsStations (x : Chan) : KeepsStations c (retuneComplete x c) := by
  unfold retuneComplete
  split
  · exact .of_slots (by simp)
  · exact .refl c

variable {c}

/-- A record that a follow moves to an eligible frequency (05 R98). -/
theorem moveRecord_keepsStations {h : StationId} {ch : Nat} (hp : probeable c h ch = true) (raw : Nat) :
    KeepsStations c (modifyStation h.slot (moveRecord ch raw) c) := by
  simp only [probeable, Bool.and_eq_true, Bool.not_eq_true'] at hp
  cases hr : (c.stationSlot h.slot).record with
  | none => rw [show modifyStation h.slot (moveRecord ch raw) c = c by simp [modifyStation, hr]]; exact .refl c
  | some r =>
    refine .of_put (i := h.slot) (q := moveRecord ch raw r) (by simp [hr]) (fun j q hj hq => ⟨q, ?_, rfl⟩)
      (fun hc j q hj hq => ?_) fun hc => (hc.altsFit hr).moveRecord ch raw
    · simpa [hj] using hq
    · have hq : (c.stationSlot j).record = some q := by simpa [hj] using hq
      exact ⟨otherAtFreq_false hp.2 hj hq, fun code e e' => (hc j h.slot q r hj hq hr).2 code e' e⟩

/-- The frequency that a follow decides for is eligible (05 R98). -/
theorem followWinner_probeable {h : StationId} {q : Nat} {ms : List (Nat × Nat)} {w : Nat × Nat}
    (hw : followWinner c h q ms = some w) : probeable c h w.1 = true := by
  have hbest : ∀ (l : List (Nat × Nat)) (best : Option (Nat × Nat)),
      (∀ m ∈ l, goodProbe c h q m = true) → (∀ m ∈ best, goodProbe c h q m = true) →
      ∀ m ∈ l.foldl (fun best m => match best with
        | none => some m
        | some b => if b.2 < m.2 then some m else some b) best, goodProbe c h q m = true := by
    intro l
    induction l with
    | nil => exact fun _ _ hb => hb
    | cons a l ih =>
      intro best hl hb
      refine ih _ (fun m hm => hl m (List.mem_cons_of_mem a hm)) fun m hm => ?_
      have ha := hl a List.mem_cons_self
      cases best with
      | none => cases hm; exact ha
      | some b =>
        dsimp only at hm
        split at hm
        · cases hm; exact ha
        · exact hb m hm
  have := hbest (ms.filter (goodProbe c h q)) none (fun m hm => (List.mem_filter.mp hm).2) (fun _ hm => by cases hm) w hw
  simp only [goodProbe, Bool.and_eq_true] at this
  exact this.2

theorem adoptBorrowed_keepsStations {h : StationId} {ch : Nat} (hp : probeable c h ch = true) (x : Chan) (t : TunerId)
    (raw : Nat) : KeepsStations c (adoptBorrowed x h t ch raw c) :=
  (moveRecord_keepsStations hp raw).same (by simp [adoptBorrowed])

variable (c)

theorem advanceBorrowed_keepsStations (x : Chan) (h : StationId) (t : TunerId) (f : Follow) :
    KeepsStations c (advanceBorrowed x h t f c) := by
  unfold advanceBorrowed decideBorrowed
  repeat' split
  · exact .of_slots (by simp [endFollow])
  · rename_i hw _
    exact adoptBorrowed_keepsStations (followWinner_probeable hw) ..
  · exact .of_slots rfl
  · exact .of_slots rfl

theorem decideSelf_keepsStations (x : Chan) (h : StationId) (f : Follow) : KeepsStations c (decideSelf x h f c) := by
  unfold decideSelf
  split
  · exact .of_slots rfl
  · rename_i ch raw hw
    exact (moveRecord_keepsStations (followWinner_probeable hw) raw).same (by simp)

theorem advanceSelf_keepsStations (x : Chan) (h : StationId) (t : TunerId) (f : Follow) :
    KeepsStations c (advanceSelf x h t f c) := by
  unfold advanceSelf
  split
  · exact decideSelf_keepsStations ..
  · exact .of_slots rfl

theorem followStart_keepsStations (x : Chan) : KeepsStations c (followStart x c) := by
  unfold followStart startBorrowed
  repeat' split
  · exact (advanceBorrowed_keepsStations ..).after (by simp [setFollow])
  · exact (advanceSelf_keepsStations ..).settleStates
  · exact .refl c
  · exact .refl c

theorem noteProbe_keepsStations (h : StationId) (ch raw : Nat) : KeepsStations c (noteProbe h ch raw c) :=
  modifyStation_keepsStations c _ (fun _ => rfl) (fun _ => rfl) fun _ hr => hr.setQuality ch raw

theorem followProbeComplete_keepsStations (img : Image) (g : Figures) :
    KeepsStations c (followProbeComplete img g c) := by
  unfold followProbeComplete probeEnd
  repeat' split
  · exact .refl c
  · exact .refl c
  · exact (noteProbe_keepsStations ..).trans (advanceBorrowed_keepsStations ..)
  · exact .refl c
  · exact .refl c

theorem followWinnerTuned_keepsStations : KeepsStations c (followWinnerTuned c) := by
  unfold followWinnerTuned winnerTuned
  repeat' split
  · exact .refl c
  · exact adoptBorrowed_keepsStations ‹_› ..
  · exact .of_slots (by simp [endFollow])
  · exact .refl c
  · exact .refl c
  · exact .refl c
  · exact .refl c

theorem excursionStart_keepsStations (x : Chan) : KeepsStations c (excursionStart x c) := by
  unfold excursionStart
  repeat' split
  · exact (advanceSelf_keepsStations ..).settleStates
  · exact .refl c
  · exact .refl c

theorem excursionEnd_keepsStations (img : Image) (x : Chan) (g : Figures) :
    KeepsStations c (excursionEnd img x g c) := by
  unfold excursionEnd
  split
  · split
    · exact .refl c
    · split
      · have hreturn : ∀ h ch raw t f, KeepsStations c (returnFrom x h t f (noteProbe h ch raw c)) :=
          fun _ _ _ _ _ => (noteProbe_keepsStations ..).same rfl
        refine KeepsStations.settleStates ?_
        dsimp only
        split
        · exact (hreturn ..).trans (decideSelf_keepsStations ..)
        · exact hreturn ..
      · exact .refl c
  · exact .refl c

theorem discardPass_keepsStations : KeepsStations c (discardPass c) := by
  refine (FacesWithin.of_map fun i => ?_).keeps
  simp [discardPass, tuneScan, clearReceived, Cabin.stationSlot, Function.comp_def]
  rfl

theorem stopTuners_keepsStations : KeepsStations c (stopTuners c) :=
  ((discardPass_keepsStations _).after (by simp)).settleStates

theorem restartTuners_keepsStations : KeepsStations c (restartTuners c) :=
  KeepsStations.settleStates (.of_slots (by simp))

end Tuners

/-! ## The scan and the decoder (04 R63 to R75) -/

section Scan

variable (c : Cabin)

theorem agedRecord_face (r : Station) : (agedRecord r).face = r.face := by
  unfold agedRecord
  dsimp only
  repeat' split
  all_goals rfl

theorem ageSlot_faces (i : Fin 40) : FacesWithin c (ageSlot i c) := by
  unfold ageSlot
  repeat' split
  · exact .refl c
  · exact (retireStationSlot_faces c i).trans (.of_slots (by simp))
  · exact modifyStation_faces c i agedRecord_face

theorem ageAll_faces (l : List (Fin 40)) : FacesWithin c (l.foldl (fun c i => ageSlot i c) c) := by
  induction l generalizing c with
  | nil => exact .refl c
  | cons i l ih => exact (ageSlot_faces c i).trans (ih _)

theorem completePass_keepsStations : KeepsStations c (completePass c) := by
  have h : KeepsStations c (eachIdx 40 ageSlot c) := (ageAll_faces c _).keeps
  unfold completePass
  generalize eachIdx 40 ageSlot c = d at h ⊢
  exact h.same rfl

theorem advanceScan_keepsStations : KeepsStations c (advanceScan c) := by
  unfold advanceScan
  split
  · exact .of_slots rfl
  · exact (completePass_keepsStations c).same rfl

/-- A find at a position that no live record has, with no identity that one has (04 R64, R69). -/
theorem createFound_keepsStations {c : Cabin} {identity : Option Nat} (hfreq : stationAtFreq c c.table.position = none)
    (hid : ∀ code, identity = some code → findStation c (fun r => decide (r.identity = some code)) = none) (raw : Nat) :
    KeepsStations c (createFound raw identity c) := by
  have hnew : ∀ i {d : Cabin}, FacesWithin c d →
      KeepsStations d (createStation i (newStation c.table.position raw .candidate .scan identity) d) := fun i d hd => by
    refine createStation_keepsStations (fun j r hr => ?_) (fun j r code hr h => ?_) rfl
    · obtain ⟨q, hq, e⟩ := hd.within j r hr
      have hf : r.freq = q.freq := congrArg (·.1) e
      exact hf ▸ stationAtFreq_none hfreq hq
    · obtain ⟨q, hq, e⟩ := hd.within j r hr
      have hi : r.identity = q.identity := congrArg (·.2.1) e
      exact hi ▸ of_decide_eq_false (findStation_none (hid code h) hq)
  unfold createFound
  dsimp only
  repeat' split
  · exact hnew _ (.refl c)
  · exact (retireStationSlot_faces ..).keeps.trans (hnew _ (retireStationSlot_faces ..))
  · exact .of_slots rfl
  · exact .of_slots rfl

theorem scanKnown_keepsStations (i : Fin 40) (raw : Nat) : KeepsStations c (scanKnown i raw c) := by
  unfold scanKnown
  split
  · exact advanceScan_keepsStations c
  · split
    · refine KeepsStations.trans ?_ (advanceScan_keepsStations _)
      split
      · exact modifyStation_sameFace c i fun _ => rfl
      · exact .refl c
    · have hscan : KeepsStations c (modifyStation i (scanRecord raw) c) :=
        modifyStation_sameFace c i fun _ => rfl
      dsimp only
      split
      · exact hscan.same rfl
      · exact hscan.trans (advanceScan_keepsStations _)

theorem scanMeasurement_keepsStations (img : Image) (f : Figures) : KeepsStations c (scanMeasurement img f c) := by
  unfold scanMeasurement scanOutcome
  repeat' split
  · exact scanKnown_keepsStations ..
  · exact advanceScan_keepsStations c
  · exact .of_slots rfl
  · exact (createFound_keepsStations ‹_› (fun _ h => by cases h) _).trans (advanceScan_keepsStations _)
  · exact .refl c

theorem dwellOutcome_keepsStations (raw : Nat) (accepted : Option Nat) :
    KeepsStations c (dwellOutcome raw accepted c) := by
  unfold dwellOutcome dwellNew
  repeat' split
  · exact createFound_keepsStations ‹_› (fun _ h => by cases h) _
  · exact modifyStation_keepsStations c _ (fun _ => rfl) (fun _ => rfl) fun _ hr => hr.join ..
  · exact createFound_keepsStations ‹_› (fun _ h => by cases h; assumption) _
  · exact .refl c
  · exact applyIdentity_keepsStations ..

theorem dwellEnd_keepsStations (accepted : Option Nat) : KeepsStations c (dwellEnd accepted c) := by
  unfold dwellEnd
  split
  · exact .refl c
  · refine KeepsStations.settleDirectory (KeepsStations.trans ?_ (advanceScan_keepsStations _))
    exact (dwellOutcome_keepsStations ..).after rfl

theorem acceptFlags_keepsStations (h : StationId) (tp ta : Bool) : KeepsStations c (acceptFlags h tp ta c) := by
  unfold acceptFlags clearTraffic
  extract_lets d
  have hd : KeepsStations c d := modifyStation_sameFace c _ fun _ => rfl
  refine hd.same ?_
  split
  · simp
  · rw [unignoreStation_table]; split <;> simp

theorem takeAlt_freq (ch : Option Nat) (r : Station) : (takeAlt ch r).freq = r.freq := by
  unfold takeAlt
  repeat' split
  all_goals rfl

theorem takeAlt_identity (ch : Option Nat) (r : Station) : (takeAlt ch r).identity = r.identity := by
  unfold takeAlt
  repeat' split
  all_goals rfl

theorem takeContent_keepsStations (t : TunerId) (h : StationId) (g : GroupContent) :
    KeepsStations c (takeContent t h g c) := by
  cases g with
  | ident tp ta =>
    simp only [takeContent, takeIdent]
    split
    · exact (acceptFlags_keepsStations ..).after rfl
    · exact .of_slots rfl
  | name seg u v =>
    simp only [takeContent, takeName]
    split
    · exact KeepsStations.after (modifyStation_sameFace _ h.slot fun _ => by rfl) rfl
    · exact .of_slots rfl
  | alts f g =>
    refine modifyStation_keepsStations c _ (fun r => by rw [takeAlt_freq, takeAlt_freq])
      (fun r => by rw [takeAlt_identity, takeAlt_identity]) fun r hr => ?_
    have := (hr.takeAlt f).takeAlt g
    rwa [takeAlt_freq, takeAlt_freq] at this

theorem groupOnChan_keepsStations (t : TunerId) (x : Chan) (g : DataGroup) :
    KeepsStations c (groupOnChan t x g c) := by
  unfold groupOnChan
  extract_lets new d e f
  have he : KeepsStations d e := by
    simp only [e]
    split
    · exact .refl d
    · split
      · exact applyIdentity_keepsStations ..
      · exact .refl d
  have hf : KeepsStations e f := by
    simp only [f]
    split
    · exact .refl e
    · split
      · exact takeContent_keepsStations ..
      · exact .refl e
  exact ((he.trans hf).after rfl).settleDirectory

theorem dataGroup_keepsStations (t : TunerId) (g : DataGroup) : KeepsStations c (dataGroup t g c) := by
  unfold dataGroup groupInDwell
  split
  · exact .refl c
  · split
    · exact .refl c
    · exact groupOnChan_keepsStations ..
    · dsimp only
      split
      · exact (dwellEnd_keepsStations ..).after rfl
      · exact .of_slots rfl

end Scan

/-! ## Resets, start-up and the supply -/

theorem KeepsStations.onCab {s : State} {f : Cabin → Cabin} (h : KeepsStations s.cab (f s.cab)) :
    KeepsStations s.cab (s.onCab f).cab := h

theorem powerOnReset_keepsStations (s : State) : KeepsStations s.cab (powerOnReset s).cab := by
  have hslot : ∀ i, ((powerOnReset s).cab.stationSlot i).record = none := fun i => by
    rw [show (powerOnReset s).cab.stationSlot i = _ from reset_stationSlot i]
  exact ⟨fun _ i j a b _ ha => by simp [hslot] at ha, fun _ i r hr => by simp [hslot] at hr⟩

theorem liteCabin_keepsStations (img : Image) (c : Cabin) : KeepsStations c (liteCabin img c) := by
  unfold liteCabin
  extract_lets mix d
  have hd : KeepsStations c d := (FacesWithin.of_map fun i => by
    simp [d, Cabin.stationSlot, liteTable, Function.comp_def, liteStation]
    rfl).keeps
  exact (hd.same (liteAllocator_slots d)).trans (discardPass_keepsStations _)

theorem liteReset_keepsStations (p : Port) (s : State) : KeepsStations s.cab (liteReset p s).cab := by
  unfold liteReset
  split
  · exact (apart_refuse ..).keepsStations
  · exact ((liteCabin_keepsStations s.supply.image s.cab).trans (apart_setDrive (s.onCab _) _).keepsStations).respond ..

theorem liteEndCabin_keepsStations (c : Cabin) : KeepsStations c (liteEndCabin c) :=
  KeepsStations.settleDirectory (.of_slots (by simp))

theorem liteResetEnd_keepsStations (s : State) : KeepsStations s.cab (liteResetEnd s).cab := by
  unfold liteResetEnd
  split
  · have h : KeepsStations s.cab (s.onCab liteEndCabin).cab := .onCab (liteEndCabin_keepsStations s.cab)
    exact h.trans (apart_setDrive (s.onCab liteEndCabin) _).keepsStations
  · exact .refl _

theorem beginRunning_keepsStations (img : Image) (c : Cabin) : KeepsStations c (beginRunning img c) :=
  KeepsStations.settleRoutes (.of_slots (by simp))

theorem imageLoadEnd_keepsStations (e : EepromRead) (s : State) : KeepsStations s.cab (imageLoadEnd e s).cab := by
  unfold imageLoadEnd
  split
  · extract_lets img supply u ring v
    have h : KeepsStations s.cab (v.onCab (beginRunning img)).cab := .onCab (beginRunning_keepsStations img v.cab)
    exact h.trans (apart_beginLocking (v.onCab (beginRunning img))).keepsStations
  · exact .refl _

theorem enterLow_keepsStations (s : State) : KeepsStations s.cab (enterLow s).cab := by
  unfold enterLow
  extract_lets u supply drive v
  have hu : Apart s.cab u.cab := apart_enterSupply ..
  have hv : Apart u.cab v.cab := apart_setDrive (u.setSupply _) _
  exact (hu.trans hv).keepsStations.trans (KeepsStations.onCab (stopTuners_keepsStations v.cab))

theorem leaveLow_keepsStations (s : State) : KeepsStations s.cab (leaveLow s).cab :=
  (apart_enterSupply s .settle).keepsStations.trans
    (KeepsStations.onCab (s := enterSupply .settle s) (restartTuners_keepsStations _))

theorem takeClass_keepsStations (k : SampleClass) (s : State) : KeepsStations s.cab (takeClass k s).cab := by
  unfold takeClass
  split
  · exact .refl _
  · exact enterLow_keepsStations s
  · exact (apart_enterSupply ..).keepsStations
  · exact (apart_enterSupply ..).keepsStations
  · exact (apart_enterSupply ..).keepsStations
  · exact .refl _
  · exact (apart_enterSupply ..).keepsStations
  · exact leaveLow_keepsStations s
  · exact .refl _
  · exact .refl _
  · exact .refl _

theorem firstSample_keepsStations (mv : Nat) (s : State) : KeepsStations s.cab (firstSample mv s).cab := by
  unfold firstSample
  repeat' split
  · exact (apart_enterSupply ..).keepsStations
  · exact (apart_enterSupply ..).keepsStations
  · exact enterLow_keepsStations s

theorem takeSample_keepsStations (mv : Nat) (s : State) : KeepsStations s.cab (takeSample mv s).cab := by
  unfold takeSample
  split
  · exact firstSample_keepsStations mv (s.setSupply { s.supply with previous := some mv, window := false })
  · rename_i v _
    exact takeClass_keepsStations (classOf v mv)
      (s.setSupply { s.supply with previous := some mv, window := s.supply.window && !endsWindow (classOf v mv) })

theorem supplySample_keepsStations (mv : Nat) (s : State) : KeepsStations s.cab (supplySample mv s).cab := by
  unfold supplySample
  repeat' split
  · exact .refl _
  · exact powerOnReset_keepsStations s
  · exact takeSample_keepsStations mv s

end Sys2Proof.Machine
end

section
/-! SUPPORT. Every command keeps the station records distinct and their alternates in order (04 R61, R62). -/

namespace Sys2Proof.Machine

theorem rampCabin_keepsStations (crank : Int) (muted : Bool) (c : Cabin) : KeepsStations c (rampCabin crank muted c) := by
  obtain ⟨d, he, hd⟩ := rampCabin_ticked crank muted c
  rw [he]
  exact .of_slots (by rw [settleHold_table, hd.table])

theorem mixSample_keepsStations (x : SampleIn) (s : State) : KeepsStations s.cab (mixSample x s).cab := by
  have hmix : KeepsStations s.cab (mixCabin x s.cab) := .of_slots (congrArg (·.slots) (mixCabin_mixed x s.cab).table)
  rw [mixSample_eq]
  exact hmix.trans (uplinkCabin_apart _ s.supply.image s.free x).keepsStations

theorem takeRequest_keepsStations {p : Port} {k : State → State} {s : State} (h : KeepsStations s.cab (k s).cab) :
    KeepsStations s.cab (takeRequest p k s).cab := by
  unfold takeRequest
  split
  · exact .refl _
  · exact (apart_refuse ..).keepsStations
  · exact (apart_refuse ..).keepsStations
  · exact h

theorem cabRequest_keepsStations {p : Port} {k : Cabin → Cabin} {s : State} (h : KeepsStations s.cab (k s.cab)) :
    KeepsStations s.cab (cabRequest p k s).cab := takeRequest_keepsStations (.onCab h)

theorem exec_keepsStations (i : Instr) (s : State) : ∃ t, exec i s = .next t ∧ KeepsStations s.cab t.cab :=
  match i with
  | .portSelect _ => ⟨_, rfl, (apart_portSelect ..).keepsStations⟩
  | .transactionAbandoned _ => ⟨_, rfl, .refl _⟩
  | .unknownRequest _ _ _ => ⟨_, rfl, cabRequest_keepsStations ((apart_refuse ..).keepsStations)⟩
  | .placeRoute _ _ => ⟨_, rfl, cabRequest_keepsStations (placeRoute_keepsStations ..)⟩
  | .alterRoute _ _ _ => ⟨_, rfl, cabRequest_keepsStations (alterRoute_keepsStations ..)⟩
  | .park _ _ => ⟨_, rfl, cabRequest_keepsStations (parkRoute_keepsStations ..)⟩
  | .unpark _ _ => ⟨_, rfl, cabRequest_keepsStations (unparkRoute_keepsStations ..)⟩
  | .retireRoute _ _ => ⟨_, rfl, cabRequest_keepsStations (retireRoute_keepsStations ..)⟩
  | .readRoute _ _ => ⟨_, rfl, cabRequest_keepsStations ((apart_readRoute ..).keepsStations)⟩
  | .clearMarks _ _ => ⟨_, rfl, cabRequest_keepsStations (clearMarks_keepsStations ..)⟩
  | .setZone _ _ _ => ⟨_, rfl, cabRequest_keepsStations (setZone_keepsStations ..)⟩
  | .readZone _ _ => ⟨_, rfl, cabRequest_keepsStations (readZone_keepsStations ..)⟩
  | .linkList _ _ _ => ⟨_, rfl, cabRequest_keepsStations (linkList_keepsStations ..)⟩
  | .grantRearControl _ _ => ⟨_, rfl, cabRequest_keepsStations (grantRearControl_keepsStations ..)⟩
  | .clearZoneRoutes _ _ => ⟨_, rfl, cabRequest_keepsStations (clearZoneRoutes_keepsStations ..)⟩
  | .mediaState _ _ _ _ _ => ⟨_, rfl, cabRequest_keepsStations (mediaState_keepsStations ..)⟩
  | .enterHold _ => ⟨_, rfl, cabRequest_keepsStations ((apart_enterHold ..).keepsStations)⟩
  | .releaseHold _ => ⟨_, rfl, cabRequest_keepsStations (releaseHold_keepsStations ..)⟩
  | .readStation _ _ => ⟨_, rfl, cabRequest_keepsStations ((apart_readStation ..).keepsStations)⟩
  | .walkStations _ _ _ => ⟨_, rfl, cabRequest_keepsStations ((apart_walkStations ..).keepsStations)⟩
  | .addStation _ _ _ => ⟨_, rfl, cabRequest_keepsStations (addStation_keepsStations ..)⟩
  | .keep _ _ => ⟨_, rfl, cabRequest_keepsStations (keepStation_keepsStations ..)⟩
  | .unkeep _ _ => ⟨_, rfl, cabRequest_keepsStations (keepStation_keepsStations ..)⟩
  | .retireStation _ _ => ⟨_, rfl, cabRequest_keepsStations (retireStation_keepsStations ..)⟩
  | .setTrafficWatch _ _ _ => ⟨_, rfl, cabRequest_keepsStations (setTrafficWatch_keepsStations ..)⟩
  | .readReception _ => ⟨_, rfl, cabRequest_keepsStations ((apart_readReception ..).keepsStations)⟩
  | .startChime _ _ _ => ⟨_, rfl, cabRequest_keepsStations ((apart_startChime ..).keepsStations)⟩
  | .cancelAnnouncement _ _ => ⟨_, rfl, cabRequest_keepsStations ((apart_cancelAnnouncement ..).keepsStations)⟩
  | .startNav _ _ => ⟨_, rfl, cabRequest_keepsStations ((apart_startNav ..).keepsStations)⟩
  | .keepNav _ => ⟨_, rfl, cabRequest_keepsStations ((apart_keepNav ..).keepsStations)⟩
  | .endNav _ => ⟨_, rfl, cabRequest_keepsStations ((apart_endNav ..).keepsStations)⟩
  | .setPattern _ _ _ => ⟨_, rfl, cabRequest_keepsStations ((apart_setPattern ..).keepsStations)⟩
  | .readPattern _ _ => ⟨_, rfl, cabRequest_keepsStations ((apart_readPattern ..).keepsStations)⟩
  | .readAnnouncements _ => ⟨_, rfl, cabRequest_keepsStations ((apart_readAnnouncements ..).keepsStations)⟩
  | .openCall _ _ => ⟨_, rfl, cabRequest_keepsStations ((apart_openCall ..).keepsStations)⟩
  | .answer _ _ => ⟨_, rfl, cabRequest_keepsStations ((apart_answerCall ..).keepsStations)⟩
  | .holdCall _ _ => ⟨_, rfl, cabRequest_keepsStations ((apart_holdCall ..).keepsStations)⟩
  | .resume _ _ => ⟨_, rfl, cabRequest_keepsStations ((apart_resumeCall ..).keepsStations)⟩
  | .endCall _ _ => ⟨_, rfl, cabRequest_keepsStations ((apart_endCall ..).keepsStations)⟩
  | .setListeners _ _ _ => ⟨_, rfl, cabRequest_keepsStations ((apart_setListeners ..).keepsStations)⟩
  | .setCall _ _ _ => ⟨_, rfl, cabRequest_keepsStations ((apart_setCall ..).keepsStations)⟩
  | .setUplinkGain _ _ => ⟨_, rfl, cabRequest_keepsStations ((apart_setUplinkGain ..).keepsStations)⟩
  | .joinCall _ _ _ => ⟨_, rfl, cabRequest_keepsStations ((apart_joinCall ..).keepsStations)⟩
  | .leaveCall _ _ _ => ⟨_, rfl, cabRequest_keepsStations ((apart_leaveCall ..).keepsStations)⟩
  | .readCall _ _ => ⟨_, rfl, cabRequest_keepsStations ((apart_readCall ..).keepsStations)⟩
  | .readRing _ => ⟨_, rfl, takeRequest_keepsStations ((apart_readRing ..).keepsStations)⟩
  | .readNode _ _ => ⟨_, rfl, takeRequest_keepsStations ((apart_readNode ..).keepsStations)⟩
  | .restartNode _ _ => ⟨_, rfl, takeRequest_keepsStations ((apart_restartNode ..).keepsStations)⟩
  | .systemMute _ _ => ⟨_, rfl, takeRequest_keepsStations ((apart_systemMute ..).keepsStations)⟩
  | .expectDip _ => ⟨_, rfl, takeRequest_keepsStations ((apart_expectDip ..).keepsStations)⟩
  | .readEvents _ => ⟨_, rfl, cabRequest_keepsStations ((apart_readEvents ..).keepsStations)⟩
  | .relaySend _ _ => ⟨_, rfl, cabRequest_keepsStations ((apart_relaySend ..).keepsStations)⟩
  | .relayTake _ => ⟨_, rfl, cabRequest_keepsStations ((apart_relayTake ..).keepsStations)⟩
  | .liteReset _ => ⟨_, rfl, takeRequest_keepsStations (liteReset_keepsStations ..)⟩
  | .liteResetEnd => ⟨_, rfl, liteResetEnd_keepsStations ..⟩
  | .powerOnReset => ⟨_, rfl, powerOnReset_keepsStations ..⟩
  | .imageLoadEnd _ => ⟨_, rfl, imageLoadEnd_keepsStations ..⟩
  | .supplySample _ => ⟨_, rfl, supplySample_keepsStations ..⟩
  | .settleTimerExpiry => ⟨_, rfl, (apart_settleTimerExpiry ..).keepsStations⟩
  | .recoverStep => ⟨_, rfl, (apart_recoverStep ..).keepsStations⟩
  | .expectWindowExpiry => ⟨_, rfl, (apart_expectWindowExpiry ..).keepsStations⟩
  | .rampTick => ⟨_, rfl, .onCab (rampCabin_keepsStations ..)⟩
  | .mixSample _ => ⟨_, rfl, mixSample_keepsStations ..⟩
  | .planBuildComplete => ⟨_, rfl, .onCab ((apart_completeBuild ..).keepsStations)⟩
  | .measurement _ _ => ⟨_, rfl, .onCab (measurement_keepsStations ..)⟩
  | .diversityOff _ => ⟨_, rfl, .onCab (diversityOff_keepsStations ..)⟩
  | .diversityTuneComplete => ⟨_, rfl, .onCab ((apart_diversityTuned ..).keepsStations)⟩
  | .retuneComplete _ => ⟨_, rfl, .onCab (retuneComplete_keepsStations ..)⟩
  | .followStart _ => ⟨_, rfl, .onCab (followStart_keepsStations ..)⟩
  | .followProbeComplete _ => ⟨_, rfl, .onCab (followProbeComplete_keepsStations ..)⟩
  | .followWinnerTuned => ⟨_, rfl, .onCab (followWinnerTuned_keepsStations ..)⟩
  | .excursionStart _ => ⟨_, rfl, .onCab (excursionStart_keepsStations ..)⟩
  | .excursionEnd _ _ => ⟨_, rfl, .onCab (excursionEnd_keepsStations ..)⟩
  | .scanMeasurement _ => ⟨_, rfl, .onCab (scanMeasurement_keepsStations ..)⟩
  | .dwellTimeout => ⟨_, rfl, .onCab (dwellEnd_keepsStations ..)⟩
  | .dataGroup _ _ => ⟨_, rfl, .onCab (dataGroup_keepsStations ..)⟩
  | .cadenceTick => ⟨_, rfl, .onCab ((apart_cadenceTick ..).keepsStations)⟩
  | .chimeCompleted _ => ⟨_, rfl, .onCab ((apart_chimeCompleted ..).keepsStations)⟩
  | .navTimeout => ⟨_, rfl, .onCab ((apart_navTimeout ..).keepsStations)⟩
  | .trafficTimeout _ => ⟨_, rfl, .onCab ((apart_trafficTimeout ..).keepsStations)⟩
  | .echoBlockEnd => ⟨_, rfl, .onCab ((apart_endBlock ..).keepsStations)⟩
  | .doubleTalkTimeout => ⟨_, rfl, .onCab ((apart_doubleTalkOut ..).keepsStations)⟩
  | .returnFrame _ => ⟨_, rfl, (apart_returnFrame ..).keepsStations⟩
  | .ringUp => ⟨_, rfl, (apart_ringUp ..).keepsStations⟩
  | .ringDown => ⟨_, rfl, (apart_ringDown ..).keepsStations⟩
  | .nodeLost _ => ⟨_, rfl, (apart_nodeLost ..).keepsStations⟩
  | .discoveryPoll => ⟨_, rfl, (apart_discoveryPoll ..).keepsStations⟩
  | .pollAnswer _ => ⟨_, rfl, (apart_pollAnswer ..).keepsStations⟩
  | .abilityPage _ _ => ⟨_, rfl, (apart_abilityPage ..).keepsStations⟩
  | .pageTimerExpiry _ => ⟨_, rfl, (apart_pageTimerExpiry ..).keepsStations⟩
  | .configPageAnswer _ _ => ⟨_, rfl, (apart_configPageAnswer ..).keepsStations⟩
  | .configTimeout _ => ⟨_, rfl, (apart_configTimeout ..).keepsStations⟩
  | .statusReport _ _ => ⟨_, rfl, (apart_statusReport ..).keepsStations⟩
  | .muteLineChange _ => ⟨_, rfl, (apart_muteLineChange ..).keepsStations⟩
  | .startUp _ _ => ⟨_, rfl, (apart_startUp ..).keepsStations⟩

theorem step_keepsStations {s t : State} (h : step s = .next t) : KeepsStations s.cab t.cab := by
  unfold step at h
  split at h
  · obtain rfl := Host.Outcome.next.inj h
    exact .refl _
  · rename_i i rest _
    obtain ⟨u, hu, hk⟩ := exec_keepsStations i { s with pending := rest }
    rw [hu] at h
    obtain rfl := Host.Outcome.next.inj h
    exact hk

/-- Settles O54: no command of `exec` makes two records alike or puts alternates out of order. -/
theorem everyStepKeepsTheStationTable : Obligations.EveryStepKeepsTheStationTable := fun _ _ h => step_keepsStations h

end Sys2Proof.Machine
end


section
/-! SUPPORT. Requests that touch the slots of the station table alone (04 R57, R79 to R81), and the words of a record
(10 R167). -/

namespace Sys2Proof.Machine

/-- Only station slots and event sets may differ. -/
structure OnlySlots (c d : Cabin) : Prop where
  ports : { d.ports with events := c.ports.events } = c.ports
  dir : d.dir = c.dir
  mix : d.mix = c.mix
  builder : d.builder = c.builder
  alloc : d.alloc = c.alloc
  queue : d.queue = c.queue
  calls : d.calls = c.calls
  table : { d.table with slots := c.table.slots } = c.table

theorem OnlySlots.refl (c : Cabin) : OnlySlots c c := ⟨rfl, rfl, rfl, rfl, rfl, rfl, rfl, rfl⟩

theorem OnlySlots.setStationSlot (i : Fin 40) (v : StationSlot) (c : Cabin) : OnlySlots c (setStationSlot i v c) :=
  ⟨rfl, rfl, rfl, rfl, rfl, rfl, rfl, rfl⟩

theorem OnlySlots.modifyStation (i : Fin 40) (g : Station → Station) (c : Cabin) : OnlySlots c (modifyStation i g c) := by
  unfold Machine.modifyStation
  split
  · exact .refl c
  · exact .setStationSlot ..

theorem post_ports (p : Port) (k : EventKind) (c : Cabin) :
    { (post p k c).ports with events := c.ports.events } = c.ports := by
  unfold post
  split <;> rfl

theorem postBoth_ports (k : EventKind) (c : Cabin) :
    { (postBoth k c).ports with events := c.ports.events } = c.ports :=
  calc { (postBoth k c).ports with events := c.ports.events }
    _ = { { (post .rear k (post .front k c)).ports with events := (post .front k c).ports.events } with
          events := c.ports.events } := rfl
    _ = { (post .front k c).ports with events := c.ports.events } := by rw [post_ports]
    _ = c.ports := post_ports ..

theorem OnlySlots.postBoth {c d : Cabin} (h : OnlySlots c d) (k : EventKind) : OnlySlots c (postBoth k d) where
  ports := calc { (Machine.postBoth k d).ports with events := c.ports.events }
    _ = { { (Machine.postBoth k d).ports with events := d.ports.events } with events := c.ports.events } := rfl
    _ = c.ports := by rw [postBoth_ports, h.ports]
  dir := by simp [h.dir]
  mix := by simp [h.mix]
  builder := by simp [h.builder]
  alloc := by simp [h.alloc]
  queue := by simp [h.queue]
  calls := by simp [h.calls]
  table := by simp [h.table]

theorem createStation_onlySlots (i : Fin 40) (r : Station) (c : Cabin) : OnlySlots c (createStation i r c) :=
  (OnlySlots.setStationSlot ..).postBoth _

theorem keptPorts_respond {s : State} {d : Cabin} (h : { d.ports with events := s.cab.ports.events } = s.cab.ports)
    (p : Port) (r : Result) (ws : List Word) : KeptPorts p s (s.onCab fun _ => respond p r ws d) := by
  have hans : d.ports.response = s.cab.ports.response := (congrArg Ports.response h :)
  exact ⟨(congrArg Ports.part h :), (congrArg Ports.relay h :), (congrArg Ports.liteNumber h :),
    (congrArg Ports.status h :), by simp [State.answer, hans]⟩

theorem createStation_shows {c : Cabin} (h : c.ports.part.posts = true) (i : Fin 40) (r : Station) (p : Port) :
    EventSet.has ((createStation i r c).ports.events.get p) .stations = true := postBoth_shows (by exact h) ..

theorem createStation_eventsKept (i : Fin 40) (r : Station) (c : Cabin) : EventsKept c (createStation i r c) :=
  (postBoth_undisturbed (setStationSlot i _ c) _).events

/-! ## Add Station (04 R80) -/

theorem band_chan_max (b : Band) : (lastChan b : Int) = if b = .fm then 410 else 119 := by cases b <;> rfl

theorem addStation_eq {p : Port} {band : Nat} {b : Band} {channel : Int} {f : Freq} (hb : band? band = some b)
    (hband : f.band = b) (hchan : (f.chan : Int) = max 0 (min (if b = .fm then 410 else 119) channel)) (c : Cabin) :
    addStation p band channel c = addStationAt p f (decide ((f.chan : Int) ≠ channel)) c := by
  rw [← band_chan_max, ← limit_toNat] at hchan
  have hf : f = ⟨b, (limit 0 (lastChan b) channel).toNat⟩ := by
    cases f
    simp only [Freq.mk.injEq]
    exact ⟨hband, Int.ofNat.inj hchan⟩
  have hclamped : limited 0 (lastChan b) channel = decide ((f.chan : Int) ≠ channel) := by
    rw [Bool.eq_iff_iff, ← not_iff_not, Bool.not_eq_true, limited_eq_false_iff (by omega), hchan, limit_toNat]
    simp only [ne_eq, decide_not, Bool.not_eq_eq_eq_not, Bool.not_true, decide_eq_false_iff_not, Decidable.not_not]
    omega
  simp only [addStation, hb, hclamped, ← hf]

theorem doneOr_ne (n m : Int) : doneOr (decide (n ≠ m)) = if n = m then .done else .clamped := by
  by_cases h : n = m <;> simp [doneOr, h]

theorem firstIdx_le {n : Nat} {p : Fin n → Bool} {i j : Fin n} (h : firstIdx p = some i) (hj : p j = true) : i ≤ j := by
  unfold firstIdx at h
  obtain ⟨_, k, hk, rfl, hlow⟩ := List.find?_eq_some_iff_getElem.mp h
  by_contra hlt
  have hjk : j.val < k := by simpa [Fin.lt_def] using hlt
  simpa [hj] using hlow j.val hjk

theorem freeStationSlot_le {c : Cabin} {i j : Fin 40} (h : freeStationSlot c = some i)
    (hj : (c.stationSlot j).record = none) : i ≤ j := firstIdx_le h (decide_eq_true hj)

theorem held_iff {c : Cabin} {i : Fin 40} {r : Station} (hr : (c.stationSlot i).record = some r) : held c i = true ↔
    0 < r.refs ∨ r.kept.front = true ∨ r.kept.rear = true ∨ r.watched = true ∨
      (c.chan .pc0).station = some (c.stationId i) ∨ (c.chan .pc1).station = some (c.stationId i) := by
  have hcar : carried c (c.stationId i) = true ↔
      (c.chan .pc0).station = some (c.stationId i) ∨ (c.chan .pc1).station = some (c.stationId i) := by
    unfold carried chanOf
    split
    · simp [*]
    · split <;> simp [*]
  simp [held, hr, hcar, or_assoc]

/-! ## Retire Station (04 R81) -/

section

variable (i : Fin 40) (c : Cabin)

/-- But for the traffic-ignored set, a record retired changes its slot alone. -/
theorem retireStationAt_onlySlots : OnlySlots (unignoreStation (c.stationId i) c) (retireStationAt i c) :=
  (OnlySlots.setStationSlot ..).postBoth _

theorem mem_retireStationAt_ignored (g : StationId) :
    g ∈ (retireStationAt i c).queue.ignored ↔ g ∈ c.queue.ignored ∧ g ≠ c.stationId i := by
  rw [(retireStationAt_onlySlots i c).queue]
  simp [unignoreStation]

theorem retireStationAt_queue : { (retireStationAt i c).queue with ignored := c.queue.ignored } = c.queue := by
  rw [(retireStationAt_onlySlots i c).queue]
  rfl

theorem retireStationAt_eventsKept : EventsKept c (retireStationAt i c) :=
  (postBoth_undisturbed (retireStationSlot i c) .stations).events

theorem retireStationAt_shows {c : Cabin} (h : c.ports.part.posts = true) (i : Fin 40) (p : Port) :
    EventSet.has ((retireStationAt i c).ports.events.get p) .stations = true := postBoth_shows (by exact h) ..

end

/-- Settles O25. -/
theorem addAndRetireStation : Obligations.AddAndRetireStation := by
  refine ⟨fun p band b channel f s hrun hb hband hchan => ⟨fun i hi => exec_cabRequest hrun rfl ?_,
    fun hnone hfull => exec_cabRequest hrun rfl ?_, fun i hnone hfree => ?_⟩, fun h i r s hrun hslot hr =>
    ⟨fun hheld => exec_cabRequest hrun rfl ?_, fun hheld => ?_⟩⟩
  · rw [addStation_eq hb hband hchan, addStationAt, hi, doneOr_ne]
    rfl
  · rw [addStation_eq hb hband hchan, addStationAt, hnone, hfull]
    rfl
  · have hposts : s.cab.ports.part.posts = true := running_posts hrun
    refine ⟨_, newStation f 0 .listed .added none, exec_cabRequest (f := fun _ => respond p _ _ (createStation i _ s.cab)) hrun rfl
      (by rw [addStation_eq hb hband hchan, addStationAt, hnone, hfree]), ?_⟩
    have hslots := createStation_slots i (newStation f 0 .listed .added none) s.cab
    have honly := createStation_onlySlots i (newStation f 0 .listed .added none) s.cab
    have hshows := createStation_shows hposts i (newStation f 0 .listed .added none)
    have hkept := createStation_eventsKept i (newStation f 0 .listed .added none) s.cab
    generalize createStation i (newStation f 0 .listed .added none) s.cab = d at *
    exact ⟨by rw [onCab_const_answer, doneOr_ne]; rfl, (hslots i).trans (if_pos rfl), rfl, rfl, rfl, rfl, rfl,
      fun n => by simp [newStation], rfl, rfl, rfl, rfl, rfl, rfl, rfl, fun q => by cases q <;> rfl, rfl, rfl,
      hshows .front, hshows .rear, fun j => freeStationSlot_le hfree, fun j hj => (hslots j).trans (if_neg hj),
      keptPorts_respond honly.ports .., hkept, ⟨rfl, rfl, rfl, rfl⟩, honly.dir, honly.mix, honly.builder, honly.alloc,
      honly.queue, honly.calls, honly.table⟩
  · rw [← held_iff (stationOf_isSome hr)] at hheld
    simp only [retireStation, hslot, hr, hheld, reduceCtorEq, if_false, if_true]
    rfl
  · have hposts : s.cab.ports.part.posts = true := running_posts hrun
    rw [← held_iff (stationOf_isSome hr)] at hheld
    refine ⟨_, exec_cabRequest (f := fun _ => respond .front .done [] (retireStationAt i s.cab)) hrun rfl
      (by simp [retireStation, hslot, hr, hheld]), onCab_const_answer .., ?_⟩
    have hslots (j) : (retireStationAt i s.cab).stationSlot j = _ :=
      (stationSlot_of_slots (by simp [retireStationAt]) j).trans (retireStationSlot_stationSlot s.cab i j)
    have honly := retireStationAt_onlySlots i s.cab
    have hmem (g) := mem_retireStationAt_ignored i s.cab g
    have hqueue := retireStationAt_queue i s.cab
    have hshows := retireStationAt_shows hposts i
    have hkept := retireStationAt_eventsKept i s.cab
    generalize retireStationAt i s.cab = d at *
    exact ⟨(hslots i).trans (if_pos rfl), fun j hj => (hslots j).trans (if_neg hj), hshows .front, hshows .rear, hmem,
      hqueue, keptPorts_respond honly.ports .., hkept, ⟨rfl, rfl, rfl, rfl⟩, honly.dir, honly.mix, honly.builder,
      honly.alloc, honly.calls, honly.table⟩

end Sys2Proof.Machine
end


section
/-! SUPPORT. The walk of the station table (04 R83). -/

namespace Sys2Proof.Machine

/-- The order of the walk. -/
def WalkOrder (a b : Fin 40 × Station) : Prop := freqRank a.2.freq ≤ freqRank b.2.freq

/-- What a slot contributes to a walk from the cursor. -/
def walked (cur : Option Freq) (c : Cabin) (i : Fin 40) : Option (Fin 40 × Station) :=
  ((c.stationSlot i).record.filter (afterCursor cur ·.freq)).map (i, ·)

theorem insertByFreq_perm (x : Fin 40 × Station) (l : List (Fin 40 × Station)) : (insertByFreq x l).Perm (x :: l) := by
  induction l with
  | nil => exact .refl _
  | cons y l ih =>
    unfold insertByFreq
    split
    · exact .refl _
    · exact (ih.cons y).trans (.swap x y l)

theorem insertByFreq_ordered (x : Fin 40 × Station) {l : List (Fin 40 × Station)} (h : l.Pairwise WalkOrder) :
    (insertByFreq x l).Pairwise WalkOrder := by
  induction h with
  | nil => exact List.pairwise_singleton ..
  | @cons y l hy hl ih =>
    unfold insertByFreq
    split
    · rename_i hxy
      refine .cons (fun z hz => ?_) (.cons hy hl)
      rcases List.mem_cons.mp hz with rfl | hz
      · exact hxy.le
      · exact hxy.le.trans (hy z hz)
    · rename_i hxy
      refine .cons (fun z hz => ?_) ih
      rcases List.mem_cons.mp ((insertByFreq_perm x l).mem_iff.mp hz) with rfl | hz
      · exact not_lt.mp hxy
      · exact hy z hz

/-- One slot of the walk. -/
def walkStep (cur : Option Freq) (c : Cabin) (l : List (Fin 40 × Station)) (i : Fin 40) : List (Fin 40 × Station) :=
  (walked cur c i).elim l fun x => insertByFreq x l

theorem walkFrom_eq (cur : Option Freq) (c : Cabin) : walkFrom cur c = (List.finRange 40).foldl (walkStep cur c) [] := by
  unfold walkFrom
  congr 1
  funext l i
  unfold walkStep walked
  cases (c.stationSlot i).record with
  | none => rfl
  | some r => by_cases h : afterCursor cur r.freq = true <;> simp [h, Option.filter]

theorem walkSteps_perm_ordered (cur : Option Freq) (c : Cabin) (is : List (Fin 40)) {l : List (Fin 40 × Station)}
    (h : l.Pairwise WalkOrder) : (is.foldl (walkStep cur c) l).Perm (is.filterMap (walked cur c) ++ l) ∧
      (is.foldl (walkStep cur c) l).Pairwise WalkOrder := by
  induction is generalizing l with
  | nil => exact ⟨.refl _, h⟩
  | cons i is ih =>
    rw [List.foldl_cons, List.filterMap_cons, walkStep]
    cases walked cur c i with
    | none => exact ih h
    | some x =>
      obtain ⟨hperm, hord⟩ := ih (insertByFreq_ordered x h)
      exact ⟨hperm.trans (((insertByFreq_perm x l).append_left _).trans List.perm_middle), hord⟩

theorem walkFrom_perm (cur : Option Freq) (c : Cabin) :
    (walkFrom cur c).Perm ((List.finRange 40).filterMap (walked cur c)) := by
  rw [walkFrom_eq]
  exact (walkSteps_perm_ordered cur c _ .nil).1.trans (by rw [List.append_nil])

theorem walkFrom_ordered (cur : Option Freq) (c : Cabin) : (walkFrom cur c).Pairwise WalkOrder := by
  rw [walkFrom_eq]
  exact (walkSteps_perm_ordered cur c _ .nil).2

theorem walked_eq_some {cur : Option Freq} {c : Cabin} {i : Fin 40} {x : Fin 40 × Station} :
    walked cur c i = some x ↔
      i = x.1 ∧ (c.stationSlot i).record = some x.2 ∧ afterCursor cur x.2.freq = true := by
  obtain ⟨j, r⟩ := x
  simp only [walked, Option.map_eq_some_iff, Option.filter_eq_some_iff, Prod.mk.injEq]
  constructor
  · rintro ⟨_, ⟨hr, ha⟩, rfl, rfl⟩
    exact ⟨rfl, hr, ha⟩
  · rintro ⟨rfl, hr, ha⟩
    exact ⟨r, ⟨hr, ha⟩, rfl, rfl⟩

theorem mem_walkFrom {cur : Option Freq} {c : Cabin} {x : Fin 40 × Station} :
    x ∈ walkFrom cur c ↔ (c.stationSlot x.1).record = some x.2 ∧ afterCursor cur x.2.freq = true := by
  rw [(walkFrom_perm cur c).mem_iff, List.mem_filterMap]
  simp [walked_eq_some]

theorem walkFrom_distinct (cur : Option Freq) (c : Cabin) : (walkFrom cur c).Pairwise fun a b => a.1 ≠ b.1 := by
  refine ((walkFrom_perm cur c).pairwise_iff (fun h => h.symm)).mpr (List.pairwise_filterMap.mpr ?_)
  refine (List.nodup_finRange 40).imp fun hne a ha b hb => ?_
  rwa [← (walked_eq_some.mp ha).1, ← (walked_eq_some.mp hb).1]

theorem walkFrom_length (cur : Option Freq) (c : Cabin) : (walkFrom cur c).length =
    countIdx fun i : Fin 40 => (c.stationSlot i).record.any (afterCursor cur ·.freq) := by
  rw [(walkFrom_perm cur c).length_eq, List.length_filterMap_eq_countP, countIdx]
  congr 1
  funext i
  unfold walked
  cases (c.stationSlot i).record with
  | none => rfl
  | some r => by_cases h : afterCursor cur r.freq = true <;> simp [h]

/-- What a walk leaves behind does not come before what it returns. -/
theorem walkFrom_take_le {cur : Option Freq} {c : Cabin} {n : Nat} {x y : Fin 40 × Station}
    (hx : x ∈ (walkFrom cur c).take n) (hy : y ∈ walkFrom cur c) (hleft : y ∉ (walkFrom cur c).take n) :
    freqRank x.2.freq ≤ freqRank y.2.freq := by
  have hord := walkFrom_ordered cur c
  rw [← List.take_append_drop n (walkFrom cur c)] at hord hy
  exact (List.pairwise_append.mp hord).2.2 x hx y ((List.mem_append.mp hy).resolve_left hleft)

theorem limit_one_toNat (hi v : Int) : ((limit 1 hi v).toNat : Int) = max 1 (min hi v) :=
  Int.toNat_of_nonneg (le_trans (by decide) (le_max_left 1 _))

theorem limited_eq_ne (lo hi v : Int) (n : Nat) (h : (n : Int) = limit lo hi v) :
    limited lo hi v = decide ((n : Int) ≠ v) := by rw [h]; rfl

/-- Settles O26. -/
theorem walkStationsReturnsTheNextRecords : Obligations.WalkStationsReturnsTheNextRecords := by
  intro p count mode fromStart s hrun hmode
  have hn := limit_one_toNat 4 count
  refine ⟨_, (walkFrom (if fromStart then none else s.cab.table.cursor.get p) s.cab).take (limit 1 4 count).toNat, _, _,
    exec_cabRequest (f := walkAt p _ _ _) hrun rfl (by rw [walkStations, hmode]), hn, rfl, ?_⟩
  rw [limited_eq_ne 1 4 count _ hn]
  generalize (limit 1 4 count).toNat = n
  generalize (if fromStart then none else s.cab.table.cursor.get p) = start
  refine ⟨?_, ?_, fun x hx => mem_walkFrom.mp (List.mem_of_mem_take hx), ?_, fun x hx i r hr hout => ?_, ?_, ?_, rfl, rfl,
    ⟨rfl, rfl, rfl, rfl, ?_⟩, ⟨rfl, rfl, rfl, rfl⟩, rfl, rfl, rfl, rfl, rfl, rfl⟩
  · rw [← doneOr_ne]
    simp [State.answer, walkAt]
  · exact ((walkFrom_ordered ..).and (walkFrom_distinct ..)).sublist (List.take_sublist ..)
  · rw [List.length_take, walkFrom_length]
  · exact walkFrom_take_le hx (mem_walkFrom.mpr ⟨hr, hout.1⟩) hout.2
  · simp [walkAt, setCursor, cursorAfter]
  · simp [walkAt, setCursor]
  · simp [State.answer, walkAt, setCursor]

end Sys2Proof.Machine
end


section
/-! SUPPORT. Keep, Unkeep and Set Traffic Watch (04 R79, R82), and the words of a station record (10 R167). -/

namespace Sys2Proof.Machine

/-! ## The watch station -/

/-- Set or clear the mark of a watch station. -/
def markWatch (w : Option Watch) (v : Bool) (c : Cabin) : Cabin :=
  match w with
  | none => c
  | some n => modifyLive n.station (fun r => { r with watched := v }) c

def withWatch (w : Option Watch) (c : Cabin) : Cabin := { c with table := { c.table with watch := w } }

theorem putWatch_eq (w : Option Watch) (c : Cabin) :
    putWatch w c = withWatch w (markWatch w true (markWatch c.table.watch false c)) := by
  cases w <;> cases hw : c.table.watch <;> simp only [putWatch, hw, markWatch, withWatch] <;> rfl

theorem markWatch_only (w : Option Watch) (v : Bool) (c : Cabin) : OnlyRecords c (markWatch w v c) := by
  cases w with
  | none => exact .refl c
  | some n => exact modifyLive_only ..

theorem markWatch_stationSlot (w : Option Watch) (v : Bool) (c : Cabin) (i : Fin 40) :
    (markWatch w v c).stationSlot i = ⟨(c.stationSlot i).gen, (c.stationSlot i).record.map fun r =>
      { r with watched := if w.map (·.station) = some (c.stationId i) then v else r.watched }⟩ := by
  cases w with
  | none => simp [markWatch]
  | some n =>
    rw [markWatch, modifyLive_stationSlot]
    by_cases h : n.station = c.stationId i <;> simp [h]

theorem OnlyRecords.withWatch {c d : Cabin} (h : OnlyRecords c d) (w : Option Watch) :
    OnlyRecords (withWatch w c) (withWatch w d) where
  ports := h.ports
  mix := h.mix
  alloc := h.alloc
  queue := h.queue
  calls := h.calls
  table := by
    simp only [Machine.withWatch]
    rw [h.table]
  builder := h.builder

theorem putWatch_only (w : Option Watch) (c : Cabin) : OnlyRecords (withWatch w c) (putWatch w c) := by
  rw [putWatch_eq]
  exact ((markWatch_only ..).trans (markWatch_only ..)).withWatch w

/-- The watched field of the record of `h` once `w` has taken the place of `old`. -/
def watchedAfter (old w : Option Watch) (h : StationId) (b : Bool) : Bool :=
  if w.map (·.station) = some h then true else if old.map (·.station) = some h then false else b

theorem putWatch_stationSlot (w : Option Watch) (c : Cabin) (i : Fin 40) :
    (putWatch w c).stationSlot i = ⟨(c.stationSlot i).gen, (c.stationSlot i).record.map fun r =>
      { r with watched := watchedAfter c.table.watch w (c.stationId i) r.watched }⟩ := by
  have hold := markWatch_stationSlot c.table.watch false c i
  rw [putWatch_eq]
  refine (markWatch_stationSlot w true _ i).trans ?_
  rw [stationId_of_gen (c := c) (by rw [hold]), hold, Option.map_map]
  rfl

theorem putWatch_noDeferrals {c : Cabin} (h : NoDeferrals c) (w : Option Watch) : NoDeferrals (putWatch w c) :=
  h.of_deferred fun i => by
    rw [putWatch_stationSlot, Option.map_map]
    rfl

theorem putWatch_dir (w : Option Watch) (c : Cabin) : (putWatch w c).dir = c.dir := by
  have hmark : ∀ w v d, (markWatch w v d).dir = d.dir := fun w v d => by
    cases w with
    | none => rfl
    | some n => exact modifyLive_dir ..
  rw [putWatch_eq, withWatch, hmark, hmark]

theorem changeWatch_followsUp {c : Cabin} (h : NoDeferrals c) (w : Option Watch) :
    FollowsUp (putWatch w c) (changeWatch w c) ∧
    (c.table.watch.map (·.station) ≠ w.map (·.station) → RaisesIn (putWatch w c) (changeWatch w c)) := by
  unfold changeWatch
  split
  · rename_i hsame
    exact ⟨settleDirectory_followsUp (putWatch_noDeferrals h w), fun hne => absurd hsame hne⟩
  · obtain ⟨hf, hr⟩ := settleInputs_followsUp (putWatch_noDeferrals h w)
    exact ⟨hf, fun _ => hr⟩

/-- The watch that Set Traffic Watch makes of its arguments (04 R82). -/
def askedWatch (h : Option Handle) (i : Fin 40) (priority : Int) (c : Cabin) : Option Watch :=
  h.map fun _ => ⟨c.stationId i, watchPriority priority⟩

theorem stationId_inj {c : Cabin} {i j : Fin 40} : c.stationId i = c.stationId j ↔ i = j :=
  ⟨congrArg StationId.slot, congrArg _⟩

theorem askedStation_iff {h : Option Handle} {c : Cabin} {i j : Fin 40} :
    h.map (fun _ => c.stationId i) = some (c.stationId j) ↔ h ≠ none ∧ j = i := by
  cases h <;> simp [stationId_inj, eq_comm]

theorem exec_setTrafficWatch {h : Option Handle} {i : Fin 40} {priority : Int} {s : State} (hrun : s.Running)
    (hh : ∀ a, h = some a → finOf? 40 a.slot = some i ∧ (stationOf s.cab i a).isSome = true) :
    exec (.setTrafficWatch .front h priority) s = .next (s.onCab fun _ =>
      respond .front (doneOr (limited 0 7 priority)) [] (changeWatch (askedWatch h i priority s.cab) s.cab)) := by
  refine exec_cabRequest hrun rfl ?_
  cases h with
  | none => rfl
  | some a =>
    obtain ⟨hslot, hlive⟩ := hh a rfl
    obtain ⟨r, hr⟩ := Option.isSome_iff_exists.mp hlive
    simp [setTrafficWatch, hslot, hr, askedWatch]

theorem doneOr_limited {lo hi v : Int} (h : lo ≤ hi) :
    doneOr (limited lo hi v) = if lo ≤ v ∧ v ≤ hi then .done else .clamped := by
  by_cases hv : lo ≤ v ∧ v ≤ hi
  · rw [(limited_eq_false_iff h).mpr hv, if_pos hv]
    rfl
  · rw [Bool.eq_true_of_not_eq_false (mt (limited_eq_false_iff h).mp hv), if_neg hv]
    rfl

/-! ## The words of a record -/

theorem alternateWords_eq (n : Nat) (l : List Alternate) : alternateWords n l =
    (List.range n).flatMap fun k => match l[k]? with
      | none => [65535, 65535]
      | some a => [BitVec.ofNat 16 a.chan, (a.quality.map (BitVec.ofNat 16)).getD 65535] := by
  induction n generalizing l with
  | zero => cases l <;> rfl
  | succ n ih =>
    rw [List.range_succ_eq_map, List.flatMap_cons, List.flatMap_map]
    cases l with
    | nil =>
      rw [alternateWords, ih]
      rfl
    | cons a l =>
      rw [alternateWords, ih]
      obtain ⟨ch, q⟩ := a
      cases q <;> rfl

theorem segmentWord_eq (v : Option Segment) : segmentWord v =
    match v with | none => 0 | some (a, b) => BitVec.ofNat 16 (a.toNat * 256 + b.toNat) := by
  cases v with
  | none => rfl
  | some v =>
    obtain ⟨a, b⟩ := v
    apply BitVec.eq_of_toNat_eq
    have ha := a.isLt
    have hb := b.isLt
    simp only [segmentWord, BitVec.toNat_append, BitVec.toNat_ofNat, Nat.shiftLeft_eq]
    rw [← Nat.shiftLeft_eq, ← Nat.shiftLeft_add_eq_or_of_lt hb, Nat.shiftLeft_eq]
    omega

theorem carried_stationId (c : Cabin) (h : StationId) :
    carried c h = decide ((c.chan .pc0).station = some h ∨ (c.chan .pc1).station = some h) := by
  unfold carried chanOf
  split
  · simp [*]
  · split <;> simp [*]

theorem bitsWord_twelve (b0 b1 b2 b3 b4 b5 b6 b7 b8 b9 b10 b11 : Bool) :
    bitsWord [b0, b1, b2, b3, b4, b5, b6, b7, b8, b9, b10, b11] =
    BitVec.ofNat 16 (b0.toNat + 2 * b1.toNat + 4 * b2.toNat + 8 * b3.toNat + 16 * b4.toNat + 32 * b5.toNat +
      64 * b6.toNat + 128 * b7.toNat + 256 * b8.toNat + 512 * b9.toNat + 1024 * b10.toNat + 2048 * b11.toNat) := by
  refine congrArg (BitVec.ofNat 16) ?_
  simp only [packBits_cons, packBits_nil]
  omega

theorem stationWords_spelled (c : Cabin) (i : Fin 40) (r : Station) (hr : (c.stationSlot i).record = some r) :
    let carries : Bool := decide ((c.chan .pc0).station = some (c.stationId i) ∨
      (c.chan .pc1).station = some (c.stationId i))
    let flag (b : Option Bool) : Nat := match b with | some true => 1 | some false => 0 | none => 2
    stationWords c i r = [
      BitVec.ofNat 16 ((c.stationSlot i).gen.val * 4096 + i.val),
      (match r.state with | .candidate => 0 | .listed => 1 | .lost => 2),
      (match r.freq.band with | .fm => 0 | .mw => 1), BitVec.ofNat 16 r.freq.chan, BitVec.ofNat 16 r.quality,
      BitVec.ofNat 16 (r.identity.getD 0), BitVec.ofNat 16 (r.deferred.getD 0)] ++
    ((List.finRange 4).map fun k => match r.name.get k with
      | none => 0 | some (a, b) => BitVec.ofNat 16 (a.toNat * 256 + b.toNat)) ++
    [BitVec.ofNat 16 (flag r.tp + 4 * flag r.ta), BitVec.ofNat 16 r.alternates.length] ++
    ((List.range 6).flatMap fun k => match r.alternates[k]? with
      | none => [65535, 65535]
      | some a => [BitVec.ofNat 16 a.chan, (a.quality.map (BitVec.ofNat 16)).getD 65535]) ++
    [BitVec.ofNat 16 r.miss,
     BitVec.ofNat 16 (r.received.toNat + 2 * r.isNew.toNat + 4 * r.kept.front.toNat + 8 * r.kept.rear.toNat +
      16 * r.watched.toNat + 32 * (decide (r.origin = .added)).toNat +
      64 * (decide (0 < r.refs) || r.kept.front || r.kept.rear || r.watched || carries).toNat + 128 * carries.toNat +
      256 * (r.name.get 0).isSome.toNat + 512 * (r.name.get 1).isSome.toNat + 1024 * (r.name.get 2).isSome.toNat +
      2048 * (r.name.get 3).isSome.toNat),
     BitVec.ofNat 16 r.refs] := by
  intro carries flag
  have hcar : carried c (c.stationId i) = carries := carried_stationId c _
  have hflag : ∀ b, triState b = flag b := fun b => by rcases b with _ | _ | _ <;> rfl
  have hstate : BitVec.ofNat 16 r.state.num = match r.state with | .candidate => 0 | .listed => 1 | .lost => 2 := by
    cases r.state <;> rfl
  have hband : BitVec.ofNat 16 r.freq.band.num = match r.freq.band with | .fm => 0 | .mw => 1 := by cases r.freq.band <;> rfl
  have hfin : List.finRange 4 = [0, 1, 2, 3] := rfl
  simp only [stationWords, hstate, hband, alternateWords_eq, segmentWord_eq, hflag, held, hr, hcar, bitsWord_twelve, stationWord,
    handleWord, Nat.zero_mul, Nat.add_zero, natWord, hfin, List.map_cons, List.map_nil, List.cons_append, List.nil_append]
  rfl

/-! ## Settling O24 -/

theorem exec_keepStation {p : Port} {h : Handle} {i : Fin 40} {r : Station} {s : State} (hrun : s.Running)
    (hslot : finOf? 40 h.slot = some i) (hr : stationOf s.cab i h = some r) (keep : Bool) :
    exec (if keep then .keep p h else .unkeep p h) s = .next (s.onCab fun _ => respond p .done [] (setKept p i keep s.cab)) := by
  cases keep <;> exact exec_cabRequest hrun rfl (by simp [keepStation, hslot, hr])

/-- Settles O24. -/
theorem keepUnkeepAndTrafficWatch : Obligations.KeepUnkeepAndTrafficWatch := by
  refine ⟨fun p h i r s hrun hslot hr => ⟨exec_cabRequest hrun rfl (by simp [readStation, hslot, hr]), fun keep => ?_⟩,
    fun h i priority s hrun hdef hh => ?_, fun c i r hr => stationWords_spelled c i r hr⟩
  · have hslots := modifyStation_stationSlot s.cab i
    have honly := OnlySlots.modifyStation i (fun r => { r with kept := r.kept.set p keep }) s.cab
    refine ⟨_, { r with kept := r.kept.set p keep }, exec_keepStation hrun hslot hr keep, ?_, by simp, by simp, rfl,
      fun j hj => ?_, onCab_const_answer .., ?_, keptPorts_respond honly.ports .., ⟨rfl, rfl, rfl, rfl⟩, honly.dir, honly.mix,
      honly.builder, honly.alloc, honly.queue, honly.calls, honly.table⟩
    · exact (hslots i _).trans (by simp [stationOf_isSome hr])
    · exact (hslots j _).trans (by simp [hj])
    · simp [setKept]
  · have hexec := exec_setTrafficWatch (priority := priority) hrun hh
    have hstation : (askedWatch h i priority s.cab).map (·.station) = h.map fun _ => s.cab.stationId i := by
      cases h <;> rfl
    have hpriority : ∀ w, askedWatch h i priority s.cab = some w → (w.priority : Int) = max 0 (min 7 priority) := by
      intro w hw
      obtain ⟨_, _, rfl⟩ := Option.map_eq_some_iff.mp hw
      exact limit_toNat 7 priority
    have hnone : h = none → askedWatch h i priority s.cab = none := fun e => by rw [e]; rfl
    generalize askedWatch h i priority s.cab = w at *
    obtain ⟨hf, hraise⟩ := changeWatch_followsUp hdef w
    have hc : RecordsChange (withWatch w s.cab) (putWatch w s.cab) := (putWatch_only w s.cab).change
    have hslots := putWatch_stationSlot w s.cab
    have hdir := putWatch_dir w s.cab
    have hwatch : (changeWatch w s.cab).table.watch = w := hf.watch.trans hc.watch
    have hslot (j) : (changeWatch w s.cab).stationSlot j = _ := (stationSlot_of_slots hf.slots j).trans (hslots j)
    generalize changeWatch w s.cab = e at *
    generalize putWatch w s.cab = d at *
    refine ⟨_, hexec, by rw [onCab_const_answer, doneOr_limited (by decide)], fun hn => hwatch.trans (hnone hn), fun hn => ?_,
      fun j r hr => (hslot j).trans ?_, fun j hj => (hslot j).trans ?_, hf.zones.trans (by rw [hdir]),
      fun l k => hf.route_other (route_of_lists (by rw [hdir]) l k), hf.rearControl.trans (by rw [hdir]), hf.media.trans (by rw [hdir]), hf.cursor.trans hc.cursor,
      keptAround_of_followsUp (s := { s with cab := withWatch w s.cab }) hc hf ..,
      carriesTheWinners_of_followsUp (s := { s with cab := withWatch w s.cab }) hrun hc hf .., fun hne hfit => ?_⟩
    · obtain ⟨a, rfl⟩ := Option.ne_none_iff_exists'.mp hn
      obtain ⟨w, rfl⟩ : ∃ v, w = some v := by cases w <;> simp at hstation ⊢
      exact ⟨w, hwatch, by simpa using hstation, hpriority w rfl⟩
    · simp only [hr, Option.map_some, watchedAfter, hstation, askedStation_iff]
    · rw [hj, Option.map_none, ← hj]
    · exact raisesBulletins_of_followsUp (s := { s with cab := withWatch w s.cab }) hc _ _ _ (hraise (by rwa [← hwatch])) hfit

end Sys2Proof.Machine
end


section
/-! SUPPORT. What the scan makes of the station table (04 R64, R68, R69). -/

namespace Sys2Proof.Machine

/-! ## The frame of the scan -/

/-- What the scan leaves alone: all but the station table, the tuners' tuning, the event sets and the traffic-ignored
set. -/
structure ScanFrame (c d : Cabin) : Prop where
  dir : d.dir = c.dir
  mix : d.mix = c.mix
  builder : d.builder = c.builder
  chans : d.alloc.chans = c.alloc.chans
  slots : d.queue.slots = c.queue.slots
  calls : d.calls = c.calls
  part : d.ports.part = c.ports.part
  events : EventsKept c d

theorem ScanFrame.refl (c : Cabin) : ScanFrame c c := ⟨rfl, rfl, rfl, rfl, rfl, rfl, rfl, fun _ _ h => h⟩

theorem ScanFrame.trans {c d e : Cabin} (h : ScanFrame c d) (g : ScanFrame d e) : ScanFrame c e where
  dir := g.dir.trans h.dir
  mix := g.mix.trans h.mix
  builder := g.builder.trans h.builder
  chans := g.chans.trans h.chans
  slots := g.slots.trans h.slots
  calls := g.calls.trans h.calls
  part := g.part.trans h.part
  events p k hk := g.events p k (h.events p k hk)

theorem ScanFrame.postBoth {c d : Cabin} (h : ScanFrame c d) (k : EventKind) : ScanFrame c (postBoth k d) :=
  h.trans ⟨by simp, by simp, by simp, by simp, by simp, by simp, by simp, (postBoth_undisturbed d k).events⟩

theorem retireStationSlot_scanFrame (i : Fin 40) (c : Cabin) : ScanFrame c (retireStationSlot i c) :=
  ⟨rfl, rfl, rfl, rfl, rfl, rfl, rfl, fun _ _ h => h⟩

theorem setStationSlot_scanFrame (i : Fin 40) (v : StationSlot) (c : Cabin) : ScanFrame c (setStationSlot i v c) :=
  ⟨rfl, rfl, rfl, rfl, rfl, rfl, rfl, fun _ _ h => h⟩

theorem createStation_scanFrame (i : Fin 40) (r : Station) (c : Cabin) : ScanFrame c (createStation i r c) :=
  (setStationSlot_scanFrame i _ c).postBoth _

theorem modifyStation_scanFrame (i : Fin 40) (g : Station → Station) (c : Cabin) : ScanFrame c (modifyStation i g c) := by
  unfold modifyStation
  split
  · exact .refl c
  · exact ⟨rfl, rfl, rfl, rfl, rfl, rfl, rfl, fun _ _ h => h⟩

/-- A record has come, has gone or has given way to another. -/
def SlotsTurned (c d : Cabin) : Prop := ∃ i, (d.stationSlot i).gen ≠ (c.stationSlot i).gen ∨
  (d.stationSlot i).record.isSome ≠ (c.stationSlot i).record.isSome

/-- STATIONS is present at both ports. -/
def ShowsStations (c : Cabin) : Prop := ∀ p, EventSet.has (c.ports.events.get p) .stations = true

/-- What the scan leaves alone, and where a record comes or goes STATIONS is posted (04 R84). -/
structure ScanKeeps (c d : Cabin) : Prop where
  frame : ScanFrame c d
  announced : c.ports.part.posts = true → SlotsTurned c d → ShowsStations d

theorem ScanKeeps.of_kept {c d : Cabin} (h : ScanFrame c d) (hs : ∀ i, (d.stationSlot i).gen = (c.stationSlot i).gen ∧
    (d.stationSlot i).record.isSome = (c.stationSlot i).record.isSome) : ScanKeeps c d :=
  ⟨h, fun _ ⟨i, hi⟩ => (hi.elim (· (hs i).1) (· (hs i).2)).elim⟩

theorem ScanKeeps.of_shows {c d : Cabin} (h : ScanFrame c d) (hs : c.ports.part.posts = true → ShowsStations d) :
    ScanKeeps c d := ⟨h, fun hp _ => hs hp⟩

theorem ScanKeeps.refl (c : Cabin) : ScanKeeps c c := .of_kept (.refl c) fun _ => ⟨rfl, rfl⟩

theorem ScanKeeps.trans {c d e : Cabin} (h : ScanKeeps c d) (g : ScanKeeps d e) : ScanKeeps c e where
  frame := h.frame.trans g.frame
  announced hp ht := by
    have hp' : d.ports.part.posts = true := by rwa [h.frame.part]
    by_cases hcd : SlotsTurned c d
    · exact fun p => g.frame.events p _ (h.announced hp hcd p)
    · refine g.announced hp' ?_
      obtain ⟨i, hi⟩ := ht
      simp only [SlotsTurned, not_exists, not_or, Decidable.not_not] at hcd
      exact ⟨i, by rwa [(hcd i).1, (hcd i).2]⟩

theorem modifyStation_scanKeeps (i : Fin 40) (g : Station → Station) (c : Cabin) : ScanKeeps c (modifyStation i g c) :=
  .of_kept (modifyStation_scanFrame i g c) fun j => by
    rw [modifyStation_stationSlot]
    split
    · next h => subst h; simp
    · exact ⟨rfl, rfl⟩

theorem createStation_scanKeeps (i : Fin 40) (r : Station) (c : Cabin) : ScanKeeps c (createStation i r c) :=
  .of_shows (createStation_scanFrame i r c) fun h p => createStation_shows h i r p

/-- A change of the table's own fields. -/
theorem ScanKeeps.of_table {c : Cabin} (t : StationTable) (h : t.slots = c.table.slots) : ScanKeeps c { c with table := t } :=
  .of_kept ⟨rfl, rfl, rfl, rfl, rfl, rfl, rfl, fun _ _ h => h⟩ fun i => by
    rw [stationSlot_of_slots (c := c) h]
    exact ⟨rfl, rfl⟩

theorem tuneScan_scanKeeps (c : Cabin) : ScanKeeps c (tuneScan c) :=
  .of_kept ⟨rfl, rfl, rfl, rfl, rfl, rfl, rfl, fun _ _ h => h⟩ fun _ => ⟨rfl, rfl⟩

/-! ## Finds (04 R64, R69) -/

/-- The weakest of these records that may go is the one named, the lowest-numbered of equals (04 R69). -/
def IsWeakest (c : Cabin) (l : List (Fin 40)) : Option (Fin 40 × Station) → Prop
  | none => ∀ i ∈ l, ∀ q, (c.stationSlot i).record = some q → q.state = .candidate → held c i = true
  | some (j, b) => j ∈ l ∧ (c.stationSlot j).record = some b ∧ b.state = .candidate ∧ held c j = false ∧
      ∀ i ∈ l, ∀ q, (c.stationSlot i).record = some q → q.state = .candidate → held c i = false →
        b.quality < q.quality ∨ (b.quality = q.quality ∧ j ≤ i)

/-- One slot of the search for the weakest. -/
def weaker (c : Cabin) (best : Option (Fin 40 × Station)) (i : Fin 40) : Option (Fin 40 × Station) :=
  match (c.stationSlot i).record with
  | none => best
  | some r =>
    if r.state = .candidate ∧ held c i = false then
      match best with
      | none => some (i, r)
      | some (j, b) => if r.quality < b.quality then some (i, r) else some (j, b)
    else best

theorem displacedStation_eq (c : Cabin) : displacedStation c = (List.finRange 40).foldl (weaker c) none := rfl

/-- A slot that may not go leaves the weakest as it is. -/
theorem IsWeakest.skip {c : Cabin} {l : List (Fin 40)} {best : Option (Fin 40 × Station)} (h : IsWeakest c l best) {i : Fin 40}
    (hi : ∀ q, (c.stationSlot i).record = some q → q.state = .candidate → held c i = true) :
    IsWeakest c (l ++ [i]) best := by
  cases best with
  | none =>
    intro k hk
    rcases List.mem_append.mp hk with hk | hk
    · exact h k hk
    · rw [List.mem_singleton.mp hk]
      exact hi
  | some x =>
    obtain ⟨hj, hrec, hcand, hfree, hlow⟩ := h
    refine ⟨List.mem_append_left _ hj, hrec, hcand, hfree, fun k hk q hq hc hf => ?_⟩
    rcases List.mem_append.mp hk with hk | hk
    · exact hlow k hk q hq hc hf
    · rw [List.mem_singleton.mp hk] at hq hf
      exact absurd (hi q hq hc) (by rw [hf]; exact Bool.false_ne_true)

theorem IsWeakest.weaker {c : Cabin} {l : List (Fin 40)} {best : Option (Fin 40 × Station)} (h : IsWeakest c l best)
    {i : Fin 40} (hi : ∀ j ∈ l, j < i) : IsWeakest c (l ++ [i]) (weaker c best i) := by
  unfold Machine.weaker
  split
  · next hnone => exact h.skip fun q hq => by rw [hnone] at hq; cases hq
  · next r hr =>
    split
    · next hgo =>
      have hmem : i ∈ l ++ [i] := List.mem_append_right _ (List.mem_singleton.mpr rfl)
      have hself : ∀ q, (c.stationSlot i).record = some q → q = r := fun q hq => Option.some.inj (hq.symm.trans hr)
      cases best with
      | none =>
        refine ⟨hmem, hr, hgo.1, hgo.2, fun k hk q hq hc hf => ?_⟩
        rcases List.mem_append.mp hk with hk | hk
        · exact absurd (h k hk q hq hc) (by rw [hf]; exact Bool.false_ne_true)
        · rw [List.mem_singleton.mp hk] at hq ⊢
          exact .inr ⟨by rw [hself q hq], le_refl i⟩
      | some x =>
        obtain ⟨j, b⟩ := x
        obtain ⟨hj, hrec, hcand, hfree, hlow⟩ := h
        dsimp only
        split
        · next hless =>
          refine ⟨hmem, hr, hgo.1, hgo.2, fun k hk q hq hc hf => ?_⟩
          rcases List.mem_append.mp hk with hk | hk
          · have := hlow k hk q hq hc hf
            omega
          · rw [List.mem_singleton.mp hk] at hq ⊢
            exact .inr ⟨by rw [hself q hq], le_refl i⟩
        · next hmore =>
          refine ⟨List.mem_append_left _ hj, hrec, hcand, hfree, fun k hk q hq hc hf => ?_⟩
          rcases List.mem_append.mp hk with hk | hk
          · exact hlow k hk q hq hc hf
          · rw [List.mem_singleton.mp hk] at hq ⊢
            rw [hself q hq]
            have := hi j hj
            omega
    · next hstay =>
      refine h.skip fun q hq hc => ?_
      rw [Option.some.inj (hq.symm.trans hr)] at hc
      exact Bool.eq_true_of_not_eq_false fun hf => hstay ⟨hc, hf⟩

theorem displacedStation_isWeakest (c : Cabin) : IsWeakest c (List.finRange 40) (displacedStation c) := by
  rw [displacedStation_eq]
  have hsorted : (List.finRange 40).Pairwise (· < ·) := List.pairwise_lt_finRange 40
  generalize List.finRange 40 = l at hsorted
  induction l using List.reverseRecOn with
  | nil => exact fun i hi => absurd hi List.not_mem_nil
  | append_singleton l i ih =>
    rw [List.foldl_append, List.foldl_cons, List.foldl_nil]
    obtain ⟨hl, _, hi⟩ := List.pairwise_append.mp hsorted
    exact (ih hl).weaker fun j hj => hi j hj i (List.mem_singleton.mpr rfl)

theorem displacedStation_eq_some {c : Cabin} {i : Fin 40} {b : Station} (hr : (c.stationSlot i).record = some b)
    (hcand : b.state = .candidate) (hfree : held c i = false)
    (hlow : ∀ j q, (c.stationSlot j).record = some q → q.state = .candidate → held c j = false →
      b.quality < q.quality ∨ (b.quality = q.quality ∧ i ≤ j)) : displacedStation c = some (i, b) := by
  have h := displacedStation_isWeakest c
  generalize displacedStation c = best at h
  cases best with
  | none => exact absurd (h i (List.mem_finRange i) b hr hcand) (by rw [hfree]; exact Bool.false_ne_true)
  | some x =>
    obtain ⟨j, q⟩ := x
    obtain ⟨_, hq, hqcand, hqfree, hmin⟩ := h
    have hij := hlow j q hq hqcand hqfree
    have hji := hmin i (List.mem_finRange i) b hr hcand hfree
    obtain rfl : i = j := by omega
    rw [hr] at hq
    rw [Option.some.inj hq]

/-- A find in a full table with no record that it may displace is dropped. -/
def dropFind (c : Cabin) : Cabin := { c with table := { c.table with tableFull := true } }

theorem dropFind_scanKeeps (c : Cabin) : ScanKeeps c (dropFind c) := .of_table { c.table with tableFull := true } rfl

theorem createFound_cases (raw : Nat) (code : Option Nat) (c : Cabin) :
    (∃ i, freeStationSlot c = some i ∧
      createFound raw code c = createStation i (newStation c.table.position raw .candidate .scan code) c) ∨
    (freeStationSlot c = none ∧ ∃ j b, displacedStation c = some (j, b) ∧ b.quality < raw ∧
      createFound raw code c =
        createStation j (newStation c.table.position raw .candidate .scan code) (retireStationSlot j c)) ∨
    (freeStationSlot c = none ∧ (∀ j b, displacedStation c = some (j, b) → raw ≤ b.quality) ∧
      createFound raw code c = dropFind c) := by
  unfold createFound
  dsimp only
  split
  · next i hi => exact .inl ⟨i, hi, rfl⟩
  · next hfull =>
    refine .inr ?_
    split
    · next j b hd =>
      split
      · next hless => exact .inl ⟨hfull, j, b, hd, hless, rfl⟩
      · next hmore =>
        refine .inr ⟨hfull, fun j' b' hd' => ?_, rfl⟩
        cases hd.symm.trans hd'
        exact not_lt.mp hmore
    · next hd =>
      refine .inr ⟨hfull, fun j b hd' => ?_, rfl⟩
      rw [hd] at hd'
      cases hd'

theorem createFound_scanKeeps (raw : Nat) (code : Option Nat) (c : Cabin) : ScanKeeps c (createFound raw code c) := by
  rcases createFound_cases raw code c with ⟨i, _, h⟩ | ⟨_, j, b, _, _, h⟩ | ⟨_, _, h⟩
  · rw [h]
    exact createStation_scanKeeps ..
  · rw [h]
    exact .of_shows ((retireStationSlot_scanFrame j c).trans (createStation_scanFrame ..)) fun hp p =>
      createStation_shows (by exact hp) ..
  · rw [h]
    exact dropFind_scanKeeps c

theorem createFound_shows {raw : Nat} {code : Option Nat} {c : Cabin} (hp : c.ports.part.posts = true)
    (h : ∃ i, (createFound raw code c).stationSlot i ≠ c.stationSlot i) : ShowsStations (createFound raw code c) := by
  rcases createFound_cases raw code c with ⟨i, _, e⟩ | ⟨_, j, b, _, _, e⟩ | ⟨_, _, e⟩
  · rw [e]
    exact fun p => createStation_shows hp i _ p
  · rw [e]
    exact fun p => createStation_shows (c := retireStationSlot j c) hp j _ p
  · rw [e] at h
    obtain ⟨i, hi⟩ := h
    exact absurd rfl hi

theorem createStation_tableRest (i : Fin 40) (r : Station) (c : Cabin) :
    { (createStation i r c).table with slots := c.table.slots } = c.table := (createStation_onlySlots i r c).table

/-- The table but for its slots and the full mark. -/
theorem createFound_table (raw : Nat) (code : Option Nat) (c : Cabin) :
    { (createFound raw code c).table with slots := c.table.slots, tableFull := c.table.tableFull } = c.table := by
  rcases createFound_cases raw code c with ⟨i, _, e⟩ | ⟨_, j, b, _, _, e⟩ | ⟨_, _, e⟩
  · rw [e]
    simp [createStation, setStationSlot]
  · rw [e]
    simp [createStation, setStationSlot, retireStationSlot]
  · rw [e]
    rfl

theorem createFound_creates (raw : Nat) (code : Option Nat) (c : Cabin) :
    Creates c (newStation c.table.position raw .candidate .scan code) (createFound raw code c).stationSlot
      (createFound raw code c).table.tableFull := by
  have hquality : (newStation c.table.position raw .candidate .scan code).quality = raw := rfl
  rcases createFound_cases raw code c with ⟨i, hi, e⟩ | ⟨hfull, j, b, hd, hless, e⟩ | ⟨hfull, hmore, e⟩
  all_goals
    rw [e]
    generalize newStation c.table.position raw .candidate .scan code = r at hquality ⊢
  · have hfree := freeStationSlot_free hi
    refine ⟨fun k hk hlow => ?_, fun hfull => absurd hfree (hfull i)⟩
    obtain rfl : k = i := le_antisymm (not_lt.mp fun hlt => hlow i hlt hfree) (freeStationSlot_le hi hk)
    exact ⟨(createStation_slots k r c k).trans (if_pos rfl), fun j hj => (createStation_slots k r c j).trans (if_neg hj),
      by simp [createStation]⟩
  · have hno (k) : (c.stationSlot k).record ≠ none := fun hk => by simpa [hk] using firstIdx_none hfull k
    obtain ⟨_, hb, hcand, hfree, hmin⟩ := hd ▸ displacedStation_isWeakest c
    refine ⟨fun k hk => absurd hk (hno k), fun _ => ⟨fun k q hq hlt hlow => ?_, fun hall => ?_⟩⟩
    · have hk := displacedStation_eq_some hq.1 hq.2.1 hq.2.2 fun m v hv hc hf => hlow m v ⟨hv, hc, hf⟩
      cases hd.symm.trans hk
      refine ⟨(createStation_slots ..).trans ((if_pos rfl).trans ?_), fun m hm => (createStation_slots ..).trans
        ((if_neg hm).trans ?_), by simp [createStation, retireStationSlot]⟩
      · rw [retireStationSlot_stationSlot, if_pos rfl]
      · rw [retireStationSlot_stationSlot, if_neg hm]
    · exact absurd (hall j b ⟨hb, hcand, hfree⟩) (by omega)
  · have hno (k) : (c.stationSlot k).record ≠ none := fun hk => by simpa [hk] using firstIdx_none hfull k
    refine ⟨fun k hk => absurd hk (hno k), fun _ => ⟨fun k q hq hlt hlow => ?_, fun _ => ⟨fun _ => rfl, rfl⟩⟩⟩
    have hk := displacedStation_eq_some hq.1 hq.2.1 hq.2.2 fun m v hv hc hf => hlow m v ⟨hv, hc, hf⟩
    exact absurd (hmore k q hk) (by omega)

end Sys2Proof.Machine
end


section
/-! SUPPORT. The outcome of a scanned channel and the end of a pass (04 R64, R68). -/

namespace Sys2Proof.Machine

/-! ## The outcome of a scanned channel (04 R64) -/

/-- What a scanned channel makes of a record of its frequency. -/
def scannedKnown (i : Fin 40) (raw : Nat) (c : Cabin) : Cabin :=
  if carried c (c.stationId i) then
    if 30 ≤ raw then modifyStation i (fun r => { r with received := true }) c else c
  else modifyStation i (scanRecord raw) c

/-- The table after a scanned channel, before the scan dwells or moves on. -/
def scanned (raw : Nat) (c : Cabin) : Cabin :=
  match stationAtFreq c c.table.position with
  | some i => scannedKnown i raw c
  | none => if raw < 30 ∨ c.table.position.band = .fm then c else createFound raw none c

/-- A record without an identity that the scan may dwell on (04 R64, R65). -/
def dwellsOn (raw : Nat) (c : Cabin) (i : Fin 40) (r : Station) : Prop :=
  30 ≤ raw ∧ carried c (c.stationId i) = false ∧ r.freq.band = .fm ∧ r.identity = none

/-- The scan dwells on the position (04 R64). -/
def Dwells (raw : Nat) (c : Cabin) : Prop :=
  match stationAtFreq c c.table.position with
  | some i => ∃ r, (c.stationSlot i).record = some r ∧ dwellsOn raw c i r
  | none => 30 ≤ raw ∧ c.table.position.band = .fm

theorem stationAtFreq_record {c : Cabin} {f : Freq} {i : Fin 40} (h : stationAtFreq c f = some i) :
    ∃ r, (c.stationSlot i).record = some r ∧ r.freq = f := by
  have hi := firstIdx_some h
  split at hi
  · cases hi
  · next r hr => exact ⟨r, hr, of_decide_eq_true hi⟩

theorem scanOutcome_dwells {raw : Nat} {c : Cabin} (h : Dwells raw c) :
    scanOutcome raw c = startDwell raw (scanned raw c) := by
  unfold Dwells at h
  unfold scanOutcome scanned
  split at h
  · next i hi =>
    obtain ⟨r, hr, hraw, hcar, hband, hid⟩ := h
    simp [scanKnown, scannedKnown, hr, hcar, hraw, hband, hid, hi]
  · next hnone => simp [hnone, h.2, not_lt.mpr h.1]

theorem scanOutcome_advances {raw : Nat} {c : Cabin} (h : ¬ Dwells raw c) :
    scanOutcome raw c = advanceScan (scanned raw c) := by
  unfold Dwells at h
  unfold scanOutcome scanned
  split at h
  · next i hi =>
    obtain ⟨r, hr, _⟩ := stationAtFreq_record hi
    have hstay : ¬ dwellsOn raw c i r := fun hd => h ⟨r, hr, hd⟩
    simp only [hi, scanKnown, scannedKnown, hr]
    split
    · rfl
    · next hcar =>
      rw [if_neg fun hd => hstay ⟨hd.1, Bool.eq_false_of_not_eq_true hcar, hd.2⟩]
  · next hnone =>
    by_cases hraw : raw < 30
    · simp [hnone, hraw]
    · have hband : c.table.position.band = .mw := by
        cases hb : c.table.position.band with
        | fm => exact absurd ⟨not_lt.mp hraw, hb⟩ h
        | mw => rfl
      simp [hnone, hraw, hband]

theorem modifyStation_stationSlot_of {c : Cabin} {i : Fin 40} {r : Station} (hr : (c.stationSlot i).record = some r)
    (g : Station → Station) (j : Fin 40) : (modifyStation i g c).stationSlot j =
      if j = i then ⟨(c.stationSlot i).gen, some (g r)⟩ else c.stationSlot j := by
  rw [modifyStation_stationSlot]
  split
  · next hj =>
    subst hj
    rw [hr, Option.map_some]
  · rfl

theorem stationSlot_eq_some {c : Cabin} {i : Fin 40} {r : Station} (hr : (c.stationSlot i).record = some r) :
    c.stationSlot i = ⟨(c.stationSlot i).gen, some r⟩ := by rw [← hr]

theorem scannedKnown_stationSlot {c : Cabin} {i : Fin 40} {r : Station} (hr : (c.stationSlot i).record = some r) (raw : Nat)
    (j : Fin 40) : (scannedKnown i raw c).stationSlot j = if j = i then ⟨(c.stationSlot i).gen, some { r with
      quality := if carried c (c.stationId i) then r.quality else raw,
      received := r.received || decide (30 ≤ raw) }⟩ else c.stationSlot j := by
  unfold scannedKnown
  split
  · next hcar =>
    split
    · next hraw => simp [modifyStation_stationSlot_of hr, hraw]
    · next hraw =>
      split
      · next hj =>
        subst hj
        rw [stationSlot_eq_some hr]
        simp [hraw]
      · rfl
  · simp [modifyStation_stationSlot_of hr, scanRecord]

theorem scannedKnown_scanKeeps (i : Fin 40) (raw : Nat) (c : Cabin) : ScanKeeps c (scannedKnown i raw c) := by
  unfold scannedKnown
  repeat' split
  · exact modifyStation_scanKeeps ..
  · exact .refl c
  · exact modifyStation_scanKeeps ..

theorem scannedKnown_table (i : Fin 40) (raw : Nat) (c : Cabin) :
    { (scannedKnown i raw c).table with slots := c.table.slots } = c.table := by
  unfold scannedKnown
  repeat' split
  · exact (OnlySlots.modifyStation ..).table
  · rfl
  · exact (OnlySlots.modifyStation ..).table

theorem scanned_scanKeeps (raw : Nat) (c : Cabin) : ScanKeeps c (scanned raw c) := by
  unfold scanned
  repeat' split
  · exact scannedKnown_scanKeeps ..
  · exact .refl c
  · exact createFound_scanKeeps ..

theorem scanned_table (raw : Nat) (c : Cabin) :
    { (scanned raw c).table with slots := c.table.slots, tableFull := c.table.tableFull } = c.table := by
  unfold scanned
  repeat' split
  · next i _ => exact congrArg (fun t : StationTable => { t with tableFull := c.table.tableFull }) (scannedKnown_table i raw c)
  · rfl
  · exact createFound_table ..

theorem scanned_scans (raw : Nat) (c : Cabin) :
    Scans c raw (scanned raw c).stationSlot (scanned raw c).table.tableFull := by
  refine ⟨fun i hi r hr => ?_, fun hnone hquiet => ?_, fun hnone hraw hband => ?_⟩
  · have hfull : (scannedKnown i raw c).table.tableFull = c.table.tableFull :=
      (congrArg StationTable.tableFull (scannedKnown_table i raw c) :)
    simp only [scanned, hi]
    exact ⟨(scannedKnown_stationSlot hr raw i).trans (if_pos rfl),
      fun j hj => (scannedKnown_stationSlot hr raw j).trans (if_neg hj), hfull⟩
  · have hsame : scanned raw c = c := by simp only [scanned, hnone, if_pos hquiet]
    rw [hsame]
    exact ⟨fun _ => rfl, rfl⟩
  · have hfind : ¬ (raw < 30 ∨ c.table.position.band = .fm) := by simp [hband, hraw]
    simp only [scanned, hnone, if_neg hfind]
    exact createFound_creates raw none c

theorem tuneScan_table (c : Cabin) : (tuneScan c).table = c.table := rfl

theorem advanceScan_next {c : Cabin} {f : Freq} (h : nextFreq c.table.position = some f) :
    advanceScan c = tuneScan (setPosition f c) := by rw [advanceScan, h]

theorem setPosition_scanKeeps (f : Freq) (c : Cabin) : ScanKeeps c (setPosition f c) :=
  .of_table { c.table with position := f } rfl

theorem startDwell_scanKeeps (raw : Nat) (c : Cabin) : ScanKeeps c (startDwell raw c) :=
  .of_table { c.table with dwell := some raw } rfl

/-- What the scan does after the outcome of a channel that is not the last of a pass: it dwells, or moves on. -/
theorem scanOutcome_within {raw : Nat} {c : Cabin} {f : Freq} (hnext : nextFreq c.table.position = some f)
    (hdwell : c.table.dwell = none) :
    ScanKeeps (scanned raw c) (scanOutcome raw c) ∧
    (scanOutcome raw c).table.slots = (scanned raw c).table.slots ∧
    (scanOutcome raw c).table.tableFull = (scanned raw c).table.tableFull ∧
    (Dwells raw c → (scanOutcome raw c).table.dwell = some raw ∧
      (scanOutcome raw c).table.position = c.table.position) ∧
    (¬ Dwells raw c → (scanOutcome raw c).table.dwell = none ∧ (scanOutcome raw c).table.position = f) := by
  have htable := scanned_table raw c
  have hposition : (scanned raw c).table.position = c.table.position := (congrArg StationTable.position htable :)
  have hstill : (scanned raw c).table.dwell = c.table.dwell := (congrArg StationTable.dwell htable :)
  by_cases h : Dwells raw c
  · rw [scanOutcome_dwells h]
    exact ⟨startDwell_scanKeeps .., rfl, rfl, fun _ => ⟨rfl, hposition⟩, fun hn => absurd h hn⟩
  · rw [scanOutcome_advances h, advanceScan_next (by rwa [hposition])]
    exact ⟨(setPosition_scanKeeps ..).trans (tuneScan_scanKeeps _), rfl, rfl, fun hd => absurd hd h,
      fun _ => ⟨hstill.trans hdwell, rfl⟩⟩

theorem exec_scanMeasurement {u : TunerId} {f : Figures} {raw : Nat} {s : State} (hu : scanTuner s.cab = some u)
    (hdwell : s.cab.table.dwell = none)
    (hraw : raw = rawQuality s.cab.table.position.band (s.supply.image.antenna.get u) f) :
    exec (.scanMeasurement f) s = .next (s.onCab fun _ => scanOutcome raw s.cab) := by
  have h : scanMeasurement s.supply.image f s.cab = scanOutcome raw s.cab := by
    rw [scanMeasurement, hu, hdwell, hraw]
  exact congrArg (fun c : Cabin => Host.Outcome.next { s with cab := c }) h

/-- Settles O27. -/
theorem scanMeasurementOutcome : Obligations.ScanMeasurementOutcome := by
  refine ⟨fun u f raw s hu hdwell hraw _ hnext => ?_, fun c f => ?_, fun f q st o code => rfl⟩
  · obtain ⟨n, hn⟩ := Option.isSome_iff_exists.mp hnext
    obtain ⟨hkeeps, hslots, hfull, hdwells, hmoves⟩ := scanOutcome_within (raw := raw) hn hdwell
    have hexec := exec_scanMeasurement hu hdwell hraw
    have hscans := scanned_scans raw s.cab
    have hall := ((scanned_scanKeeps raw s.cab).trans hkeeps).frame
    have hevents := hkeeps.frame.events
    have hfind : stationAtFreq s.cab s.cab.table.position = none → 30 ≤ raw → s.cab.table.position.band = .mw →
        scanned raw s.cab = createFound raw none s.cab := fun hnone hr hb => by
      simp [scanned, hnone, hb, not_lt.mpr hr]
    have hstill : ∀ (q : Prop) [Decidable q], (Dwells raw s.cab ↔ q) →
        (scanOutcome raw s.cab).table.dwell = if q then some raw else none := fun q _ hq => by
      split
      · next h => exact (hdwells (hq.mpr h)).1
      · next h => exact (hmoves (mt hq.mp h)).1
    generalize scanOutcome raw s.cab = d at *
    have hslot (j) : d.stationSlot j = (scanned raw s.cab).stationSlot j := stationSlot_of_slots hslots j
    refine ⟨_, hexec, ?_, fun i hi r hr => ?_, fun hnone => ?_, fun hnone hr hb hposts hturn => ?_, fun hd => ?_, fun hd => ?_,
      hall.dir, hall.mix, hall.builder, chan_of_chans hall.chans, hall.slots, hall.calls, hall.events, ⟨rfl, rfl, rfl, rfl⟩⟩
    · have hfun : d.stationSlot = (scanned raw s.cab).stationSlot := funext hslot
      rw [← hfun, ← hfull] at hscans
      exact hscans
    · refine hstill _ ?_
      simp only [Dwells, hi, dwellsOn, hr, Option.some.injEq, exists_eq_left']
    · refine hstill _ ?_
      simp only [Dwells, hnone]
    · rw [hfind hnone hr hb] at hslot hevents
      obtain ⟨i, hi⟩ := hturn
      have hshows := createFound_shows hposts ⟨i, by rwa [← hslot]⟩
      exact ⟨hevents _ _ (hshows .front), hevents _ _ (hshows .rear)⟩
    · by_cases h : Dwells raw s.cab
      · exact (hdwells h).2
      · exact absurd (hmoves h).1 hd
    · by_cases h : Dwells raw s.cab
      · exact absurd ((hdwells h).1.symm.trans hd) (by simp)
      · rw [hn]
        exact congrArg some (hmoves h).2
  · refine ⟨fun h i r hr hf => ?_, fun h => firstIdx_eq_none fun i => ?_⟩
    · have hi := firstIdx_none h i
      simp [hr, hf] at hi
    · split
      · rfl
      · next r hr => exact decide_eq_false (h i r hr)

end Sys2Proof.Machine
end


section
/-! SUPPORT. No dwell begins where the channels and the roles settle (04 R66, 05 R92). -/

namespace Sys2Proof.Machine

/-- Where there is no dwell, none begins. -/
structure NoDwellBegins (c d : Cabin) : Prop where
  still : c.table.dwell = none → d.table.dwell = none

theorem NoDwellBegins.trans {c d e : Cabin} (h : NoDwellBegins c d) (g : NoDwellBegins d e) : NoDwellBegins c e :=
  ⟨fun hn => g.still (h.still hn)⟩

theorem NoDwellBegins.of_eq {c d : Cabin} (h : d.table.dwell = c.table.dwell) : NoDwellBegins c d :=
  ⟨fun hn => h.trans hn⟩

theorem setRole_noDwell (t : TunerId) (r : Role) (c : Cabin) : NoDwellBegins c (setRole t r c) := by
  unfold setRole
  dsimp only
  repeat' split
  · exact .of_eq rfl
  · exact ⟨fun _ => rfl⟩
  · exact .of_eq rfl

theorem settleRoles_noDwell (c : Cabin) : NoDwellBegins c (settleRoles c) :=
  (setRole_noDwell ..).trans (setRole_noDwell ..)

theorem endExcursion_noDwell (x : Chan) (c : Cabin) : NoDwellBegins c (endExcursion x c) := .of_eq (by
  unfold endExcursion
  repeat' split
  all_goals rfl)

theorem abandonFollow_noDwell (x : Chan) (c : Cabin) : NoDwellBegins c (abandonFollow x c) := by
  unfold abandonFollow
  split
  · exact .of_eq rfl
  · exact (endExcursion_noDwell x c).trans (.of_eq rfl)

theorem assignChan_noDwell (x : Chan) (n : Option StationId) (t : Option TunerId) (c : Cabin) :
    NoDwellBegins c (assignChan x n t c) := .of_eq (by
  unfold assignChan
  split <;> rfl)

theorem loseSupport_noDwell (x : Chan) (c : Cabin) : NoDwellBegins c (loseSupport x c) := by
  unfold loseSupport
  dsimp only
  repeat' split
  · exact NoDwellBegins.trans (d := endDiversity x c) (.of_eq rfl) (abandonFollow_noDwell ..)
  · exact .of_eq rfl
  · exact .of_eq rfl

theorem retuneIfGained_noDwell (old : Cabin) (x : Chan) (c : Cabin) : NoDwellBegins c (retuneIfGained old x c) := .of_eq (by
  unfold retuneIfGained beginRetune
  repeat' split
  all_goals rfl)

theorem staleIfMoved_noDwell (old : Cabin) (h : Option StationId) (c : Cabin) : NoDwellBegins c (staleIfMoved old h c) := .of_eq (by
  unfold staleIfMoved
  repeat' split
  all_goals rfl)

theorem applyAssignment_noDwell (n : Option StationId × Option StationId) (c : Cabin) :
    NoDwellBegins c (applyAssignment n c) := by
  have htest : ∀ d, NoDwellBegins d (testTraffic (endUncarried d)) := fun d => .of_eq (by simp)
  have hassign := (assignChan_noDwell .pc0 n.1 (servingAfter c n).1 c).trans (assignChan_noDwell .pc1 n.2 (servingAfter c n).2 _)
  have hsupport := ((hassign.trans (loseSupport_noDwell .pc0 _)).trans (loseSupport_noDwell .pc1 _)).trans (settleRoles_noDwell _)
  have hretune := (hsupport.trans (retuneIfGained_noDwell c .pc0 _)).trans (retuneIfGained_noDwell c .pc1 _)
  exact ((((hretune.trans (htest _)).trans (staleIfMoved_noDwell ..)).trans (staleIfMoved_noDwell ..)).trans
    (staleIfMoved_noDwell ..)).trans (staleIfMoved_noDwell ..)

theorem arbitrate_noDwell (c : Cabin) : NoDwellBegins c (arbitrate c) := by
  unfold arbitrate
  repeat' split
  · exact .of_eq rfl
  · exact applyAssignment_noDwell ..
  · exact .of_eq rfl

theorem settleRoutes_noDwell (c : Cabin) : NoDwellBegins c (settleRoutes c) := .of_eq (by rw [settleRoutes_table])

theorem settleDirectory_noDwell {c : Cabin} (h : NoDeferrals c) : NoDwellBegins c (settleDirectory c) := by
  unfold settleDirectory
  rw [settleAllocator_eq_arbitrate h]
  exact (arbitrate_noDwell c).trans (settleRoutes_noDwell _)

end Sys2Proof.Machine
end

section
/-! SUPPORT. The end of a pass, and the end of a dwell that brings no merge about (04 R65, R68). -/

namespace Sys2Proof.Machine

/-! ## The end of a pass (04 R68) -/

/-- The slot `i`, its record in it, is held where the channels are those of `c` (04 R60). -/
def slotHeld (c : Cabin) (i : Fin 40) (v : StationSlot) : Bool :=
  match v.record with
  | none => false
  | some r => decide (0 < r.refs) || r.kept.front || r.kept.rear || r.watched || carried c ⟨i, v.gen⟩

/-- A slot at the end of a pass (04 R68). -/
def agedSlot (c : Cabin) (i : Fin 40) (v : StationSlot) : StationSlot :=
  match v.record with
  | none => v
  | some r => if missedOut r && !slotHeld c i v then ⟨v.gen + 1, none⟩ else ⟨v.gen, some (agedRecord r)⟩

theorem held_eq_slotHeld {c d : Cabin} (h : d.alloc.chans = c.alloc.chans) (i : Fin 40) :
    held d i = slotHeld c i (d.stationSlot i) := by
  unfold held slotHeld
  cases (d.stationSlot i).record with
  | none => rfl
  | some r =>
    rw [carried, chanOf_of_chans h]
    rfl

theorem agedSlot_of_chans {c d : Cabin} (h : d.alloc.chans = c.alloc.chans) (i : Fin 40) (v : StationSlot) :
    agedSlot d i v = agedSlot c i v := by
  have hheld : slotHeld d i v = slotHeld c i v := by
    unfold slotHeld carried
    rw [chanOf_of_chans h]
  unfold agedSlot
  rw [hheld]

theorem ageSlot_stationSlot {c d : Cabin} (h : d.alloc.chans = c.alloc.chans) (i j : Fin 40) :
    (ageSlot i d).stationSlot j = if j = i then agedSlot c j (d.stationSlot j) else d.stationSlot j := by
  have hheld := held_eq_slotHeld h i
  unfold ageSlot agedSlot
  split
  · next hnone =>
    split
    · next hj =>
      subst hj
      rw [hnone]
    · rfl
  · next r hr =>
    split
    · next hgo =>
      refine (stationSlot_of_slots (by simp) j).trans ((retireStationSlot_stationSlot d i j).trans ?_)
      split
      · next hj =>
        subst hj
        rw [hr, ← hheld]
        simp only [hgo, if_true]
      · rfl
    · next hstay =>
      rw [modifyStation_stationSlot_of hr]
      split
      · next hj =>
        subst hj
        rw [hr, ← hheld]
        simp only [if_neg hstay]
      · rfl

theorem ageSlot_scanKeeps (i : Fin 40) (c : Cabin) : ScanKeeps c (ageSlot i c) := by
  unfold ageSlot
  repeat' split
  · exact .refl c
  · exact .of_shows ((retireStationSlot_scanFrame i c).postBoth _) fun hp p => postBoth_shows (by exact hp) ..
  · exact modifyStation_scanKeeps ..

theorem ageAll_scanKeeps (c : Cabin) : ScanKeeps c (eachIdx 40 ageSlot c) := by
  unfold eachIdx
  induction List.finRange 40 generalizing c with
  | nil => exact .refl c
  | cons i l ih => exact (ageSlot_scanKeeps i c).trans (ih _)

theorem ageAll_stationSlot (c : Cabin) (i : Fin 40) :
    (eachIdx 40 ageSlot c).stationSlot i = agedSlot c i (c.stationSlot i) :=
  foldl_reads_mem (read := fun d j => Cabin.stationSlot d j) (fun d i => ageSlot i d) (agedSlot c)
    (fun d => d.alloc.chans = c.alloc.chans) (fun d j hd => by rw [ageSlot_alloc]; exact hd)
    (fun d j k hd => ageSlot_stationSlot hd j k) (List.nodup_finRange 40) rfl (List.mem_finRange i)

theorem ageAll_dwell (c : Cabin) : (eachIdx 40 ageSlot c).table.dwell = c.table.dwell :=
  eachIdx_keeps (fun c : Cabin => c.table.dwell) 40 _ (fun i c => by
    unfold ageSlot
    repeat' split
    · rfl
    · simp [retireStationSlot]
    · simp) c

theorem completePass_scanKeeps (c : Cabin) : ScanKeeps c (completePass c) := by
  have h := ageAll_scanKeeps c
  unfold completePass
  generalize eachIdx 40 ageSlot c = d at h ⊢
  exact h.trans (.of_table { d.table with position := firstFreq, tableFull := false } rfl)

theorem advanceScan_scanKeeps (c : Cabin) : ScanKeeps c (advanceScan c) := by
  unfold advanceScan
  split
  · exact (setPosition_scanKeeps ..).trans (tuneScan_scanKeeps _)
  · exact (completePass_scanKeeps c).trans (tuneScan_scanKeeps _)

theorem advanceScan_last {c : Cabin} (h : nextFreq c.table.position = none) :
    (∀ i, (advanceScan c).stationSlot i = agedSlot c i (c.stationSlot i)) ∧
    (advanceScan c).table.position = ⟨.fm, 0⟩ ∧ (advanceScan c).table.tableFull = false ∧
    (advanceScan c).table.dwell = c.table.dwell := by
  have hslot := ageAll_stationSlot c
  have hdwell := ageAll_dwell c
  rw [advanceScan, h]
  dsimp only
  unfold completePass
  generalize eachIdx 40 ageSlot c = d at hslot hdwell ⊢
  exact ⟨hslot, rfl, rfl, hdwell⟩

/-- Row by row of the table of R68. -/
theorem agedSlot_rows (c : Cabin) (i : Fin 40) (v : StationSlot) (r : Station) (hr : v.record = some r) :
    (r.isNew = true → agedSlot c i v = ⟨v.gen, some (unmarked r)⟩) ∧
    (r.isNew = false → r.received = true → agedSlot c i v = ⟨v.gen, some (unmarked { r with miss := 0, state := .listed })⟩) ∧
    (r.isNew = false → r.received = false → r.miss + 1 ≤ 2 →
      agedSlot c i v = ⟨v.gen, some (unmarked { r with miss := r.miss + 1 })⟩) ∧
    (r.isNew = false → r.received = false → 3 ≤ r.miss + 1 →
      agedSlot c i v = if slotHeld c i v then ⟨v.gen, some (unmarked { r with miss := 3, state := .lost })⟩
        else ⟨v.gen + 1, none⟩) := by
  have hv : agedSlot c i v = if missedOut r && !slotHeld c i v then ⟨v.gen + 1, none⟩ else ⟨v.gen, some (agedRecord r)⟩ := by
    rw [agedSlot, hr]
  rw [hv]
  refine ⟨fun hnew => ?_, fun hold hrec => ?_, fun hold hrec hmiss => ?_, fun hold hrec hmiss => ?_⟩
  · simp [missedOut, agedRecord, unmarked, hnew]
  · cases hs : r.state <;> simp [missedOut, agedRecord, unmarked, hold, hrec, hs]
  · simp [missedOut, agedRecord, unmarked, hold, hrec, show ¬ 3 ≤ r.miss + 1 by omega]
  · cases hheld : slotHeld c i v <;> simp [missedOut, agedRecord, unmarked, hold, hrec, hmiss]

/-- What makes a record held, its channel apart (04 R60). -/
def holdMarks (r : Station) : Nat × PerPort Bool × Bool := (r.refs, r.kept, r.watched)

theorem slotHeld_congr {c : Cabin} {i : Fin 40} {v w : StationSlot} (hgen : v.gen = w.gen)
    (hmarks : v.record.map holdMarks = w.record.map holdMarks) : slotHeld c i v = slotHeld c i w := by
  obtain ⟨g, a⟩ := v
  obtain ⟨_, b⟩ := w
  cases hgen
  cases a <;> cases b <;> simp_all [slotHeld, holdMarks]

/-- A find leaves every record that it does not create. -/
theorem createFound_others (raw : Nat) (code : Option Nat) (c : Cabin) (i : Fin 40) :
    (createFound raw code c).stationSlot i = c.stationSlot i ∨
    ((createFound raw code c).stationSlot i).record = some (newStation c.table.position raw .candidate .scan code) := by
  rcases createFound_cases raw code c with ⟨j, _, e⟩ | ⟨_, j, b, _, _, e⟩ | ⟨_, _, e⟩
  · rw [e, createStation_slots]
    by_cases h : i = j <;> simp [h]
  · rw [e, createStation_slots, retireStationSlot_stationSlot c j i]
    by_cases h : i = j <;> simp [h]
  · rw [e]
    exact .inl rfl

/-- A record that the scan did not create is held after it as it was before. -/
theorem scanned_slotHeld {raw : Nat} {c : Cabin} {i : Fin 40} {r : Station}
    (hr : ((scanned raw c).stationSlot i).record = some r) (hold : r.isNew = false) :
    slotHeld c i ((scanned raw c).stationSlot i) = held c i := by
  rw [held_eq_slotHeld rfl]
  unfold scanned at hr ⊢
  split at hr
  · next j hj =>
    obtain ⟨q, hq, _⟩ := stationAtFreq_record hj
    rw [scannedKnown_stationSlot hq]
    split
    · next h =>
      subst h
      exact slotHeld_congr rfl (by rw [hq]; rfl)
    · rfl
  · next hnone =>
    split at hr
    · next hquiet => rw [if_pos hquiet]
    · next hfind =>
      rw [if_neg hfind]
      rcases createFound_others raw none c i with h | h
      · rw [h]
      · rw [hr] at h
        cases h
        cases hold

theorem scanned_ages (raw : Nat) (c : Cabin) :
    Ages c (scanned raw c).stationSlot fun i => agedSlot c i ((scanned raw c).stationSlot i) := by
  refine fun i => ⟨fun hnone => by simp only [agedSlot, hnone], fun r hr => ?_⟩
  obtain ⟨hnew, hreceived, hmissed, hlost⟩ := agedSlot_rows c i _ r hr
  refine ⟨hnew, hreceived, hmissed, fun hold hrec hmiss => ?_⟩
  exact (hlost hold hrec hmiss).trans (by rw [scanned_slotHeld hr hold])

theorem not_dwells_mw {raw : Nat} {c : Cabin} (h : c.table.position.band = .mw) : ¬ Dwells raw c := by
  intro hd
  unfold Dwells at hd
  split at hd
  · next i hi =>
    obtain ⟨r, hr, _, _, hfm, _⟩ := hd
    obtain ⟨q, hq, hf⟩ := stationAtFreq_record hi
    cases hr.symm.trans hq
    rw [hf, h] at hfm
    cases hfm
  · rw [h] at hd
    cases hd.2

/-! ## The end of a dwell (04 R65) -/

/-- The dwell is over (04 R65). -/
def endDwell (c : Cabin) : Cabin := { c with table := { c.table with dwell := none } }

theorem endDwell_scanKeeps (c : Cabin) : ScanKeeps c (endDwell c) := .of_table { c.table with dwell := none } rfl

theorem dwellEnd_eq {raw : Nat} {c : Cabin} (h : c.table.dwell = some raw) (accepted : Option Nat) :
    dwellEnd accepted c = settleDirectory (advanceScan (dwellOutcome raw accepted (endDwell c))) := by
  rw [dwellEnd, h]
  rfl

/-- The outcome of a dwell that brings no merge about: the records have changed as the scan changes them, and neither the
position nor the dwell has. -/
structure DwellFinds (c d : Cabin) : Prop where
  keeps : ScanKeeps c d
  position : d.table.position = c.table.position
  dwell : d.table.dwell = c.table.dwell
  calm : NoDeferrals c → NoDeferrals d

theorem DwellFinds.refl (c : Cabin) : DwellFinds c c := ⟨.refl c, rfl, rfl, id⟩

theorem createFound_dwellFinds (raw : Nat) (code : Option Nat) (c : Cabin) : DwellFinds c (createFound raw code c) where
  keeps := createFound_scanKeeps ..
  position := (congrArg StationTable.position (createFound_table raw code c) :)
  dwell := (congrArg StationTable.dwell (createFound_table raw code c) :)
  calm h i r hr := by
    rcases createFound_others raw code c i with e | e
    · rw [e] at hr
      exact h i r hr
    · rw [e] at hr
      cases hr
      rfl

theorem foundAgain_dwellFinds (i : Fin 40) (ch raw : Nat) (c : Cabin) :
    DwellFinds c (modifyStation i (foundAgain ch raw) c) where
  keeps := modifyStation_scanKeeps ..
  position := (congrArg StationTable.position (OnlySlots.modifyStation i _ c).table :)
  dwell := (congrArg StationTable.dwell (OnlySlots.modifyStation i _ c).table :)
  calm h j r hr := by
    rw [modifyStation_stationSlot] at hr
    split at hr
    · obtain ⟨q, _, rfl⟩ := Option.map_eq_some_iff.mp hr
      rfl
    · exact h j r hr

/-- What follows the outcome of a dwell. -/
structure DwellFollows (s : State) (d : Cabin) (t : State) : Prop where
  dwell : t.cab.table.dwell = none
  position : some t.cab.table.position = nextFreq s.cab.table.position
  slots : t.cab.table.slots = d.table.slots
  tableFull : t.cab.table.tableFull = d.table.tableFull
  events : EventsKept d t.cab
  zones : t.cab.dir.zones = s.cab.dir.zones
  routes : ∀ l k, SameRoute (t.cab.route l k) (s.cab.route l k)
  outside : KeptOutside s t
  calls : KeptCalls s t
  kept : KeptEvents s t
  plans : KeptPlans s t

theorem nextFreq_fm {f : Freq} (h : f.band = .fm) : ∃ n, nextFreq f = some n := by
  unfold nextFreq
  rw [h]
  dsimp only
  split <;> exact ⟨_, rfl⟩

theorem DwellFinds.follows {s : State} {d : Cabin} (h : DwellFinds (endDwell s.cab) d) (hdef : NoDeferrals s.cab)
    (hband : s.cab.table.position.band = .fm) :
    DwellFollows s d (s.onCab fun _ => settleDirectory (advanceScan d)) := by
  obtain ⟨n, hn⟩ := nextFreq_fm hband
  have hadv : advanceScan d = tuneScan (setPosition n d) := advanceScan_next (by rw [h.position]; exact hn)
  have hcalm : NoDeferrals (advanceScan d) := by
    rw [hadv]
    exact h.calm (hdef.of_slots rfl)
  have hkeeps := ((endDwell_scanKeeps s.cab).trans h.keeps).frame.trans (advanceScan_scanKeeps d).frame
  have hevents := (advanceScan_scanKeeps d).frame.events
  have hstill : (advanceScan d).table.dwell = none := by
    rw [hadv]
    exact h.dwell
  have hposition : (advanceScan d).table.position = n := by rw [hadv]; rfl
  have hslots : (advanceScan d).table.slots = d.table.slots := by rw [hadv]; rfl
  have hfull : (advanceScan d).table.tableFull = d.table.tableFull := by rw [hadv]; rfl
  have hdwell := (settleDirectory_noDwell hcalm).still hstill
  have hf := settleDirectory_followsUp hcalm
  clear hadv
  generalize advanceScan d = e at *
  generalize settleDirectory e = t at *
  have hframe := hf.around.frame
  exact {
    dwell := hdwell
    position := (congrArg some (hframe.position.trans hposition)).trans hn.symm
    slots := hf.slots.trans hslots
    tableFull := hframe.tableFull.trans hfull
    events := fun p k hk => hf.around.events p k (hevents p k hk)
    zones := hf.zones.trans (by rw [hkeeps.dir])
    routes := fun l k => hf.route_other (route_of_lists (by rw [hkeeps.dir]) l k)
    outside := ⟨rfl, rfl, rfl, rfl⟩
    calls := ⟨hframe.canceller.trans (by rw [hkeeps.calls]), hframe.uplinkGain.trans (by rw [hkeeps.calls]),
      hframe.uplinkLevel.trans (by rw [hkeeps.calls]), hframe.phoneUl.trans (by rw [hkeeps.calls]), fun i => by
        rw [← callSlot_of_slots (c := s.cab) (d := e) (by rw [hkeeps.calls])]
        exact hf.around.calls i⟩
    kept := fun p k hk => hf.around.events p k (hkeeps.events p k hk)
    plans := fun z => by
      rw [← mixZone_of_zones (c := s.cab) (d := e) (by rw [hkeeps.mix])]
      exact hf.around.plans z }

end Sys2Proof.Machine
end


section
/-! SUPPORT. The commands that end a pass or a dwell (04 R65, R68). -/

namespace Sys2Proof.Machine

/-! ## Commands -/

theorem exec_dwellEnd {raw : Nat} {s : State} (h : s.cab.table.dwell = some raw) :
    exec .dwellTimeout s =
      .next (s.onCab fun _ => settleDirectory (advanceScan (dwellOutcome raw none (endDwell s.cab)))) := by
  rw [← dwellEnd_eq h none]
  rfl

theorem nextRun_again {run : Option (Nat × Bool)} {code : Nat} (h : run.map (·.1) = some code) :
    nextRun run code = (code, true) := by
  obtain ⟨⟨k, b⟩, rfl, rfl⟩ := Option.map_eq_some_iff.mp h
  simp [nextRun]

/-- The second receipt in a row of a code that is not the accepted one accepts it (04 R71). -/
theorem acceptsCode_again {a : Acceptance} {code : Nat} (hrun : a.run.map (·.1) = some code) (hnew : a.accepted ≠ some code) :
    acceptsCode a code = true := by simp [acceptsCode, nextRun_again hrun, hnew]

/-- The record of the tuner counts the code of a group (04 R71). -/
def counted (u : TunerId) (code : Nat) (c : Cabin) : Cabin := setAcceptance u (countCode code (c.tuner u).acc) c

theorem exec_groupEndsDwell {u : TunerId} {g : DataGroup} {raw : Nat} {s : State} (hok : g.ok = true) (hcode : g.code ≠ 0)
    (hdec : decoding s.cab u = .dwelling) (hrun : (s.cab.tuner u).acc.run.map (·.1) = some g.code)
    (hnew : (s.cab.tuner u).acc.accepted ≠ some g.code) (hdwell : s.cab.table.dwell = some raw) :
    exec (.dataGroup u g) s = .next (s.onCab fun _ =>
      settleDirectory (advanceScan (dwellOutcome raw (some g.code) (endDwell (counted u g.code s.cab))))) := by
  have hkept : ¬ (g.ok = false ∨ g.code = 0) := by simp [hok, hcode]
  have h : dataGroup u g s.cab = dwellEnd (some g.code) (counted u g.code s.cab) := by
    simp only [dataGroup, if_neg hkept, hdec, groupInDwell, acceptsCode_again hrun hnew, if_true]
    rfl
  rw [← dwellEnd_eq (c := counted u g.code s.cab) hdwell, ← h]
  rfl

/-! ## Outcomes of a dwell -/

theorem dwellOutcome_none_known {raw : Nat} {c : Cabin} {i : Fin 40} (h : stationAtFreq c c.table.position = some i) :
    dwellOutcome raw none c = c := by rw [dwellOutcome, h]

theorem dwellOutcome_new {raw : Nat} {accepted : Option Nat} {c : Cabin} (h : stationAtFreq c c.table.position = none) :
    dwellOutcome raw accepted c = dwellNew raw accepted c := by rw [dwellOutcome, h]

theorem dwellOutcome_none_finds (raw : Nat) (c : Cabin) : DwellFinds c (dwellOutcome raw none c) := by
  unfold dwellOutcome
  split
  · exact createFound_dwellFinds ..
  · exact .refl c

theorem dwellNew_finds (raw code : Nat) (c : Cabin) : DwellFinds c (dwellNew raw (some code) c) := by
  unfold dwellNew
  dsimp only
  split
  · exact foundAgain_dwellFinds ..
  · exact createFound_dwellFinds ..

/-- The find of a code that no live record has. -/
theorem dwellNew_created {raw code : Nat} {c : Cabin}
    (h : ∀ i q, (c.stationSlot i).record = some q → q.identity ≠ some code) :
    dwellNew raw (some code) c = createFound raw (some code) c := by
  have hnone : findStation c (fun r => decide (r.identity = some code)) = none := firstIdx_eq_none fun i => by
    split
    · rfl
    · next r hr => exact decide_eq_false (h i r hr)
  simp only [dwellNew, hnone]

/-- The find of a code that one live record has. -/
theorem dwellNew_again {raw code : Nat} {c : Cabin} {j : Fin 40} {r : Station} (hr : (c.stationSlot j).record = some r)
    (hcode : r.identity = some code)
    (honly : ∀ i q, (c.stationSlot i).record = some q → q.identity = some code → i = j) :
    dwellNew raw (some code) c = modifyStation j (foundAgain c.table.position.chan raw) c := by
  have hsome : findStation c (fun r => decide (r.identity = some code)) = some j :=
    firstIdx_eq_some (by simp [hr, hcode]) fun i hi => by
      split
      · rfl
      · next q hq => exact decide_eq_false fun hc => hi.ne (honly i q hq hc)
  simp only [dwellNew, hsome]

theorem DwellFollows.creates {s : State} {raw : Nat} {code : Option Nat} {c : Cabin} {t : State}
    (hf : DwellFollows s (createFound raw code c) t) :
    Creates c (newStation c.table.position raw .candidate .scan code) t.cab.stationSlot t.cab.table.tableFull := by
  have hslots : t.cab.stationSlot = (createFound raw code c).stationSlot := funext (stationSlot_of_slots hf.slots)
  rw [hslots, hf.tableFull]
  exact createFound_creates raw code c

theorem DwellFollows.shows {s : State} {raw : Nat} {code : Option Nat} {c : Cabin} {t : State}
    (hf : DwellFollows s (createFound raw code c) t) (hslots : c.table.slots = s.cab.table.slots)
    (hpart : c.ports.part = s.cab.ports.part) (hposts : s.cab.ports.part.posts = true)
    (hturn : ∃ i, t.cab.stationSlot i ≠ s.cab.stationSlot i) : t.shows .front .stations ∧ t.shows .rear .stations := by
  obtain ⟨i, hi⟩ := hturn
  have hshows : ShowsStations (createFound raw code c) := createFound_shows (by rwa [hpart])
    ⟨i, by rwa [← stationSlot_of_slots hf.slots, stationSlot_of_slots hslots]⟩
  exact ⟨hf.events _ _ (hshows .front), hf.events _ _ (hshows .rear)⟩

/-- Settles O28. -/
theorem passEndAndDwellEnd : Obligations.PassEndAndDwellEnd := by
  refine ⟨fun u f raw s hu hdwell hlast hraw => ?_, fun raw s hdwell hdef hband => ?_,
    fun u g raw s hok hcode hdec hrun hnew hdwell hband hdef hnone => ?_, fun s hdwell => ?_⟩
  · have hband : s.cab.table.position.band = .mw := by rw [hlast]
    have hexec := exec_scanMeasurement (f := f) (raw := raw) hu hdwell (by rw [hband]; exact hraw)
    rw [scanOutcome_advances (not_dwells_mw hband)] at hexec
    have htable := scanned_table raw s.cab
    have hlast' : nextFreq (scanned raw s.cab).table.position = none := by
      rw [(congrArg StationTable.position htable :), hlast]
      rfl
    have hstill : (scanned raw s.cab).table.dwell = none := (congrArg StationTable.dwell htable :).trans hdwell
    obtain ⟨hslots, hposition, hfull, hend⟩ := advanceScan_last hlast'
    have hages := scanned_ages raw s.cab
    simp only [agedSlot_of_chans (scanned_scanKeeps raw s.cab).frame.chans] at hslots
    have hkeeps := (scanned_scanKeeps raw s.cab).trans (advanceScan_scanKeeps _)
    have hall := hkeeps.frame
    have hscans := scanned_scans raw s.cab
    generalize advanceScan (scanned raw s.cab) = d at *
    refine ⟨_, _, _, hexec, hscans, fun i => ?_, hposition, hfull, hend.trans hstill, fun hposts hturn => ?_, hall.dir,
      hall.mix, hall.builder, chan_of_chans hall.chans, hall.slots, hall.calls, hall.events, ⟨rfl, rfl, rfl, rfl⟩⟩
    · have hi := hages i
      simp only [← hslots] at hi
      exact hi
    · have hshows := hkeeps.announced hposts hturn
      exact ⟨hshows .front, hshows .rear⟩
  · have hexec := exec_dwellEnd hdwell
    have hf := (dwellOutcome_none_finds raw (endDwell s.cab)).follows hdef hband
    generalize (s.onCab fun _ => settleDirectory _) = t at hexec hf
    refine ⟨t, hexec, hf.dwell, hf.position, fun i hi => ?_, fun hnone => ?_, fun hposts hturn => ?_, hf.zones, hf.routes,
      hf.outside, hf.calls, hf.kept, hf.plans⟩
    · exact hf.slots.trans (congrArg (·.table.slots) (dwellOutcome_none_known (c := endDwell s.cab) hi))
    · rw [dwellOutcome_new (c := endDwell s.cab) hnone] at hf
      exact hf.creates
    · cases hat : stationAtFreq s.cab s.cab.table.position with
      | some i =>
        rw [dwellOutcome_none_known (c := endDwell s.cab) hat] at hf
        obtain ⟨j, hj⟩ := hturn
        exact absurd (stationSlot_of_slots (c := endDwell s.cab) hf.slots j) hj
      | none =>
        rw [dwellOutcome_new (c := endDwell s.cab) hat] at hf
        exact hf.shows rfl rfl hposts hturn
  · have hexec := exec_groupEndsDwell hok hcode hdec hrun hnew hdwell
    rw [dwellOutcome_new (c := endDwell (counted u g.code s.cab)) hnone] at hexec
    have hf := (dwellNew_finds raw g.code (endDwell (counted u g.code s.cab))).follows
      (s := { s with cab := counted u g.code s.cab }) hdef hband
    generalize ht : (State.onCab _ { s with cab := counted u g.code s.cab }) = t at hf
    refine ⟨t, hexec.trans (congrArg _ ht), hf.dwell, hf.position, fun j r hr hid honly => ?_, fun hfresh => ?_, hf.zones,
      hf.routes, hf.outside, hf.calls, hf.kept, hf.plans⟩
    · rw [dwellNew_again (c := endDwell (counted u g.code s.cab)) hr hid honly] at hf
      have hslot (i) := (stationSlot_of_slots hf.slots i).trans
        (modifyStation_stationSlot_of (c := endDwell (counted u g.code s.cab)) hr _ i)
      refine ⟨(hslot j).trans ((if_pos rfl).trans ?_), fun i hi => (hslot i).trans (if_neg hi), hf.tableFull.trans (by simp; rfl)⟩
      have hdeferred := hdef j r hr
      simp only [foundAgain, ← hdeferred]
      rfl
    · rw [dwellNew_created (c := endDwell (counted u g.code s.cab)) hfresh] at hf
      exact ⟨hf.creates, fun hposts hturn => hf.shows rfl rfl hposts hturn⟩
  · have h : dwellEnd none s.cab = s.cab := by unfold dwellEnd; rw [hdwell]
    exact congrArg (fun c : Cabin => Host.Outcome.next { s with cab := c }) h

end Sys2Proof.Machine
end


section
/-! SUPPORT. A change of the records that leaves the demand as it is brings no new assignment about (05 R88, R89). -/

namespace Sys2Proof.Machine

/-- Every slot holds a live record where it did, of the same generation. -/
def SameLives (c d : Cabin) : Prop := ∀ i, (d.stationSlot i).gen = (c.stationSlot i).gen ∧
  (d.stationSlot i).record.isSome = (c.stationSlot i).record.isSome

theorem SameLives.refl (c : Cabin) : SameLives c c := fun _ => ⟨rfl, rfl⟩

theorem SameLives.trans {c d e : Cabin} (h : SameLives c d) (g : SameLives d e) : SameLives c e := fun i =>
  ⟨(g i).1.trans (h i).1, (g i).2.trans (h i).2⟩

theorem SameLives.of_slots {c d : Cabin} (h : d.table.slots = c.table.slots) : SameLives c d := fun i => by
  rw [stationSlot_of_slots h]
  exact ⟨rfl, rfl⟩

/-- The arbitration reads nothing of the records but which there are. -/
theorem newAssignment_of_lives {c : Cabin} {slots : Tab StationSlot 40}
    (h : SameLives c { c with table := { c.table with slots := slots } }) :
    newAssignment { c with table := { c.table with slots := slots } } = newAssignment c := by
  have hdemanded : demanded { c with table := { c.table with slots := slots } } = demanded c := by
    unfold demanded
    congr 1
    funext i
    obtain ⟨hgen, hlive⟩ := h i
    rw [stationId_of_gen (d := { c with table := { c.table with slots := slots } }) hgen]
    generalize Cabin.stationSlot { c with table := { c.table with slots := slots } } i = v at hgen hlive
    cases hv : v.record <;> cases hc : (c.stationSlot i).record <;> simp only [hv, hc] at hlive ⊢
    · cases hlive
    · cases hlive
    · rfl
  have hwinners : winners { c with table := { c.table with slots := slots } } = winners c := by
    unfold winners
    rw [hdemanded]
    rfl
  have hkept : keptStation { c with table := { c.table with slots := slots } } = keptStation c := by
    funext x
    unfold keptStation
    rw [hwinners]
    rfl
  unfold newAssignment
  rw [hwinners, hkept]
  rfl

/-- The demand and the channels are as they were, whatever else of the records has changed. -/
structure SameCall (c d : Cabin) : Prop where
  dir : d.dir = c.dir
  watch : d.table.watch = c.table.watch
  chans : d.alloc.chans = c.alloc.chans
  lives : SameLives c d

theorem SameCall.refl (c : Cabin) : SameCall c c := ⟨rfl, rfl, rfl, .refl c⟩

theorem SameCall.trans {c d e : Cabin} (h : SameCall c d) (g : SameCall d e) : SameCall c e :=
  ⟨g.dir.trans h.dir, g.watch.trans h.watch, g.chans.trans h.chans, h.lives.trans g.lives⟩

theorem SameCall.settled {c d : Cabin} (h : SameCall c d) (hc : Settled c) : Settled d := by
  have hdemand : SameDemand c { d with table := { d.table with slots := c.table.slots } } :=
    ⟨fun l k => by rw [← route_of_lists (c := c) (d := d) (by rw [h.dir])]; exact ⟨rfl, rfl⟩, by rw [h.dir], rfl, h.watch,
      fun x => by rw [← chan_of_chans h.chans]; rfl⟩
  have hlives : SameLives d { d with table := { d.table with slots := c.table.slots } } := fun i =>
    ⟨(h.lives i).1.symm, (h.lives i).2.symm⟩
  unfold Settled
  rw [← newAssignment_of_lives hlives, hdemand.newAssignment, chan_of_chans h.chans, chan_of_chans h.chans]
  exact hc

theorem Settled.arbitrate {c : Cabin} (h : Settled c) : arbitrate c = c := by
  unfold Machine.arbitrate
  split
  · exact if_pos h
  · rfl

/-- Where nothing is deferred and the channels carry the winners, only the route states follow. -/
theorem Settled.settleDirectory {c : Cabin} (h : Settled c) (hdef : NoDeferrals c) : settleDirectory c = settleRoutes c := by
  rw [Machine.settleDirectory, settleAllocator_eq_arbitrate hdef, h.arbitrate]

end Sys2Proof.Machine
end

section
/-! SUPPORT. Tests of the traffic conditions that change nothing, and the end of a bulletin (06 R109, R116, R117). -/

namespace Sys2Proof.Machine

/-- The traffic condition of every carried station has its entry, and every entry its targets. -/
theorem TrafficSettled.testTrafficOn {c : Cabin} (h : TrafficSettled c) (x : Chan) : testTrafficOn x c = c := by
  unfold Machine.testTrafficOn
  split
  · rfl
  · next g hg =>
    split
    · next i hi =>
      obtain ⟨e, y, he, hk⟩ := entry_of_holdsBulletin (trafficEntry_some hi)
      refine if_pos ?_
      rw [he, Option.map_some, h.2 i e he g y hk]
    · next hnone =>
      have hidle : ¬ trafficCondition c g = true := fun hc => by simpa [hnone] using h.1 x g hg hc
      rw [if_neg hidle]

theorem TrafficSettled.testTraffic {c : Cabin} (h : TrafficSettled c) : testTraffic c = c := by
  rw [Machine.testTraffic, h.testTrafficOn, h.testTrafficOn]

/-- Without the bulletin `e` of a station that no longer satisfies its condition the conditions are settled as before. -/
theorem TrafficSettled.without {c d : Cabin} {i : Fin 8} {e : Entry} {h : StationId} {y : Chan} (hc : TrafficSettled c)
    (he : (c.entrySlot i).entry = some e) (hk : e.kind = .traffic h y) (hcond : trafficCondition d h = false)
    (hfree : (d.entrySlot i).entry = none) (hslots : ∀ j, j ≠ i → d.entrySlot j = c.entrySlot j)
    (hchans : ∀ x, d.chan x = c.chan x) (htargets : ∀ g, trafficTargets d g = trafficTargets c g)
    (hother : ∀ g, g ≠ h → trafficCondition d g = trafficCondition c g) : TrafficSettled d := by
  refine ⟨fun x g hg hcg => ?_, fun j f hf g z hkf => ?_⟩
  · by_cases hgh : g = h
    · rw [hgh, hcond] at hcg
      cases hcg
    · have hbulletin : ∀ j, holdsBulletin d g j = holdsBulletin c g j := fun j => by
        unfold holdsBulletin
        by_cases hj : j = i
        · subst hj
          have hnot : e.bulletinOf g = false := by simp [Entry.bulletinOf, hk, Ne.symm hgh]
          rw [hfree, he]
          simp [hnot]
        · rw [hslots j hj]
      rw [trafficEntry_congr hbulletin]
      exact hc.1 x g (hchans x ▸ hg) (hother g hgh ▸ hcg)
  · by_cases hj : j = i
    · rw [hj, hfree] at hf
      cases hf
    · rw [hslots j hj] at hf
      rw [htargets]
      exact hc.2 j f hf g z hkf

theorem recordEnd_getLast (id : EntryId) (kind : EntryKind) (reason : EndReason) (c : Cabin) :
    (recordEnd id kind reason c).queue.ends.getLast? = some ⟨id, kind, reason, c.queue.endNumber⟩ := by
  simp only [recordEnd, List.getLast?_drop, List.length_append, List.length_singleton]
  rw [if_neg (by omega), List.getLast?_concat]

/-- The end of a bulletin, before what it makes others find again. -/
theorem removeEntry_bulletin {i : Fin 8} {e : Entry} {h : StationId} {x : Chan} (hk : e.kind = .traffic h x)
    {reason : EndReason} (hr : reason ≠ .displaced) (c : Cabin) : removeEntry i e reason c =
      postBoth .traffic (post .front .announce (recordEnd (c.entryId i) e.kind reason
        (freeVoices i (setEntrySlot i ⟨(c.entrySlot i).gen + 1, none⟩ c)))) := by
  simp [removeEntry, hr, hk, EntryKind.isTraffic]

end Sys2Proof.Machine
end


section
/-! SUPPORT. What a data group on a carried station changes before the directory settles (04 R71 to R75). -/

namespace Sys2Proof.Machine

/-! ## The frame of the decoder -/

/-- What no data group changes of itself: the demand, the channels, the tuners but for their acceptance, the scan. -/
structure Decodes (c d : Cabin) : Prop where
  call : SameCall c d
  calm : NoDeferrals c → NoDeferrals d
  table : { d.table with slots := c.table.slots } = c.table
  tuners : ∀ u, { d.tuner u with acc := (c.tuner u).acc } = c.tuner u
  stopped : d.alloc.stopped = c.alloc.stopped
  events : EventsKept c d
  part : d.ports.part = c.ports.part

theorem Decodes.refl (c : Cabin) : Decodes c c := ⟨.refl c, id, rfl, fun _ => rfl, rfl, fun _ _ h => h, rfl⟩

theorem Decodes.trans {c d e : Cabin} (h : Decodes c d) (g : Decodes d e) : Decodes c e where
  call := h.call.trans g.call
  calm hc := g.calm (h.calm hc)
  table := by
    rw [← h.table, ← g.table]
  tuners u := calc { e.tuner u with acc := (c.tuner u).acc }
    _ = { { e.tuner u with acc := (d.tuner u).acc } with acc := (c.tuner u).acc } := rfl
    _ = c.tuner u := by rw [g.tuners, h.tuners]
  stopped := g.stopped.trans h.stopped
  events p k hk := g.events p k (h.events p k hk)
  part := g.part.trans h.part

/-- A group that leaves the queue's entries alone: of the queue only the traffic-ignored set may change. -/
structure DecodesQuietly (c d : Cabin) : Prop where
  decodes : Decodes c d
  mix : d.mix = c.mix
  builder : d.builder = c.builder
  calls : d.calls = c.calls
  ports : { d.ports with events := c.ports.events } = c.ports
  queue : { d.queue with ignored := c.queue.ignored } = c.queue

theorem DecodesQuietly.refl (c : Cabin) : DecodesQuietly c c := ⟨.refl c, rfl, rfl, rfl, rfl, rfl⟩

theorem DecodesQuietly.trans {c d e : Cabin} (h : DecodesQuietly c d) (g : DecodesQuietly d e) : DecodesQuietly c e where
  decodes := h.decodes.trans g.decodes
  mix := g.mix.trans h.mix
  builder := g.builder.trans h.builder
  calls := g.calls.trans h.calls
  ports := by rw [← h.ports, ← g.ports]
  queue := by rw [← h.queue, ← g.queue]

theorem setAcceptance_quietly (u : TunerId) (a : Acceptance) (c : Cabin) : DecodesQuietly c (setAcceptance u a c) where
  decodes := by
    refine ⟨⟨rfl, rfl, rfl, .of_slots rfl⟩, fun h => h.of_slots rfl, rfl, fun v => ?_, rfl, fun _ _ h => h, rfl⟩
    by_cases hv : v = u
    · subst hv
      simp [setAcceptance, setTuner, Cabin.tuner]
    · simp [setAcceptance, setTuner, Cabin.tuner, PerTuner.get_set_ne _ _ _ _ hv]
  mix := rfl
  builder := rfl
  calls := rfl
  ports := rfl
  queue := rfl

theorem modifyStation_quietly (i : Fin 40) {g : Station → Station} (hg : ∀ r, (g r).deferred = r.deferred) (c : Cabin) :
    DecodesQuietly c (modifyStation i g c) := by
  have honly := OnlySlots.modifyStation i g c
  have hslot := modifyStation_stationSlot c i
  have hevents := (modifyStation_scanFrame i g c).events
  refine ⟨⟨⟨honly.dir, (congrArg StationTable.watch honly.table :), by rw [honly.alloc], fun j => ?_⟩, fun h => ?_, honly.table,
    fun u => by rw [Cabin.tuner, honly.alloc]; rfl, by rw [honly.alloc], hevents, (congrArg Ports.part honly.ports :)⟩, honly.mix, honly.builder,
    honly.calls, honly.ports, by rw [honly.queue]⟩
  · rw [hslot]
    split <;> simp
  · refine h.of_deferred fun j => ?_
    rw [hslot]
    split
    · rw [Option.map_map]
      exact congrArg (fun k => (c.stationSlot j).record.map k) (funext hg)
    · rfl

theorem postBoth_quietly (k : EventKind) (c : Cabin) : DecodesQuietly c (postBoth k c) where
  decodes := ⟨⟨by simp, by simp, by simp, .of_slots (by simp)⟩, fun h => h.of_slots (by simp), by simp,
    fun u => by simp [Cabin.tuner], by simp, (postBoth_undisturbed c k).events, by simp⟩
  mix := by simp
  builder := by simp
  calls := by simp
  ports := postBoth_ports k c
  queue := by simp

theorem unignoreStation_quietly (h : StationId) (c : Cabin) : DecodesQuietly c (unignoreStation h c) :=
  ⟨⟨⟨rfl, rfl, rfl, .of_slots rfl⟩, fun g => g.of_slots rfl, rfl, fun _ => rfl, rfl, fun _ _ h => h, rfl⟩, rfl, rfl, rfl, rfl, rfl⟩

/-- A record that takes an identity, the deferral apart. -/
theorem takeIdentity_eq {i : Fin 40} {r : Station} {c : Cabin} (hr : (c.stationSlot i).record = some r) (code : Nat) :
    takeIdentity i code c = postBoth .stations
      (if r.identity = none then setStationSlot i ⟨(c.stationSlot i).gen, some (r.identified code)⟩ c
       else unignoreStation (c.stationId i) (setStationSlot i ⟨(c.stationSlot i).gen, some (r.identified code)⟩ c)) := by
  unfold takeIdentity
  rw [hr]
  dsimp only
  have hid : (setStationSlot i ⟨(c.stationSlot i).gen, some (r.identified code)⟩ c).stationId i = c.stationId i :=
    stationId_of_gen (by simp)
  by_cases h : r.identity = none
  · simp [h, Station.identified]
  · rw [← hid]
    simp [h, Station.identified]

theorem setStationSlot_quietly {i : Fin 40} {r q : Station} {c : Cabin} (hr : (c.stationSlot i).record = some r)
    (hq : q.deferred = none) : DecodesQuietly c (setStationSlot i ⟨(c.stationSlot i).gen, some q⟩ c) := by
  refine ⟨⟨⟨rfl, rfl, rfl, fun j => ?_⟩, fun h j v hv => ?_, rfl, fun _ => rfl, rfl, fun _ _ h => h, rfl⟩, rfl, rfl, rfl, rfl, rfl⟩
  · rw [setStationSlot_stationSlot]
    split
    · next hj =>
      subst hj
      simp [hr]
    · exact ⟨rfl, rfl⟩
  · rw [setStationSlot_stationSlot] at hv
    split at hv
    · cases hv
      exact hq
    · exact h j v hv

theorem identified_deferred (r : Station) (code : Nat) : (r.identified code).deferred = none := by
  unfold Station.identified
  split <;> rfl

theorem identified_identity (r : Station) (code : Nat) : (r.identified code).identity = some code := by
  unfold Station.identified
  split <;> rfl

theorem takeIdentity_quietly {i : Fin 40} {r : Station} {c : Cabin} (hr : (c.stationSlot i).record = some r) (code : Nat) :
    DecodesQuietly c (takeIdentity i code c) := by
  have hset := setStationSlot_quietly hr (identified_deferred r code)
  rw [takeIdentity_eq hr]
  split
  · exact hset.trans (postBoth_quietly ..)
  · exact (hset.trans (unignoreStation_quietly ..)).trans (postBoth_quietly ..)

theorem takeIdentity_shows {i : Fin 40} {r : Station} {c : Cabin} (hr : (c.stationSlot i).record = some r) (code : Nat)
    (hp : c.ports.part.posts = true) : ShowsStations (takeIdentity i code c) := fun p => by
  rw [takeIdentity_eq hr]
  refine postBoth_shows ?_ p .stations
  split <;> exact hp

theorem mem_takeIdentity_ignored {i : Fin 40} {r : Station} {c : Cabin} (hr : (c.stationSlot i).record = some r) (code : Nat)
    (a : StationId) : a ∈ (takeIdentity i code c).queue.ignored ↔
      a ∈ c.queue.ignored ∧ (r.identity ≠ none → a ≠ c.stationId i) := by
  rw [takeIdentity_eq hr, postBoth_queue]
  split
  · next h => simp [h, setStationSlot]
  · next h => simp [h, unignoreStation, setStationSlot]

/-! ## What follows -/

/-- A data group on a carried station ends with the directory settling about a table the demand of which is as it was. -/
theorem Decodes.settles {c d : Cabin} (h : Decodes c d) (hdef : NoDeferrals c) (hset : Settled c) :
    settleDirectory d = settleRoutes d ∧ FollowsUp d (settleRoutes d) := by
  have he := (h.call.settled hset).settleDirectory (h.calm hdef)
  exact ⟨he, he ▸ settleDirectory_followsUp (h.calm hdef)⟩

theorem DecodesQuietly.around {c d : Cabin} (h : DecodesQuietly c d) (hig : d.queue.ignored = c.queue.ignored) : Around c d := by
  have hpatterns : d.queue.patterns = c.queue.patterns := (congrArg Queue.patterns h.queue :)
  refine Undisturbed.around ⟨h.decodes.events, fun i => ?_, fun z => ?_, fun j hj => by rwa [h.builder]⟩
    ⟨h.decodes.part, (congrArg Ports.relay h.ports :), (congrArg Ports.liteNumber h.ports :), (congrArg Ports.status h.ports :),
      (congrArg Ports.response h.ports :), by rw [h.calls], by rw [h.calls], by rw [h.calls], by rw [h.calls], by rw [h.mix],
      by rw [h.builder], (congrArg StationTable.position h.decodes.table :), (congrArg StationTable.tableFull h.decodes.table :),
      h.decodes.stopped, hpatterns, hig⟩
  · have hcalls : d.calls.slots = c.calls.slots := by rw [h.calls]
    simp [callSlot_of_slots hcalls]
  · have hmix : d.mix.zones = c.mix.zones := by rw [h.mix]
    simp [mixZone_of_zones hmix]

/-- A command that answers no port. -/
theorem Around.keptAround_unanswered {s : State} {d : Cabin} (h : Around s.cab d) (p : Port) :
    KeptAround p s (s.onCab fun _ => d) := by
  have hf := h.frame
  exact ⟨⟨rfl, rfl, rfl, rfl⟩, ⟨hf.part, hf.relay, hf.liteNumber, hf.status, congrArg (·.get p.other) hf.response⟩, h.events,
    ⟨hf.canceller, hf.uplinkGain, hf.uplinkLevel, hf.phoneUl, h.calls⟩, h.plans, h.levels, h.build, hf.channels, hf.hold,
    hf.position, hf.tableFull, hf.stopped, hf.patterns, hf.ignored⟩

theorem DecodesQuietly.keptButStations {s : State} {d : Cabin} (h : DecodesQuietly s.cab d)
    (hig : d.queue.ignored = s.cab.queue.ignored) (hf : FollowsUp d (settleRoutes d)) :
    KeptButStations s (s.onCab fun _ => settleRoutes d) := by
  have htable := h.decodes.table
  have halloc : (settleRoutes d).alloc = d.alloc := settleRoutes_alloc d
  have hkept : (settleRoutes d).table = d.table := settleRoutes_table d
  have haround := (h.around hig).trans hf.around
  generalize settleRoutes d = e at *
  refine ⟨haround.keptAround_unanswered .front, congrArg (·.get Port.front) haround.frame.response,
    hf.zones.trans (by rw [h.decodes.call.dir]), hf.rearControl.trans (by rw [h.decodes.call.dir]),
    hf.media.trans (by rw [h.decodes.call.dir]), fun l k => hf.route_other (route_of_lists (by rw [h.decodes.call.dir]) l k),
    hf.watch.trans (congrArg StationTable.watch htable :), hf.cursor.trans (congrArg StationTable.cursor htable :),
    (congrArg StationTable.dwell hkept).trans (congrArg StationTable.dwell htable :), fun x => ?_, fun u => ?_⟩
  · exact (chan_of_chans (congrArg Allocator.chans halloc) x).trans (chan_of_chans h.decodes.call.chans x)
  · have htuner : e.tuner u = d.tuner u := by rw [Cabin.tuner, halloc]; rfl
    exact (congrArg (fun v : Tuner => { v with acc := (s.cab.tuner u).acc }) htuner).trans (h.decodes.tuners u)

end Sys2Proof.Machine
end


section
/-! SUPPORT. Data groups on a carried station, command by command (04 R71 to R75). -/

namespace Sys2Proof.Machine

/-! ## Codes (04 R71) -/

theorem nextRun_snd_false {run : Option (Nat × Bool)} {code : Nat} (h : run.map (·.1) ≠ some code) :
    nextRun run code = (code, false) := by
  cases run with
  | none => rfl
  | some v =>
    obtain ⟨k, b⟩ := v
    have hk : k ≠ code := fun e => h (by rw [e]; rfl)
    simp [nextRun, hk]

theorem acceptsCode_of_accepted {a : Acceptance} {code : Nat} (h : a.accepted = some code) : acceptsCode a code = false := by
  simp [acceptsCode, h]

theorem acceptsCode_first {a : Acceptance} {code : Nat} (h : a.run.map (·.1) ≠ some code) : acceptsCode a code = false := by
  simp [acceptsCode, nextRun_snd_false h]

theorem countCode_kept {a : Acceptance} {code : Nat} (h : acceptsCode a code = false) :
    countCode code a = { a with run := some (nextRun a.run code) } := by simp [countCode, h]

theorem countCode_new {a : Acceptance} {code : Nat} (h : acceptsCode a code = true) :
    countCode code a = ⟨some (nextRun a.run code), some code, Tab.fill 4 none, none⟩ := by simp [countCode, h]

theorem setAcceptance_acc (u : TunerId) (a : Acceptance) (c : Cabin) : ((setAcceptance u a c).tuner u).acc = a := by
  simp [setAcceptance, setTuner, Cabin.tuner]

theorem counted_acc (u : TunerId) (code : Nat) (c : Cabin) :
    ((counted u code c).tuner u).acc = countCode code (c.tuner u).acc := setAcceptance_acc ..

theorem counted_quietly (u : TunerId) (code : Nat) (c : Cabin) : DecodesQuietly c (counted u code c) :=
  setAcceptance_quietly ..

/-! ## A group on a channel (04 R71) -/

theorem station_eq_some {c : Cabin} {h : StationId} {r : Station} (hgen : (c.stationSlot h.slot).gen = h.gen)
    (hr : (c.stationSlot h.slot).record = some r) : c.station h = some r := (if_pos hgen).trans hr

theorem exec_groupOnChan {u : TunerId} {x : Chan} {g : DataGroup} {s : State} (hok : g.ok = true) (hcode : g.code ≠ 0)
    (hdec : decoding s.cab u = .onChan x) :
    exec (.dataGroup u g) s = .next (s.onCab fun _ => groupOnChan u x g s.cab) := by
  have hkept : ¬ (g.ok = false ∨ g.code = 0) := by simp [hok, hcode]
  have h : dataGroup u g s.cab = groupOnChan u x g s.cab := by simp only [dataGroup, if_neg hkept, hdec]
  rw [← h]
  rfl

section

variable {u : TunerId} {x : Chan} {g : DataGroup} {h : StationId} {r : Station} {c : Cabin}
  (hx : (c.chan x).station = some h)
include hx

/-- A code that neither is accepted nor becomes so leaves nothing but its count. -/
theorem groupOnChan_discarded (hold : acceptsCode (c.tuner u).acc g.code = false)
    (hother : (c.tuner u).acc.accepted ≠ some g.code) :
    groupOnChan u x g c = settleDirectory (counted u g.code c) := by
  have hx' : ((counted u g.code c).chan x).station = some h := hx
  have htaken : contentTaken (counted u g.code c) u h g.code = false := by
    simp [contentTaken, counted_acc, countCode_kept hold, hother]
  unfold groupOnChan
  extract_lets new d e f
  have he : e = counted u g.code c := by
    change (match ((counted u g.code c).chan x).station with | none => _ | some h => _) = _
    rw [hx']
    exact if_neg (by rw [show new = false from hold]; exact Bool.false_ne_true)
  have hf : f = counted u g.code c := by
    unfold f
    rw [he, hx']
    dsimp only
    rw [htaken]
    rfl
  rw [hf]

variable (hgen : (c.stationSlot h.slot).gen = h.gen) (hr : (c.stationSlot h.slot).record = some r)
include hgen hr

/-- The content of a group whose code is accepted and is the record's identity is taken. -/
theorem groupOnChan_taken (hacc : (c.tuner u).acc.accepted = some g.code) (hid : r.identity = some g.code) :
    groupOnChan u x g c = settleDirectory (takeContent u h g.content (counted u g.code c)) := by
  have hold := acceptsCode_of_accepted hacc
  have hx' : ((counted u g.code c).chan x).station = some h := hx
  have htaken : contentTaken (counted u g.code c) u h g.code = true := by
    have hst : (counted u g.code c).station h = some r := station_eq_some hgen hr
    simp [contentTaken, counted_acc, countCode_kept hold, hacc, hst, hid]
  unfold groupOnChan
  extract_lets new d e f
  have he : e = counted u g.code c := by
    change (match ((counted u g.code c).chan x).station with | none => _ | some h => _) = _
    rw [hx']
    exact if_neg (by rw [show new = false from hold]; exact Bool.false_ne_true)
  have hf : f = takeContent u h g.content (counted u g.code c) := by
    unfold f
    rw [he, hx']
    dsimp only
    rw [htaken]
    rfl
  rw [hf]

/-- A code that becomes the accepted one, and that no other record has, becomes the identity of the record. -/
theorem groupOnChan_identified (hnew : acceptsCode (c.tuner u).acc g.code = true) (hid : r.identity ≠ some g.code)
    (hnone : otherWithIdentity c h.slot g.code = none) :
    groupOnChan u x g c =
      settleDirectory (takeContent u h g.content (takeIdentity h.slot g.code (counted u g.code c))) := by
  have hx' : ((counted u g.code c).chan x).station = some h := hx
  have hr' : ((counted u g.code c).stationSlot h.slot).record = some r := hr
  have hnone' : otherWithIdentity (counted u g.code c) h.slot g.code = none := hnone
  have happly : applyIdentity h.slot g.code (counted u g.code c) = takeIdentity h.slot g.code (counted u g.code c) := by
    simp only [applyIdentity, hr', if_neg hid, hnone']
  have hquiet := (takeIdentity_quietly hr' g.code).decodes
  have halloc : (takeIdentity h.slot g.code (counted u g.code c)).alloc = (counted u g.code c).alloc := by
    rw [takeIdentity_eq hr', postBoth_alloc]
    split <;> rfl
  have htaken : contentTaken (takeIdentity h.slot g.code (counted u g.code c)) u h g.code = true := by
    have hslot := takeIdentity_stationSlot (code := g.code) hr' h.slot
    rw [if_pos rfl] at hslot
    have hst := station_eq_some (h := h) (r := r.identified g.code) ((congrArg StationSlot.gen hslot).trans hgen)
      (congrArg StationSlot.record hslot)
    have hacc : ((takeIdentity h.slot g.code (counted u g.code c)).tuner u).acc = countCode g.code (c.tuner u).acc := by
      rw [Cabin.tuner, halloc]
      exact counted_acc ..
    simp [contentTaken, hacc, countCode_new hnew, hst, identified_identity]
  unfold groupOnChan
  extract_lets new d e f
  have he : e = takeIdentity h.slot g.code (counted u g.code c) := by
    change (match ((counted u g.code c).chan x).station with | none => _ | some h => _) = _
    rw [hx', ← happly]
    exact if_pos hnew
  have hf : f = takeContent u h g.content (takeIdentity h.slot g.code (counted u g.code c)) := by
    unfold f
    rw [he, chan_of_chans hquiet.call.chans, hx']
    dsimp only
    rw [htaken]
    rfl
  rw [hf]

end

end Sys2Proof.Machine
end


section
/-! SUPPORT. What the contents of a group do (04 R72 to R74). -/

namespace Sys2Proof.Machine

variable (u : TunerId) (h : StationId) (c : Cabin)

/-! ## Names and alternates (04 R72, R74) -/

theorem takeAlt_deferred (ch : Option Nat) (r : Station) : (takeAlt ch r).deferred = r.deferred := by
  unfold takeAlt
  repeat' split
  all_goals rfl

theorem takeName_quietly (seg : Fin 4) (v : Segment) : DecodesQuietly c (takeName u h seg v c) := by
  unfold takeName
  dsimp only
  split
  · exact (setAcceptance_quietly ..).trans (modifyStation_quietly _ (fun _ => by rfl) _)
  · exact setAcceptance_quietly ..

theorem takeAlts_quietly (f g : Option Nat) : DecodesQuietly c (takeContent u h (.alts f g) c) :=
  modifyStation_quietly _ (fun r => by rw [takeAlt_deferred, takeAlt_deferred]) c

theorem modifyStation_ignored (i : Fin 40) (g : Station → Station) : (modifyStation i g c).queue.ignored = c.queue.ignored :=
  congrArg Queue.ignored (OnlySlots.modifyStation i g c).queue

theorem modifyStation_tuner (i : Fin 40) (g : Station → Station) (v : TunerId) :
    (modifyStation i g c).tuner v = c.tuner v := by rw [Cabin.tuner, (OnlySlots.modifyStation i g c).alloc]; rfl

theorem takeName_ignored (seg : Fin 4) (v : Segment) : (takeName u h seg v c).queue.ignored = c.queue.ignored := by
  unfold takeName
  dsimp only
  split
  · exact modifyStation_ignored ..
  · rfl

theorem takeName_acc (seg : Fin 4) (v : Segment) : ((takeName u h seg v c).tuner u).acc =
    { (c.tuner u).acc with segments := (c.tuner u).acc.segments.set seg (some v) } := by
  unfold takeName
  dsimp only
  split
  · rw [modifyStation_tuner, setAcceptance_acc]
  · rw [setAcceptance_acc]

variable {u h c}

theorem takeName_stationSlot {r : Station} (hr : (c.stationSlot h.slot).record = some r) (seg : Fin 4) (v : Segment)
    (j : Fin 40) : (takeName u h seg v c).stationSlot j = if j = h.slot then ⟨(c.stationSlot h.slot).gen, some
      (if (c.tuner u).acc.segments.get seg = some v then { r with name := r.name.set seg (some v) } else r)⟩
      else c.stationSlot j := by
  unfold takeName
  dsimp only
  split
  · exact modifyStation_stationSlot_of (c := setAcceptance u _ c) hr _ j
  · split
    · next hj =>
      subst hj
      exact stationSlot_eq_some hr
    · rfl

/-! ## Traffic flags (04 R73, 06 R116, R117) -/

/-- The record has accepted the flags. -/
def flagged (h : StationId) (tp ta : Bool) (c : Cabin) : Cabin :=
  modifyStation h.slot (fun r => { r with tp := some tp, ta := some ta }) c

theorem acceptFlags_true (tp : Bool) : acceptFlags h tp true c = testStation h (flagged h tp true c) := rfl

theorem acceptFlags_false (tp : Bool) : acceptFlags h tp false c = clearTraffic h (flagged h tp false c) := rfl

theorem flagged_quietly (h : StationId) (tp ta : Bool) (c : Cabin) : DecodesQuietly c (flagged h tp ta c) :=
  modifyStation_quietly _ (fun _ => by rfl) c

theorem testStation_decodes (h : StationId) (c : Cabin) : Decodes c (testStation h c) :=
  ⟨⟨by simp, by simp, by simp, .of_slots (by simp)⟩, fun hc => hc.of_slots (by simp), by simp,
    fun v => by simp [Cabin.tuner], by simp, (testStation_undisturbed h c).events, by simp⟩

theorem clearTraffic_decodes (h : StationId) (c : Cabin) : Decodes c (clearTraffic h c) := by
  unfold clearTraffic
  refine Decodes.trans ?_ (unignoreStation_quietly ..).decodes
  split
  · exact .refl c
  · next i _ =>
    exact ⟨⟨by simp, by simp, by simp, .of_slots (by simp)⟩, fun hc => hc.of_slots (by simp), by simp,
      fun v => by simp [Cabin.tuner], by simp, (endEntry_undisturbed i .cleared c).events, by simp⟩

theorem acceptFlags_decodes (h : StationId) (tp ta : Bool) (c : Cabin) : Decodes c (acceptFlags h tp ta c) := by
  cases ta with
  | true => exact (flagged_quietly ..).decodes.trans (testStation_decodes ..)
  | false => exact (flagged_quietly ..).decodes.trans (clearTraffic_decodes ..)

theorem clearTraffic_table (h : StationId) (c : Cabin) : (clearTraffic h c).table = c.table := by
  unfold clearTraffic
  rw [unignoreStation_table]
  split <;> simp

theorem acceptFlags_table (h : StationId) (tp ta : Bool) (c : Cabin) :
    (acceptFlags h tp ta c).table = (flagged h tp ta c).table := by
  cases ta with
  | true => rw [acceptFlags_true, testStation_table]
  | false => rw [acceptFlags_false, clearTraffic_table]

theorem acceptFlags_alloc (h : StationId) (tp ta : Bool) (c : Cabin) : (acceptFlags h tp ta c).alloc = c.alloc := by
  have hflag : (flagged h tp ta c).alloc = c.alloc := (OnlySlots.modifyStation ..).alloc
  cases ta with
  | true => rw [acceptFlags_true, testStation_alloc, hflag]
  | false =>
    rw [acceptFlags_false, clearTraffic, unignoreStation_alloc]
    split
    · exact hflag
    · rw [endEntry_alloc, hflag]

theorem trafficAgrees_iff {a : Acceptance} {tp ta : Bool} :
    trafficAgrees a tp ta = true ↔ a.traffic.map (·.1) = some (tp, ta) := by
  unfold trafficAgrees
  cases a.traffic <;> simp

/-- The tuner counts the flags of a group. -/
def countedFlags (u : TunerId) (tp ta : Bool) (c : Cabin) : Cabin :=
  setAcceptance u { (c.tuner u).acc with traffic := some ((tp, ta), trafficAgrees (c.tuner u).acc tp ta) } c

theorem countedFlags_acc (u : TunerId) (tp ta : Bool) (c : Cabin) : ((countedFlags u tp ta c).tuner u).acc =
    { (c.tuner u).acc with traffic := some ((tp, ta), trafficAgrees (c.tuner u).acc tp ta) } := setAcceptance_acc ..

theorem takeIdent_accepted {tp ta : Bool} (hagree : (c.tuner u).acc.traffic.map (·.1) = some (tp, ta)) :
    takeIdent u h tp ta c = acceptFlags h tp ta (countedFlags u tp ta c) := by
  unfold takeIdent
  exact if_pos (trafficAgrees_iff.mpr hagree)

theorem takeIdent_counted {tp ta : Bool} (hagree : (c.tuner u).acc.traffic.map (·.1) ≠ some (tp, ta)) :
    takeIdent u h tp ta c = countedFlags u tp ta c := by
  unfold takeIdent
  exact if_neg (mt trafficAgrees_iff.mp hagree)

theorem takeIdent_decodes (u : TunerId) (h : StationId) (tp ta : Bool) (c : Cabin) : Decodes c (takeIdent u h tp ta c) := by
  by_cases hagree : (c.tuner u).acc.traffic.map (·.1) = some (tp, ta)
  · rw [takeIdent_accepted hagree]
    exact (setAcceptance_quietly ..).decodes.trans (acceptFlags_decodes ..)
  · rw [takeIdent_counted hagree]
    exact (setAcceptance_quietly ..).decodes

theorem takeIdent_stationSlot {r : Station} (hr : (c.stationSlot h.slot).record = some r) (tp ta : Bool) (j : Fin 40) :
    (takeIdent u h tp ta c).stationSlot j = if j = h.slot then ⟨(c.stationSlot h.slot).gen, some
      (if (c.tuner u).acc.traffic.map (·.1) = some (tp, ta) then { r with tp := some tp, ta := some ta } else r)⟩
      else c.stationSlot j := by
  by_cases hagree : (c.tuner u).acc.traffic.map (·.1) = some (tp, ta)
  · rw [takeIdent_accepted hagree, if_pos hagree, stationSlot_of_slots (congrArg StationTable.slots (acceptFlags_table ..))]
    exact modifyStation_stationSlot_of (c := countedFlags u tp ta c) hr _ j
  · rw [takeIdent_counted hagree, if_neg hagree]
    split
    · next hj =>
      subst hj
      exact stationSlot_eq_some hr
    · rfl

/-! ## Any content -/

theorem takeContent_decodes (u : TunerId) (h : StationId) (g : GroupContent) (c : Cabin) : Decodes c (takeContent u h g c) := by
  cases g with
  | ident tp ta => exact takeIdent_decodes ..
  | name seg a b => exact (takeName_quietly ..).decodes
  | alts f g => exact (takeAlts_quietly ..).decodes

theorem takeContent_accepted (u : TunerId) (h : StationId) (g : GroupContent) (c : Cabin) :
    ((takeContent u h g c).tuner u).acc.accepted = (c.tuner u).acc.accepted := by
  cases g with
  | ident tp ta =>
    change ((takeIdent u h tp ta c).tuner u).acc.accepted = _
    by_cases hagree : (c.tuner u).acc.traffic.map (·.1) = some (tp, ta)
    · rw [takeIdent_accepted hagree, Cabin.tuner, acceptFlags_alloc]
      exact (congrArg Acceptance.accepted (countedFlags_acc u tp ta c) :)
    · rw [takeIdent_counted hagree]
      exact (congrArg Acceptance.accepted (countedFlags_acc u tp ta c) :)
  | name seg a b => exact (congrArg Acceptance.accepted (takeName_acc u h c seg (a, b)) :)
  | alts f g => exact congrArg (·.acc.accepted) (modifyStation_tuner c _ _ u)

/-- A record that takes the frequencies of an ALTS group, and nothing of another. -/
def withAlternates (g : GroupContent) (r : Station) : Station :=
  match g with
  | .alts f1 f2 => takeAlt f2 (takeAlt f1 r)
  | _ => r

/-- Where no content has come since the code was accepted, that of an IDENT or NAME group is only counted. -/
theorem takeContent_fresh {r : Station} {g : GroupContent} (hr : (c.stationSlot h.slot).record = some r)
    (htraffic : (c.tuner u).acc.traffic = none) (hname : (c.tuner u).acc.segments = Tab.fill 4 none) :
    DecodesQuietly c (takeContent u h g c) ∧ (takeContent u h g c).queue = c.queue ∧
    ∀ j, (takeContent u h g c).stationSlot j = if j = h.slot then ⟨(c.stationSlot h.slot).gen,
      some (withAlternates g r)⟩ else c.stationSlot j := by
  have hself : ∀ j, c.stationSlot j = if j = h.slot then ⟨(c.stationSlot h.slot).gen, some r⟩ else c.stationSlot j := fun j => by
    split
    · next hj =>
      subst hj
      exact stationSlot_eq_some hr
    · rfl
  cases g with
  | ident tp ta =>
    have hagree : (c.tuner u).acc.traffic.map (·.1) ≠ some (tp, ta) := by simp [htraffic]
    have he : takeContent u h (.ident tp ta) c = countedFlags u tp ta c := takeIdent_counted hagree
    rw [he]
    exact ⟨setAcceptance_quietly .., rfl, hself⟩
  | name seg a b =>
    have hnot : (c.tuner u).acc.segments.get seg ≠ some (a, b) := by simp [hname]
    have he : takeContent u h (.name seg a b) c =
        setAcceptance u { (c.tuner u).acc with segments := (c.tuner u).acc.segments.set seg (some (a, b)) } c := if_neg hnot
    rw [he]
    exact ⟨setAcceptance_quietly .., rfl, hself⟩
  | alts f1 f2 =>
    exact ⟨takeAlts_quietly .., (OnlySlots.modifyStation ..).queue, modifyStation_stationSlot_of hr _⟩

end Sys2Proof.Machine
end


section
/-! SUPPORT. A bulletin that accepted flags raise, and one that they end (06 R116, R117). -/

namespace Sys2Proof.Machine

theorem trafficTargets_congr {c d : Cabin} (hdir : d.dir = c.dir) (hwatch : d.table.watch = c.table.watch) (g : StationId) :
    trafficTargets d g = trafficTargets c g := by
  have hnames : ∀ l, listNames d l (.station g) = listNames c l (.station g) := fun l =>
    listNames_congr fun k => by rw [route_of_lists (c := c) (by rw [hdir])]; exact ⟨rfl, rfl⟩
  unfold trafficTargets
  simp only [Cabin.zone, hdir, hwatch, hnames]

theorem trafficCondition_congr {c d : Cabin} (hdir : d.dir = c.dir) (hwatch : d.table.watch = c.table.watch)
    (hig : d.queue.ignored = c.queue.ignored) {g : StationId} (hst : d.station g = c.station g) :
    trafficCondition d g = trafficCondition c g := by
  unfold trafficCondition
  rw [hst, hig, trafficTargets_congr hdir hwatch]

theorem chan_of_chanOf {c : Cabin} {h : StationId} {x : Chan} (hx : chanOf c h = some x) : (c.chan x).station = some h := by
  unfold chanOf at hx
  split at hx
  · cases hx
    assumption
  · split at hx
    · cases hx
      assumption
    · cases hx

theorem freeEntrySlot_eq_some {c : Cabin} {k : Fin 8} (hk : (c.entrySlot k).entry = none)
    (hlow : ∀ j, j < k → (c.entrySlot j).entry ≠ none) : freeEntrySlot c = some k :=
  firstIdx_eq_some (decide_eq_true hk) fun j hj => decide_eq_false (hlow j hj)

/-- A test that raises a bulletin in a free slot. -/
theorem testStation_raises {c : Cabin} {h : StationId} {x : Chan} {k : Fin 8} (hx : chanOf c h = some x)
    (hnone : trafficEntry c h = none) (hcond : trafficCondition c h = true) (hfree : freeEntrySlot c = some k) :
    testStation h c = postBoth .traffic (refreshSound (putEntry k (.traffic h x) 3 (trafficTargets c h) trafficLimit c)) := by
  have hadmit : admission c 3 = .takes k := by rw [admission, hfree]
  have htest : testTrafficOn x c =
      postBoth .traffic (refreshSound (putEntry k (.traffic h x) 3 (trafficTargets c h) trafficLimit c)) := by
    unfold testTrafficOn
    rw [chan_of_chanOf hx]
    dsimp only
    rw [hnone]
    dsimp only
    rw [if_pos hcond, admitEntry, hadmit]
  unfold testStation
  rw [hx]
  dsimp only
  rw [htest]
  refine if_pos ?_
  simp [putEntry]

theorem testStation_raised_slots {c : Cabin} {h : StationId} {x : Chan} {k : Fin 8} (hx : chanOf c h = some x)
    (hnone : trafficEntry c h = none) (hcond : trafficCondition c h = true) (hfree : freeEntrySlot c = some k) (j : Fin 8) :
    (testStation h c).entrySlot j = if j = k then ⟨(c.entrySlot k).gen, some {
      kind := .traffic h x, priority := 3, targets := trafficTargets c h, order := c.queue.order, timeLeft := 300000 }⟩
      else c.entrySlot j := by
  rw [testStation_raises hx hnone hcond hfree]
  exact (entrySlot_of_slots (c := putEntry k (.traffic h x) 3 (trafficTargets c h) trafficLimit c) (by simp) j).trans
    (putEntry_entrySlot ..)

theorem testStation_raised_shows {c : Cabin} {h : StationId} {x : Chan} {k : Fin 8} (hx : chanOf c h = some x)
    (hnone : trafficEntry c h = none) (hcond : trafficCondition c h = true) (hfree : freeEntrySlot c = some k)
    (hp : c.ports.part.posts = true) (p : Port) :
    EventSet.has ((testStation h c).ports.events.get p) .traffic = true := by
  rw [testStation_raises hx hnone hcond hfree]
  refine postBoth_shows ?_ p .traffic
  rw [refreshSound_part]
  exact hp

/-! ## The end of a bulletin (06 R117) -/

theorem clearTraffic_not_ignored (h : StationId) (c : Cabin) : h ∉ (clearTraffic h c).queue.ignored := by
  unfold clearTraffic
  simp [unignoreStation]

/-- What the end of a bulletin that a flag clears leaves, where the traffic conditions were settled before the flag. -/
theorem clearTraffic_ends {c m : Cabin} {h : StationId} {i : Fin 8} {e : Entry} (hc : TrafficSettled c)
    (hi : trafficEntry c h = some i) (he : (c.entrySlot i).entry = some e) (hcall : SameCall c m)
    (hqueue : m.queue = c.queue) (hcond : trafficCondition m h = false)
    (hother : ∀ g, g ≠ h → m.station g = c.station g) :
    clearTraffic h m = unignoreStation h (refreshSound (removeEntry i e .cleared m)) := by
  obtain ⟨f, y, hf, hk⟩ := entry_of_holdsBulletin (trafficEntry_some hi)
  obtain rfl := Option.some.inj (he.symm.trans hf)
  have hslot (j) : m.entrySlot j = c.entrySlot j := entrySlot_of_slots (by rw [hqueue]) j
  have hi' : trafficEntry m h = some i := by
    rw [← hi]
    exact trafficEntry_congr fun j => by rw [holdsBulletin, hslot]; rfl
  have hn (j) : (refreshSound (removeEntry i e .cleared m)).entrySlot j = _ :=
    (entrySlot_of_slots (refreshSound_slots _) j).trans (removeEntry_entrySlot i j e .cleared m)
  have hdir : (refreshSound (removeEntry i e .cleared m)).dir = m.dir := by simp
  have htable : (refreshSound (removeEntry i e .cleared m)).table = m.table := by simp
  have halloc : (refreshSound (removeEntry i e .cleared m)).alloc = m.alloc := by simp
  have hig : (refreshSound (removeEntry i e .cleared m)).queue.ignored = m.queue.ignored := by simp
  have hend : endEntry i .cleared m = testTraffic (refreshSound (removeEntry i e .cleared m)) := by
    rw [endEntry, hslot, he]
    rfl
  have hsettled : TrafficSettled (refreshSound (removeEntry i e .cleared m)) := by
    generalize refreshSound (removeEntry i e .cleared m) = n at *
    have hst (g) : n.station g = m.station g := by
      simp only [Cabin.station, stationSlot_of_slots (congrArg StationTable.slots htable)]
    refine hc.without he hk ?_ ?_ (fun j hj => ?_) (fun x => ?_) (fun g => ?_) (fun g hg => ?_)
    · rw [trafficCondition_congr hdir (by rw [htable]) hig (hst h), hcond]
    · rw [hn, if_pos rfl]
    · rw [hn, if_neg hj, hslot]
    · exact (chan_of_chans (by rw [halloc]) x).trans (chan_of_chans hcall.chans x)
    · exact trafficTargets_congr (hdir.trans hcall.dir) ((congrArg StationTable.watch htable).trans hcall.watch) g
    · exact trafficCondition_congr (hdir.trans hcall.dir) ((congrArg StationTable.watch htable).trans hcall.watch)
        (hig.trans (by rw [hqueue])) ((hst g).trans (hother g hg))
  rw [clearTraffic, hi']
  dsimp only
  rw [hend, hsettled.testTraffic]

theorem removeEntry_bulletin_ends {i : Fin 8} {e : Entry} {h : StationId} {x : Chan} (hk : e.kind = .traffic h x) (c : Cabin) :
    (removeEntry i e .cleared c).queue.ends.getLast? = some ⟨c.entryId i, e.kind, .cleared, c.queue.endNumber⟩ := by
  rw [removeEntry_bulletin hk (by decide), postBoth_queue, post_queue, recordEnd_getLast]
  rfl

theorem removeEntry_bulletin_shows {i : Fin 8} {e : Entry} {h : StationId} {x : Chan} (hk : e.kind = .traffic h x) {c : Cabin}
    (hp : c.ports.part.posts = true) : let d := removeEntry i e .cleared c
    EventSet.has (d.ports.events.get .front) .announce = true ∧ EventSet.has (d.ports.events.get .front) .traffic = true ∧
    EventSet.has (d.ports.events.get .rear) .traffic = true := by
  dsimp only
  rw [removeEntry_bulletin hk (by decide)]
  generalize hd : recordEnd (c.entryId i) e.kind .cleared (freeVoices i (setEntrySlot i ⟨(c.entrySlot i).gen + 1, none⟩ c)) = d
  have hp' : d.ports.part.posts = true := by rw [← hd]; exact hp
  have hpost : (post .front .announce d).ports.part.posts = true := by rw [post_part]; exact hp'
  exact ⟨(postBoth_undisturbed _ .traffic).events _ _ (post_shows hp' .front .announce), postBoth_shows hpost ..,
    postBoth_shows hpost ..⟩

end Sys2Proof.Machine
end


section
/-! SUPPORT. Where a frequency is placed among the alternates (04 R62). -/

namespace Sys2Proof.Machine

theorem placeAlt_split (e : Alternate) (l : List Alternate) : ∃ front back, front ++ back = l ∧
    placeAlt e l = front ++ e :: back ∧ (∀ x ∈ front, altBefore e x = false) ∧ ∀ x ∈ back.head?, altBefore e x = true := by
  induction l with
  | nil => exact ⟨[], [], rfl, rfl, fun x hx => absurd hx List.not_mem_nil, fun x hx => by cases hx⟩
  | cons y l ih =>
    unfold placeAlt
    split
    · next hy => exact ⟨[], y :: l, rfl, rfl, fun x hx => absurd hx List.not_mem_nil, fun x hx => by cases hx; exact hy⟩
    · next hy =>
      obtain ⟨front, back, hl, hplace, hfront, hback⟩ := ih
      refine ⟨y :: front, back, by rw [List.cons_append, hl], by rw [hplace, List.cons_append], fun x hx => ?_, hback⟩
      rcases List.mem_cons.mp hx with rfl | hx
      · exact Bool.eq_false_of_not_eq_true hy
      · exact hfront x hx

theorem altBefore_false {e x : Alternate} (h : altBefore e x = false) {v : Nat} (hv : e.quality = some v) :
    ∃ w, x.quality = some w ∧ v ≤ w := by
  unfold altBefore at h
  rw [hv] at h
  cases hx : x.quality with
  | none => simp [hx] at h
  | some w => exact ⟨w, rfl, by simpa [hx] using h⟩

theorem altBefore_true {e x : Alternate} (h : altBefore e x = true) :
    ∃ v, e.quality = some v ∧ ∀ w, x.quality = some w → w < v := by
  unfold altBefore at h
  cases he : e.quality with
  | none => simp [he] at h
  | some v => exact ⟨v, rfl, fun w hw => by simpa [he, hw] using h⟩

theorem joinAlt_same {own ch : Nat} {q : Option Nat} {l : List Alternate}
    (h : ch = own ∨ (q = none ∧ ch ∈ l.map (·.chan))) : joinAlt own ch q l = l := by
  unfold joinAlt
  rcases h with rfl | ⟨rfl, hmem⟩
  · exact if_pos rfl
  · split
    · rfl
    · exact if_pos (hasAlt_iff.mpr hmem)

theorem joinAlt_placed {own ch : Nat} {q : Option Nat} {l : List Alternate} (hown : ch ≠ own)
    (hnew : q = none → ch ∉ l.map (·.chan)) : joinAlt own ch q l = placeAlt ⟨ch, q⟩
      (if ch ∈ l.map (·.chan) then l.filter (·.chan ≠ ch) else if 6 ≤ l.length then l.dropLast else l) := by
  unfold joinAlt
  rw [if_neg hown]
  by_cases hmem : ch ∈ l.map (·.chan)
  · rw [if_pos (hasAlt_iff.mpr hmem), if_pos hmem]
    cases q with
    | none => exact absurd hmem (hnew rfl)
    | some v => exact if_pos (hasAlt_iff.mpr hmem)
  · rw [if_neg (mt hasAlt_iff.mp hmem), if_neg hmem]

theorem joinAlt_split (own ch : Nat) (q : Option Nat) (l : List Alternate) :
    (ch = own ∨ (q = none ∧ ch ∈ l.map (·.chan)) → joinAlt own ch q l = l) ∧
    (ch ≠ own → (q = none → ch ∉ l.map (·.chan)) →
      ∃ front back, front ++ back = (if ch ∈ l.map (·.chan) then l.filter (·.chan ≠ ch)
          else if 6 ≤ l.length then l.dropLast else l) ∧
        joinAlt own ch q l = front ++ ⟨ch, q⟩ :: back ∧
        (∀ x ∈ front, ∀ v, q = some v → ∃ w, x.quality = some w ∧ v ≤ w) ∧
        ∀ x ∈ back.head?, ∃ v, q = some v ∧ ∀ w, x.quality = some w → w < v) := by
  refine ⟨joinAlt_same, fun hown hnew => ?_⟩
  rw [joinAlt_placed hown hnew]
  obtain ⟨front, back, hl, hplace, hfront, hback⟩ := placeAlt_split ⟨ch, q⟩
    (if ch ∈ l.map (·.chan) then l.filter (·.chan ≠ ch) else if 6 ≤ l.length then l.dropLast else l)
  exact ⟨front, back, hl, hplace, fun x hx v hv => altBefore_false (hfront x hx) hv, fun x hx => altBefore_true (hback x hx)⟩

theorem takeAlt_cases (r : Station) (n : Nat) : takeAlt none r = r ∧ (410 < n → takeAlt (some n) r = r) ∧
    (n ≤ 410 → takeAlt (some n) r = { r with alternates := joinAlt r.freq.chan n none r.alternates }) :=
  ⟨rfl, fun h => if_neg (by omega), fun h => if_pos h⟩

end Sys2Proof.Machine
end

section
/-! SUPPORT. Data groups on a carried station as whole commands (04 R71 to R75, 06 R116, R117). -/

namespace Sys2Proof.Machine

/-- A tuner's count of an accepted code leaves its runs of contents. -/
theorem counted_acc_kept {u : TunerId} {code : Nat} {c : Cabin} (h : acceptsCode (c.tuner u).acc code = false) :
    ((counted u code c).tuner u).acc = { (c.tuner u).acc with run := some (nextRun (c.tuner u).acc.run code) } :=
  (counted_acc u code c).trans (countCode_kept h)

section

variable {u : TunerId} {x : Chan} {h : StationId} {r : Station} {g : DataGroup} {s : State}
  (hx : (s.cab.chan x).station = some h) (hgen : (s.cab.stationSlot h.slot).gen = h.gen)
  (hr : (s.cab.stationSlot h.slot).record = some r) (hdef : NoDeferrals s.cab) (hset : Settled s.cab)
include hx hdef hset

section

variable (hacc : (s.cab.tuner u).acc.accepted = some g.code) (hid : r.identity = some g.code)
include hgen hr hacc hid

/-- A group whose content is taken. -/
theorem groupTaken_settles : ∃ d, d = takeContent u h g.content (counted u g.code s.cab) ∧
    groupOnChan u x g s.cab = settleRoutes d ∧ Decodes s.cab d ∧ FollowsUp d (settleRoutes d) := by
  have hdec := (counted_quietly u g.code s.cab).decodes.trans (takeContent_decodes u h g.content _)
  obtain ⟨he, hf⟩ := hdec.settles hdef hset
  exact ⟨_, rfl, (groupOnChan_taken hx hgen hr hacc hid).trans he, hdec, hf⟩

theorem groupTaken_name {seg : Fin 4} {a b : BitVec 8} (hg : g.content = .name seg a b) {t : State}
    (ht : t = s.onCab fun _ => groupOnChan u x g s.cab) :
    KeptButStations s t ∧ (t.cab.tuner u).acc.segments.get seg = some (a, b) ∧
    ∀ j, t.cab.stationSlot j = if j = h.slot then ⟨h.gen, some (if (s.cab.tuner u).acc.segments.get seg = some (a, b) then
      { r with name := r.name.set seg (some (a, b)) } else r)⟩ else s.cab.stationSlot j := by
  obtain ⟨d, hd, he, hdec, hf⟩ := groupTaken_settles hx hgen hr hdef hset hacc hid
  rw [hg] at hd
  have hkept := counted_acc_kept (acceptsCode_of_accepted hacc)
  have hquiet : DecodesQuietly s.cab d := hd ▸ (counted_quietly ..).trans (takeName_quietly u h _ seg (a, b))
  have hig : d.queue.ignored = s.cab.queue.ignored := hd ▸ takeName_ignored u h (counted u g.code s.cab) seg (a, b)
  have hkeeps := hquiet.keptButStations hig hf
  have htuner : (settleRoutes d).tuner u = d.tuner u := by rw [Cabin.tuner, settleRoutes_alloc]; rfl
  rw [he] at ht
  generalize settleRoutes d = e at *
  subst ht
  refine ⟨hkeeps, ?_, fun j => (stationSlot_of_slots hf.slots j).trans ?_⟩
  · have hseg : ((takeName u h seg (a, b) (counted u g.code s.cab)).tuner u).acc.segments.get seg = some (a, b) := by
      rw [takeName_acc]
      simp
    rw [hd] at htuner
    exact (congrArg (·.acc.segments.get seg) htuner).trans hseg
  · have hslot := takeName_stationSlot (u := u) (c := counted u g.code s.cab) hr seg (a, b) j
    rw [hkept] at hslot
    rw [hd, ← hgen]
    exact hslot

theorem groupTaken_alts {f1 f2 : Option Nat} (hg : g.content = .alts f1 f2) {t : State}
    (ht : t = s.onCab fun _ => groupOnChan u x g s.cab) : KeptButStations s t ∧
    ∀ j, t.cab.stationSlot j = if j = h.slot then ⟨h.gen, some (takeAlt f2 (takeAlt f1 r))⟩ else s.cab.stationSlot j := by
  obtain ⟨d, hd, he, hdec, hf⟩ := groupTaken_settles hx hgen hr hdef hset hacc hid
  rw [hg] at hd
  have hquiet : DecodesQuietly s.cab d := hd ▸ (counted_quietly ..).trans (takeAlts_quietly u h _ f1 f2)
  have hig : d.queue.ignored = s.cab.queue.ignored := hd ▸ modifyStation_ignored (counted u g.code s.cab) ..
  have hkeeps := hquiet.keptButStations hig hf
  rw [he] at ht
  generalize settleRoutes d = e at *
  subst ht
  refine ⟨hkeeps, fun j => (stationSlot_of_slots hf.slots j).trans ?_⟩
  rw [hd, ← hgen]
  exact modifyStation_stationSlot_of (c := counted u g.code s.cab) hr _ j

theorem groupTaken_ident {tp ta : Bool} (hg : g.content = .ident tp ta) {t : State}
    (ht : t = s.onCab fun _ => groupOnChan u x g s.cab) :
    ∀ j, t.cab.stationSlot j = if j = h.slot then ⟨h.gen, some
      (if ((s.cab.tuner u).acc.traffic.map (·.1)) = some (tp, ta) then { r with tp := some tp, ta := some ta } else r)⟩
      else s.cab.stationSlot j := by
  obtain ⟨d, hd, he, hdec, hf⟩ := groupTaken_settles hx hgen hr hdef hset hacc hid
  rw [hg] at hd
  rw [he] at ht
  generalize settleRoutes d = e at *
  subst ht
  intro j
  have hslot := takeIdent_stationSlot (u := u) (c := counted u g.code s.cab) hr tp ta j
  rw [counted_acc_kept (acceptsCode_of_accepted hacc)] at hslot
  refine (stationSlot_of_slots hf.slots j).trans ?_
  rw [hd, ← hgen]
  exact hslot

/-- The cabin with the flags accepted, before the announcement queue is told. -/
theorem groupTaken_flags {tp ta : Bool} (hg : g.content = .ident tp ta)
    (hagree : ((s.cab.tuner u).acc.traffic.map (·.1)) = some (tp, ta)) : ∃ m, DecodesQuietly s.cab m ∧ m.queue = s.cab.queue ∧
    m.station h = some { r with tp := some tp, ta := some ta } ∧ (∀ a, a ≠ h → m.station a = s.cab.station a) ∧
    groupOnChan u x g s.cab = settleRoutes (if ta then testStation h m else clearTraffic h m) ∧
    FollowsUp (if ta then testStation h m else clearTraffic h m) (groupOnChan u x g s.cab) := by
  obtain ⟨d, hd, he, hdec, hf⟩ := groupTaken_settles hx hgen hr hdef hset hacc hid
  rw [hg] at hd
  have hagree' : (((counted u g.code s.cab).tuner u).acc.traffic.map (·.1)) = some (tp, ta) := by
    rw [counted_acc_kept (acceptsCode_of_accepted hacc)]
    exact hagree
  have hd' : d = acceptFlags h tp ta (countedFlags u tp ta (counted u g.code s.cab)) := hd.trans (takeIdent_accepted hagree')
  have hslot := modifyStation_stationSlot_of (c := countedFlags u tp ta (counted u g.code s.cab)) hr
    fun r => { r with tp := some tp, ta := some ta }
  refine ⟨flagged h tp ta (countedFlags u tp ta (counted u g.code s.cab)),
    ((counted_quietly ..).trans (setAcceptance_quietly ..)).trans (flagged_quietly ..), (OnlySlots.modifyStation ..).queue, ?_,
    fun a ha => ?_, he.trans (congrArg settleRoutes hd'), ?_⟩
  · have hself := hslot h.slot
    rw [if_pos rfl] at hself
    exact station_eq_some ((congrArg StationSlot.gen hself).trans hgen) (congrArg StationSlot.record hself)
  · have hslot' := hslot a.slot
    unfold Cabin.station
    by_cases hs : a.slot = h.slot
    · have hne : ¬ h.gen = a.gen := fun e => ha (by
        obtain ⟨i, n⟩ := a
        obtain ⟨j, k⟩ := h
        simp_all)
      rw [if_pos hs] at hslot'
      have hgen' : ((flagged h tp ta (countedFlags u tp ta (counted u g.code s.cab))).stationSlot a.slot).gen = h.gen :=
        (congrArg StationSlot.gen hslot').trans hgen
      rw [hs, hgen, if_neg hne, if_neg (fun e => hne ((hs ▸ hgen').symm.trans e))]
    · rw [if_neg hs] at hslot'
      rw [show (flagged h tp ta _).stationSlot a.slot = _ from hslot']
      rfl
  · rw [he]
    exact hd' ▸ hf

end

end

end Sys2Proof.Machine
end


section
/-! SUPPORT. Bulletins, counts and identities that a data group brings about (04 R71, R73, R75, 06 R116, R117). -/

namespace Sys2Proof.Machine

variable {u : TunerId} {x : Chan} {h : StationId} {r : Station} {g : DataGroup} {s : State}
  (hx : (s.cab.chan x).station = some h) (hgen : (s.cab.stationSlot h.slot).gen = h.gen)
  (hr : (s.cab.stationSlot h.slot).record = some r) (hdef : NoDeferrals s.cab) (hset : Settled s.cab)
include hx hdef hset

/-- A group whose code is only counted. -/
theorem groupCounted (hacc : (s.cab.tuner u).acc.accepted ≠ some g.code)
    (hrun : ((s.cab.tuner u).acc.run.map (·.1)) ≠ some g.code) {t : State}
    (ht : t = s.onCab fun _ => groupOnChan u x g s.cab) : KeptButStations s t ∧ t.cab.table.slots = s.cab.table.slots ∧
      (t.cab.tuner u).acc = { (s.cab.tuner u).acc with run := some (g.code, false) } := by
  have hold := acceptsCode_first hrun
  have hquiet := counted_quietly u g.code s.cab
  obtain ⟨he, hf⟩ := hquiet.decodes.settles hdef hset
  rw [groupOnChan_discarded hx hold hacc, he] at ht
  have hkeeps := hquiet.keptButStations rfl hf
  have hcount := counted_acc_kept hold
  rw [nextRun_snd_false hrun] at hcount
  have htuner : (settleRoutes (counted u g.code s.cab)).tuner u = (counted u g.code s.cab).tuner u := by
    rw [Cabin.tuner, settleRoutes_alloc]
    rfl
  generalize settleRoutes (counted u g.code s.cab) = e at *
  subst ht
  exact ⟨hkeeps, hf.slots, (congrArg Tuner.acc htuner).trans hcount⟩

include hgen hr

/-- Accepted flags by which the condition comes to hold raise a bulletin in a free slot. -/
theorem groupRaises {k : Fin 8} (hg : g.content = .ident true true) (hacc : (s.cab.tuner u).acc.accepted = some g.code)
    (hid : r.identity = some g.code) (hagree : ((s.cab.tuner u).acc.traffic.map (·.1)) = some (true, true))
    (hband : r.freq.band = .fm) (hchan : chanOf s.cab h = some x) (hig : h ∉ s.cab.queue.ignored)
    (hnone : trafficEntry s.cab h = none) (htargets : ∃ z, (trafficTargets s.cab h).get z = true)
    (hk : (s.cab.entrySlot k).entry = none) (hlow : ∀ j, j < k → (s.cab.entrySlot j).entry ≠ none) {t : State}
    (ht : t = s.onCab fun _ => groupOnChan u x g s.cab) :
    (∀ j, t.cab.entrySlot j = if j = k then ⟨(s.cab.entrySlot k).gen, some {
      kind := .traffic h x, priority := 3, targets := trafficTargets s.cab h, order := s.cab.queue.order,
      timeLeft := 300000 }⟩ else s.cab.entrySlot j) ∧
    (s.cab.ports.part.posts = true → t.shows .front .traffic ∧ t.shows .rear .traffic) := by
  obtain ⟨m, hquiet, hqueue, hst, _, he, hf⟩ := groupTaken_flags hx hgen hr hdef hset hacc hid hg hagree
  rw [if_pos rfl] at he hf
  have hcall := hquiet.decodes.call
  have hslot (j) : m.entrySlot j = s.cab.entrySlot j := entrySlot_of_slots (by rw [hqueue]) j
  have htar : trafficTargets m h = trafficTargets s.cab h := trafficTargets_congr hcall.dir hcall.watch h
  have hempty : (trafficTargets s.cab h).isEmpty = false := by
    obtain ⟨z, hz⟩ := htargets
    refine Bool.eq_false_of_not_eq_true fun hall => ?_
    have := List.all_eq_true.mp hall z (by cases z <;> decide)
    simp [hz] at this
  have hcond : trafficCondition m h = true := by
    simp [trafficCondition, hst, hband, hqueue, hig, htar, hempty]
  have hchan' : chanOf m h = some x := (chanOf_of_chans hcall.chans h).trans hchan
  have hnone' : trafficEntry m h = none := by
    rw [← hnone]
    exact trafficEntry_congr fun j => by rw [holdsBulletin, hslot]; rfl
  have hfree : freeEntrySlot m = some k := freeEntrySlot_eq_some (by rw [hslot]; exact hk)
    fun j hj => by rw [hslot]; exact hlow j hj
  have hraised := testStation_raised_slots hchan' hnone' hcond hfree
  have hslots : (groupOnChan u x g s.cab).queue.slots = (testStation h m).queue.slots := by rw [he, settleRoutes_slots]
  have hevents := hf.around.events
  have hshows := testStation_raised_shows hchan' hnone' hcond hfree
  generalize groupOnChan u x g s.cab = e at *
  generalize testStation h m = d at *
  subst ht
  refine ⟨fun j => (entrySlot_of_slots hslots j).trans ?_, fun hp => ?_⟩
  · rw [hraised, hslot, hslot, htar, hqueue]
  · have hp' : m.ports.part.posts = true := by rwa [hquiet.decodes.part]
    exact ⟨hevents _ _ (hshows hp' .front), hevents _ _ (hshows hp' .rear)⟩

/-- An accepted clear announcement flag ends the bulletin of the station. -/
theorem groupClears {tp : Bool} (hg : g.content = .ident tp false) (hacc : (s.cab.tuner u).acc.accepted = some g.code)
    (hid : r.identity = some g.code) (hagree : ((s.cab.tuner u).acc.traffic.map (·.1)) = some (tp, false)) {t : State}
    (ht : t = s.onCab fun _ => groupOnChan u x g s.cab) :
    h ∉ t.cab.queue.ignored ∧
    ∀ i e, trafficEntry s.cab h = some i → (s.cab.entrySlot i).entry = some e → TrafficSettled s.cab →
      t.cab.entrySlot i = ⟨(s.cab.entrySlot i).gen + 1, none⟩ ∧
      (∀ j, j ≠ i → t.cab.entrySlot j = s.cab.entrySlot j) ∧
      t.cab.queue.ends.getLast? = some ⟨s.cab.entryId i, e.kind, .cleared, s.cab.queue.endNumber⟩ ∧
      (s.cab.ports.part.posts = true → t.shows .front .announce ∧ t.shows .front .traffic ∧ t.shows .rear .traffic) := by
  obtain ⟨m, hquiet, hqueue, hst, hother, he, hf⟩ := groupTaken_flags hx hgen hr hdef hset hacc hid hg hagree
  rw [if_neg Bool.false_ne_true] at he hf
  have hig : (groupOnChan u x g s.cab).queue.ignored = (clearTraffic h m).queue.ignored := by rw [he, settleRoutes_ignored]
  have hslots : (groupOnChan u x g s.cab).queue.slots = (clearTraffic h m).queue.slots := by rw [he, settleRoutes_slots]
  have hends : (groupOnChan u x g s.cab).queue.ends = (clearTraffic h m).queue.ends := by rw [he, settleRoutes_ends]
  have hevents := hf.around.events
  have hnot := clearTraffic_not_ignored h m
  have hcond : trafficCondition m h = false := by simp [trafficCondition, hst]
  clear he hf
  generalize groupOnChan u x g s.cab = e' at *
  subst ht
  refine ⟨fun hmem => hnot (hig ▸ hmem), fun i e hi hei hsettled => ?_⟩
  have hend := clearTraffic_ends hsettled hi hei hquiet.decodes.call hqueue hcond hother
  obtain ⟨f, y, hfi, hk⟩ := entry_of_holdsBulletin (trafficEntry_some hi)
  obtain rfl := Option.some.inj (hei.symm.trans hfi)
  have hslot (j) : m.entrySlot j = s.cab.entrySlot j := entrySlot_of_slots (by rw [hqueue]) j
  rw [hend] at hslots hends hevents
  have hremoved (j) : e'.entrySlot j = if j = i then ⟨(s.cab.entrySlot i).gen + 1, none⟩ else s.cab.entrySlot j := by
    have hj : e'.entrySlot j = (removeEntry i e .cleared m).entrySlot j := entrySlot_of_slots (by simpa using hslots) j
    rw [hj, removeEntry_entrySlot, hslot, hslot]
  refine ⟨(hremoved i).trans (if_pos rfl), fun j hj => (hremoved j).trans (if_neg hj), ?_, fun hp => ?_⟩
  · have hlast := removeEntry_bulletin_ends (i := i) hk m
    rw [show m.entryId i = s.cab.entryId i by simp only [Cabin.entryId, hslot], hqueue] at hlast
    exact (congrArg List.getLast? (by simpa using hends)).trans hlast
  · obtain ⟨hann, hfront, hrear⟩ := removeEntry_bulletin_shows (i := i) hk (c := m) (by rwa [hquiet.decodes.part])
    have hrefresh := (refreshSound_undisturbed (removeEntry i e .cleared m)).events
    have hunignore := (unignoreStation_quietly h (refreshSound (removeEntry i e .cleared m))).decodes.events
    have hall : EventsKept (removeEntry i e .cleared m) e' := fun p k hk =>
      hevents p k (hunignore p k (hrefresh p k hk))
    exact ⟨hall _ _ hann, hall _ _ hfront, hall _ _ hrear⟩

/-- A code that no other record has becomes the identity of the record. -/
theorem groupIdentifies (hrun : ((s.cab.tuner u).acc.run.map (·.1)) = some g.code)
    (hnew : (s.cab.tuner u).acc.accepted ≠ some g.code) (hid : r.identity ≠ some g.code)
    (hnone : otherWithIdentity s.cab h.slot g.code = none) : ∃ d, groupOnChan u x g s.cab = settleRoutes d ∧
      DecodesQuietly s.cab d ∧ FollowsUp d (settleRoutes d) ∧ (d.tuner u).acc.accepted = some g.code ∧
      (∀ j, d.stationSlot j = if j = h.slot then ⟨h.gen, some (withAlternates g.content (r.identified g.code))⟩ else s.cab.stationSlot j) ∧
      (∀ a, a ∈ d.queue.ignored ↔ a ∈ s.cab.queue.ignored ∧ (r.identity ≠ none → a ≠ h)) ∧
      (r.identity = none → d.queue.ignored = s.cab.queue.ignored) ∧
      (s.cab.ports.part.posts = true → ShowsStations d) := by
  have hr' : ((counted u g.code s.cab).stationSlot h.slot).record = some r := hr
  have hnew' := acceptsCode_again hrun hnew
  have hq1 := counted_quietly u g.code s.cab
  have hq2 := takeIdentity_quietly hr' g.code
  have hslot2 := takeIdentity_stationSlot (code := g.code) hr'
  have hrec2 : ((takeIdentity h.slot g.code (counted u g.code s.cab)).stationSlot h.slot).record =
      some (r.identified g.code) := by rw [hslot2, if_pos rfl]
  have halloc : (takeIdentity h.slot g.code (counted u g.code s.cab)).alloc = (counted u g.code s.cab).alloc := by
    rw [takeIdentity_eq hr', postBoth_alloc]
    split <;> rfl
  have hacc2 : ((takeIdentity h.slot g.code (counted u g.code s.cab)).tuner u).acc =
      ⟨some (nextRun (s.cab.tuner u).acc.run g.code), some g.code, Tab.fill 4 none, none⟩ := by
    rw [Cabin.tuner, halloc]
    exact (counted_acc ..).trans (countCode_new hnew')
  have hig2 := mem_takeIdentity_ignored hr' g.code
  have hsame2 : r.identity = none → (takeIdentity h.slot g.code (counted u g.code s.cab)).queue.ignored =
      s.cab.queue.ignored := fun hn => by
    rw [takeIdentity_eq hr', postBoth_queue, if_pos hn]
    rfl
  have hshows2 := takeIdentity_shows hr' g.code
  have hid' : (counted u g.code s.cab).stationId h.slot = h := by
    have hg' : ((counted u g.code s.cab).stationSlot h.slot).gen = h.gen := hgen
    rw [Cabin.stationId, hg']
  have heq := groupOnChan_identified hx hgen hr hnew' hid hnone
  rw [hid'] at hig2
  generalize takeIdentity h.slot g.code (counted u g.code s.cab) = c2 at *
  obtain ⟨hq3, hqueue3, hslot3⟩ := takeContent_fresh (u := u) (h := h) (g := g.content) hrec2 (by rw [hacc2]) (by rw [hacc2])
  have hacc3 : ((takeContent u h g.content c2).tuner u).acc.accepted = some g.code := by
    rw [takeContent_accepted, hacc2]
  have hquiet := (hq1.trans hq2).trans hq3
  have hevents := hq3.decodes.events
  generalize takeContent u h g.content c2 = d at *
  obtain ⟨he, hf⟩ := hquiet.decodes.settles hdef hset
  refine ⟨d, heq.trans he, hquiet, hf, hacc3, fun j => ?_, fun a => ?_, fun hn => ?_, fun hp p => ?_⟩
  · rw [hslot3, hslot2, hslot2, if_pos rfl]
    split
    · rw [show ((counted u g.code s.cab).stationSlot h.slot).gen = h.gen from hgen]
    · rfl
  · rw [hqueue3]
    exact hig2 a
  · rw [hqueue3]
    exact hsame2 hn
  · exact hevents p _ (hshows2 hp p)

end Sys2Proof.Machine
end


section
/-! SUPPORT. What data groups do to the record of a carried station, as O29 states it (04 R71 to R75). -/

namespace Sys2Proof.Machine

theorem withAlternates_identity (g : GroupContent) (r : Station) : (withAlternates g r).identity = r.identity := by
  unfold withAlternates
  split
  · rw [takeAlt_identity, takeAlt_identity]
  · rfl

theorem takeAlt_flags (ch : Option Nat) (r : Station) : (takeAlt ch r).tp = r.tp ∧ (takeAlt ch r).ta = r.ta := by
  unfold takeAlt
  repeat' split
  all_goals exact ⟨rfl, rfl⟩

theorem withAlternates_flags (g : GroupContent) (r : Station) :
    (withAlternates g r).tp = r.tp ∧ (withAlternates g r).ta = r.ta := by
  unfold withAlternates
  split
  · next f1 f2 =>
    exact ⟨(takeAlt_flags f2 _).1.trans (takeAlt_flags f1 r).1, (takeAlt_flags f2 _).2.trans (takeAlt_flags f1 r).2⟩
  · exact ⟨rfl, rfl⟩

theorem identified_flags {r : Station} (h : r.identity = none) (code : Nat) :
    (r.identified code).tp = r.tp ∧ (r.identified code).ta = r.ta := by
  unfold Station.identified
  rw [if_pos h]
  exact ⟨rfl, rfl⟩

/-- Where nothing is deferred, the deferral stays as it is. -/
theorem identified_of_calm {r : Station} (h : r.deferred = none) (code : Nat) : r.identified code =
    if r.identity = none then { r with identity := some code }
    else { r with identity := some code, name := Tab.fill 4 none, tp := none, ta := none, alternates := [] } := by
  simp only [Station.identified, h]

theorem exec_discarded {u : TunerId} {g : DataGroup} {s : State}
    (h : g.ok = false ∨ g.code = 0 ∨ decoding s.cab u = .off) : exec (.dataGroup u g) s = .next s := by
  have hdata : dataGroup u g s.cab = s.cab := by
    unfold dataGroup
    by_cases hdrop : g.ok = false ∨ g.code = 0
    · exact if_pos hdrop
    · have hoff : decoding s.cab u = .off := h.elim (fun e => absurd (.inl e) hdrop) fun e =>
        e.elim (fun e => absurd (.inr e) hdrop) id
      rw [if_neg hdrop, hoff]
  exact congrArg (fun c : Cabin => Host.Outcome.next { s with cab := c }) hdata

/-- Settles O29. -/
theorem dataGroupsReachTheRecord : Obligations.DataGroupsReachTheRecord := by
  refine ⟨fun u g s hdrop => exec_discarded hdrop, fun u x h r g s hok hcode hdec hx hgen hr hdef hset => ?_, takeAlt_cases,
    joinAlt_split⟩
  have hexec := exec_groupOnChan hok hcode hdec
  generalize ht : (s.onCab fun _ => groupOnChan u x g s.cab) = t at hexec
  refine ⟨t, hexec, fun seg a b hg hacc hid => ?_, fun f1 f2 hg hacc hid => ?_, fun tp ta hg hacc hid => ?_,
    fun k hg hacc hid hagree hband hchan hig hnone htargets hk hlow => ?_, fun tp i e hg hacc hid hagree => ?_,
    fun hacc hrun => groupCounted hx hdef hset hacc hrun ht.symm, fun hrun hnew hid hnone hcontent => ?_,
    fun hrun hnew hid hnone => ?_⟩
  · obtain ⟨hkeeps, hseg, hslot⟩ := groupTaken_name hx hgen hr hdef hset hacc hid hg ht.symm
    exact ⟨hkeeps, hseg, (hslot h.slot).trans (if_pos rfl), fun j hj => (hslot j).trans (if_neg hj)⟩
  · obtain ⟨hkeeps, hslot⟩ := groupTaken_alts hx hgen hr hdef hset hacc hid hg ht.symm
    exact ⟨hkeeps, (hslot h.slot).trans (if_pos rfl), fun j hj => (hslot j).trans (if_neg hj)⟩
  · have hslot := groupTaken_ident hx hgen hr hdef hset hacc hid hg ht.symm
    exact ⟨(hslot h.slot).trans (if_pos rfl), fun j hj => (hslot j).trans (if_neg hj)⟩
  · obtain ⟨hslot, hshows⟩ := groupRaises hx hgen hr hdef hset hg hacc hid hagree hband hchan hig hnone htargets hk hlow ht.symm
    exact ⟨(hslot k).trans (if_pos rfl), fun j hj => (hslot j).trans (if_neg hj), hshows⟩
  · obtain ⟨hnot, hends⟩ := groupClears hx hgen hr hdef hset hg hacc hid hagree ht.symm
    exact ⟨hnot, hends i e⟩
  · have hid' : r.identity ≠ some g.code := by simp [hid]
    obtain ⟨d, he, hquiet, hf, hacc, hslot, -, -, hshows⟩ := groupIdentifies hx hgen hr hdef hset hrun hnew hid' hnone
    have htuner : (settleRoutes d).tuner u = d.tuner u := by rw [Cabin.tuner, settleRoutes_alloc]; rfl
    rw [he] at ht
    generalize settleRoutes d = e at *
    subst ht
    have hslot' (j) : e.stationSlot j = _ := (stationSlot_of_slots hf.slots j).trans (hslot j)
    have hself := (hslot' h.slot).trans (if_pos rfl)
    refine ⟨fun p k hk => hf.around.events p k (hquiet.decodes.events p k hk), (congrArg (·.acc.accepted) htuner).trans hacc,
      congrArg StationSlot.gen hself, ⟨_, congrArg StationSlot.record hself, ?_, ?_, ?_⟩, fun hp => ?_,
      fun j hj => (hslot' j).trans (if_neg hj)⟩
    · rw [withAlternates_identity, identified_identity]
    · exact (withAlternates_flags ..).1.trans (identified_flags hid g.code).1
    · exact (withAlternates_flags ..).2.trans (identified_flags hid g.code).2
    · exact ⟨hf.around.events _ _ (hshows hp .front), hf.around.events _ _ (hshows hp .rear)⟩
  · obtain ⟨d, he, hquiet, hf, hacc, hslot, hmem, hsame, hshows⟩ := groupIdentifies hx hgen hr hdef hset hrun hnew hid hnone
    have hdec := hquiet.decodes
    have htuner : (settleRoutes d).tuner u = d.tuner u := by rw [Cabin.tuner, settleRoutes_alloc]; rfl
    have hig : (settleRoutes d).queue.ignored = d.queue.ignored := settleRoutes_ignored d
    have hslots : (settleRoutes d).queue.slots = d.queue.slots := settleRoutes_slots d
    have hcalls : (settleRoutes d).calls = d.calls := settleRoutes_calls d
    have halloc : (settleRoutes d).alloc = d.alloc := settleRoutes_alloc d
    rw [he] at ht
    generalize settleRoutes d = e at *
    subst ht
    have hslot' (j) : e.stationSlot j = _ := (stationSlot_of_slots hf.slots j).trans (hslot j)
    refine ⟨(congrArg (·.acc.accepted) htuner).trans hacc, ⟨_, rfl, ?_⟩, fun hn a => ?_, fun hn => hig.trans (hsame hn),
      hslots.trans (congrArg Queue.slots hquiet.queue :), fun y => ?_,
      fun l k => hf.route_other (route_of_lists (by rw [hdec.call.dir]) l k), hcalls.trans hquiet.calls,
      fun p k hk => hf.around.events p k (hdec.events p k hk), fun z => ?_, fun z => ?_, ⟨rfl, rfl, rfl, rfl⟩, fun hp => ?_,
      fun j hj => (hslot' j).trans (if_neg hj)⟩
    · rw [← identified_of_calm (hdef h.slot r hr)]
      exact (hslot' h.slot).trans (if_pos rfl)
    · have hm := hmem a
      rw [← hig] at hm
      exact hm.trans (and_congr_right fun _ => ⟨fun hne => hne hn, fun hne _ => hne⟩)
    · exact (chan_of_chans (congrArg Allocator.chans halloc) y).trans (chan_of_chans hdec.call.chans y)
    · rw [← mixZone_of_zones (c := s.cab) (d := d) (by rw [hquiet.mix])]
      exact hf.around.plans z
    · rw [← mixZone_of_zones (c := s.cab) (d := d) (by rw [hquiet.mix])]
      exact hf.around.levels z
    · exact ⟨hf.around.events _ _ (hshows hp .front), hf.around.events _ _ (hshows hp .rear)⟩

end Sys2Proof.Machine
end


section
/-! SUPPORT. A merge that posts CALL, which O30's clause on the events of a merge leaves out. S7 goes into S3, which a
channel carries with the traffic flags set, and the watch moves with it, so that a bulletin is due. The queue is full of
CHIME entries, and the bulletin displaces the last of them; the record of the call in C0 names that entry as its tone,
and the end of the tone is a change of that record. -/

namespace Sys2Proof.Machine

/-- A RINGING call whose tone is the entry of queue slot 0. -/
def tonedCall : CallRecord where
  state := .ringing
  listeners := ZoneSet.of [.z0]
  privacy := false
  joinable := true
  level := -12
  talker := .driver
  uplinkMute := false
  ringUnplayed := false
  tone := some ⟨0, 0⟩

/-- The record that stays, with the traffic flags set. -/
def mergeSurvivor : Station :=
  { newStation ⟨.fm, 136⟩ 40 .listed .scan none with identity := some 4101, tp := some true, ta := some true }

/-- The record that goes. -/
def mergeVictim : Station := newStation ⟨.fm, 347⟩ 40 .listed .scan none

/-- The CHIME entry of priority 1 in queue slot `i`; that of slot 0 was queued last. -/
def lowChime (i : Fin 8) : Entry := ⟨.chime i, 1, ZoneSet.of [.z0], 8 - i.val, 1000⟩

/-- S3 carried by PC0 on T0, S7 uncarried and watched, the queue full, and the call of C0 with its tone in slot 0. -/
def fullAtMerge : Cabin :=
  let c := setStationSlot 3 ⟨0, some mergeSurvivor⟩ (setStationSlot 7 ⟨0, some mergeVictim⟩ State.reset.cab)
  let c := setChan .pc0 { c.chan .pc0 with station := some ⟨3, 0⟩, serving := some .t0 } c
  let c := setTuner .t0 { c.tuner .t0 with role := .programme, tuned := some ⟨.fm, 136⟩ } c
  let c := setTuner .t1 { c.tuner .t1 with role := .scan, tuned := some ⟨.fm, 0⟩ } c
  let c := setZoneEntry .z0 { c.zone .z0 with accept := ⟨true, true, true⟩ } c
  let c := setCallSlot 0 ⟨0, some tonedCall⟩ c
  { c with
    table := { c.table with watch := some ⟨⟨7, 0⟩, 0⟩ }
    queue := { c.queue with
      slots := Tab.build 8 fun i => ⟨0, some (lowChime i)⟩
      patterns := Tab.build _ fun i => { c.queue.patterns.get i with priority := 1 } }
    ports := { c.ports with part := .running } }

theorem fullAtMerge_victim : (fullAtMerge.stationSlot 7).record = some mergeVictim := by decide +kernel

theorem fullAtMerge_survivor : (fullAtMerge.stationSlot 3).record = some mergeSurvivor := by decide +kernel

theorem fullAtMerge_noRoutes (l : Fin 8) (k : Fin 6) : (fullAtMerge.route l k).record = none := by
  revert l k
  decide +kernel

theorem fullAtMerge_noAlternates :
    ∀ i : Fin 40, (fullAtMerge.stationSlot i).record.all (fun r => decide (r.alternates = [])) = true := by
  decide +kernel

theorem fullAtMerge_entry (i : Fin 8) : (fullAtMerge.entrySlot i).entry = some (lowChime i) := by
  revert i
  decide +kernel

theorem fullAtMerge_patternPriority (i : Fin 8) : (fullAtMerge.queue.patterns.get i).priority = 1 := by
  revert i
  decide +kernel

theorem fullAtMerge_routesDiffer : RoutesDiffer fullAtMerge := by
  intro l j k a b _ ha
  exact absurd (fullAtMerge_noRoutes l j) (by simp [ha])

theorem fullAtMerge_alternatesFit : AlternatesFit fullAtMerge := by
  intro i r hr
  have hnil := fullAtMerge_noAlternates i
  rw [hr] at hnil
  simp [of_decide_eq_true hnil]

theorem fullAtMerge_rolesFit : RolesFit fullAtMerge := by
  refine ⟨fun x => ?_, fun u hu => ?_, fun x => ?_, fun u => ?_, ?_⟩
  · cases x <;> decide +kernel
  · have hidle : (fullAtMerge.chan .pc1).serving = none := by decide +kernel
    simp [hidle]
  · cases x <;> decide +kernel
  · cases u <;> decide +kernel
  · decide +kernel

theorem fullAtMerge_prioritiesFit : PrioritiesFit fullAtMerge := by
  intro i e he
  obtain rfl : lowChime i = e := Option.some.inj ((fullAtMerge_entry i).symm.trans he)
  exact (fullAtMerge_patternPriority i).symm

/-- No CALL is pending before the merge. -/
theorem fullAtMerge_quiet : EventSet.has (fullAtMerge.ports.events.get .front) .call = false := by decide +kernel

/-- The bulletin of S3 displaces the entry of slot 0, the call's tone. -/
theorem mergeInto_fullAtMerge_endsTone :
    ((mergeInto 7 3 fullAtMerge).entrySlot 0).entry.map (·.kind) = some (.traffic ⟨3, 0⟩ .pc0) ∧
      ((mergeInto 7 3 fullAtMerge).callSlot 0).record = some { tonedCall with tone := none, ringUnplayed := true } := by
  decide +kernel

/-- And CALL is posted to the front port. -/
theorem mergeInto_fullAtMerge_postsCall :
    EventSet.has ((mergeInto 7 3 fullAtMerge).ports.events.get .front) .call = true := by decide +kernel

/-- Refutes O30: in `fullAtMerge`, which meets every premise of the second conjunct and has the priorities of R105, the
merge of S7 into S3 posts CALL. The bulletin that the merge raises displaces the entry that a call record names as its
tone, and the conjunct's clause on events admits only STATIONS, ROUTE, TRAFFIC and ANNOUNCE besides what was pending. No
premise says that the tone of a call is a RING or a WAITING entry, whose priority of 6 no bulletin displaces. -/
theorem not_identityMergeJoinsTwoRecords : ¬ Obligations.IdentityMergeJoinsTwoRecords := by
  unfold Obligations.IdentityMergeJoinsTwoRecords
  rintro ⟨-, hmerge, -⟩
  obtain ⟨-, -, -, -, -, -, -, -, -, -, -, -, hevents, -⟩ := hmerge 7 3 mergeVictim mergeSurvivor fullAtMerge
    (by decide) fullAtMerge_victim fullAtMerge_survivor rfl rfl (by decide)
    fullAtMerge_routesDiffer fullAtMerge_alternatesFit fullAtMerge_rolesFit
  rcases hevents fullAtMerge_prioritiesFit .front .call mergeInto_fullAtMerge_postsCall with hpending | h | h | h | h
  · exact absurd (fullAtMerge_quiet.symm.trans hpending) (by decide)
  all_goals exact absurd h (by decide)

end Sys2Proof.Machine
end

section
/-! SUPPORT. The requests that read: the entries of the queue in queued order, and the words of entries, end records and
calls (05 R102, 06 R112, R119, 07 R130, 08 R148, 10 R167). -/

namespace Sys2Proof.Machine

/-! ## The entries in queued order (06 R119) -/

/-- The order of the queue. -/
def QueuedOrder (a b : Fin 8 × Entry) : Prop := a.2.order ≤ b.2.order

theorem mem_insertByOrder {x y : Fin 8 × Entry} {l : List (Fin 8 × Entry)} :
    y ∈ insertByOrder x l ↔ y = x ∨ y ∈ l := by
  induction l with
  | nil => simp [insertByOrder]
  | cons z l ih =>
    unfold insertByOrder
    split
    · simp
    · simp only [List.mem_cons, ih]
      tauto

theorem insertByOrder_ordered (x : Fin 8 × Entry) {l : List (Fin 8 × Entry)} (h : l.Pairwise QueuedOrder) :
    (insertByOrder x l).Pairwise QueuedOrder := by
  induction h with
  | nil => exact List.pairwise_singleton ..
  | @cons y l hy hl ih =>
    unfold insertByOrder
    split
    · rename_i hxy
      refine .cons (fun z hz => ?_) (.cons hy hl)
      rcases List.mem_cons.mp hz with rfl | hz
      · exact hxy.le
      · exact hxy.le.trans (hy z hz)
    · rename_i hxy
      refine .cons (fun z hz => ?_) ih
      rcases mem_insertByOrder.mp hz with rfl | hz
      · exact not_lt.mp hxy
      · exact hy z hz

/-- One slot of the list. -/
def queuedStep (c : Cabin) (l : List (Fin 8 × Entry)) (i : Fin 8) : List (Fin 8 × Entry) :=
  (c.entrySlot i).entry.elim l fun e => insertByOrder (i, e) l

theorem entriesInOrder_eq (c : Cabin) : entriesInOrder c = (List.finRange 8).foldl (queuedStep c) [] := by
  unfold entriesInOrder
  congr 1
  funext l i
  unfold queuedStep
  cases (c.entrySlot i).entry <;> rfl

theorem mem_queuedStep {c : Cabin} {l : List (Fin 8 × Entry)} {i : Fin 8} {x : Fin 8 × Entry} :
    x ∈ queuedStep c l i ↔ (i = x.1 ∧ (c.entrySlot x.1).entry = some x.2) ∨ x ∈ l := by
  obtain ⟨j, f⟩ := x
  unfold queuedStep
  cases he : (c.entrySlot i).entry with
  | none =>
    simp only [Option.elim_none, iff_or_self]
    rintro ⟨rfl, hj⟩
    exact absurd (he.symm.trans hj) (by simp)
  | some e =>
    simp only [Option.elim_some, mem_insertByOrder, Prod.mk.injEq]
    refine or_congr_left ⟨?_, ?_⟩
    · rintro ⟨rfl, rfl⟩
      exact ⟨rfl, he⟩
    · rintro ⟨rfl, hj⟩
      exact ⟨rfl, Option.some.inj (hj.symm.trans he)⟩

theorem foldl_queuedStep (c : Cabin) (is : List (Fin 8)) {l : List (Fin 8 × Entry)} (h : l.Pairwise QueuedOrder) :
    (∀ x, x ∈ is.foldl (queuedStep c) l ↔ (x.1 ∈ is ∧ (c.entrySlot x.1).entry = some x.2) ∨ x ∈ l) ∧
      (is.foldl (queuedStep c) l).Pairwise QueuedOrder := by
  induction is generalizing l with
  | nil => exact ⟨by simp, h⟩
  | cons i is ih =>
    have hstep : (queuedStep c l i).Pairwise QueuedOrder := by
      unfold queuedStep
      cases (c.entrySlot i).entry with
      | none => exact h
      | some e => exact insertByOrder_ordered (i, e) h
    obtain ⟨hmem, hord⟩ := ih hstep
    refine ⟨fun x => ?_, hord⟩
    rw [List.foldl_cons, hmem, mem_queuedStep, List.mem_cons, eq_comm (a := i)]
    tauto

theorem mem_entriesInOrder {c : Cabin} {x : Fin 8 × Entry} :
    x ∈ entriesInOrder c ↔ (c.entrySlot x.1).entry = some x.2 := by
  rw [entriesInOrder_eq, (foldl_queuedStep c _ .nil).1]
  simp

theorem entriesInOrder_ordered (c : Cabin) : (entriesInOrder c).Pairwise QueuedOrder := by
  rw [entriesInOrder_eq]
  exact (foldl_queuedStep c _ .nil).2

/-! ## Single words (10 R167) -/

theorem packBits_four (a b c d : Bool) :
    packBits [a, b, c, d] = a.toNat + 2 * b.toNat + 4 * c.toNat + 8 * d.toNat := by
  simp only [packBits_cons, packBits_nil]
  omega

theorem packBits_five (a b c d e : Bool) :
    packBits [a, b, c, d, e] = a.toNat + 2 * b.toNat + 4 * c.toNat + 8 * d.toNat + 16 * e.toNat := by
  simp only [packBits_cons, packBits_nil]
  omega

theorem zoneSetWord_eq (z : ZoneSet) : zoneSetWord z =
    BitVec.ofNat 16 (z.z0.toNat + 2 * z.z1.toNat + 4 * z.z2.toNat + 8 * z.z3.toNat + 16 * z.z4.toNat) := by
  rw [← packBits_five]
  rfl

theorem handleWord_zero (slot gen : Nat) : handleWord 0 slot gen = BitVec.ofNat 16 (gen * 4096 + slot) := by
  simp only [handleWord, natWord, Nat.zero_mul, Nat.add_zero]

theorem effectiveListeners_word (r : CallRecord) :
    zoneSetWord (effectiveListeners r) = if r.privacy then 4 else zoneSetWord r.listeners := by
  unfold effectiveListeners
  split
  · decide
  · rfl

theorem callWords_spelled (c : Cabin) (i : Fin 2) (r : CallRecord) : callWords c i r = [
    BitVec.ofNat 16 ((c.callSlot i).gen.val * 4096 + i.val),
    (match r.state with | .ringing => 0 | .active => 1 | .held => 2), zoneSetWord r.listeners,
    (if r.privacy then 4 else zoneSetWord r.listeners), BitVec.ofInt 16 r.level,
    (match r.talker with | .driver => 0 | .passenger => 1 | .both => 2),
    BitVec.ofNat 16 (r.privacy.toNat + 2 * r.joinable.toNat + 4 * r.uplinkMute.toNat + 8 * r.ringUnplayed.toNat),
    (match r.tone with | none => 65535 | some a => BitVec.ofNat 16 (a.gen.val * 4096 + a.slot.val)),
    (match c.calls.canceller.state with | .idle => 0 | .converging => 1 | .tracking => 2 | .doubleTalk => 3)] := by
  have hstate : natWord r.state.num = match r.state with | .ringing => 0 | .active => 1 | .held => 2 := by
    cases r.state <;> rfl
  have htalker : natWord r.talker.num = match r.talker with | .driver => 0 | .passenger => 1 | .both => 2 := by
    cases r.talker <;> rfl
  have htone : optHandle entryWord r.tone =
      match r.tone with | none => 65535 | some a => BitVec.ofNat 16 (a.gen.val * 4096 + a.slot.val) := by
    cases r.tone with
    | none => rfl
    | some a => exact handleWord_zero ..
  have hecho : natWord c.calls.canceller.state.num = match c.calls.canceller.state with
      | .idle => 0 | .converging => 1 | .tracking => 2 | .doubleTalk => 3 := by
    cases c.calls.canceller.state <;> rfl
  simp only [callWords, hstate, htalker, htone, hecho, effectiveListeners_word, callWord, handleWord_zero, bitsWord,
    packBits_four]
  rfl

/-! ## Entries and end records (06 R119) -/

/-- Less than one unit lies between the units of 100 ms given and the time remaining. -/
theorem tenths_near (ms : Nat) : 100 * tenths ms < ms + 100 ∧ ms < 100 * tenths ms + 100 := by
  unfold tenths
  split
  · omega
  · split <;> omega

theorem entryTime_spelled (e : Entry) : if e.kind = .nav ∨ e.kind.isTraffic = true
    then ∃ n, entryTime e = BitVec.ofNat 16 n ∧ 100 * n < e.timeLeft + 100 ∧ e.timeLeft < 100 * n + 100
    else entryTime e = 65535 := by
  unfold entryTime
  cases e.kind with
  | nav => exact (if_pos (.inl rfl)).mpr ⟨_, rfl, tenths_near e.timeLeft⟩
  | traffic h x => exact (if_pos (.inr rfl)).mpr ⟨_, rfl, tenths_near e.timeLeft⟩
  | chime n => simp [EntryKind.isTraffic, noneWord]
  | ring h => simp [EntryKind.isTraffic, noneWord]
  | waiting h => simp [EntryKind.isTraffic, noneWord]

theorem audibleIn_iff {c : Cabin} {i : Fin 8} {z : Zone} :
    audibleIn c i z = true ↔ ∃ a, (c.mixZone z).audible = some a ∧ a.entry = c.entryId i := by
  unfold audibleIn
  cases (c.mixZone z).audible <;> simp

theorem audibleSomewhere_eq (c : Cabin) (i : Fin 8) :
    audibleSomewhere c i = !decide (zoneSetWord (audibleZones c i) = 0) := by
  have hword : ∀ b0 b1 b2 b3 b4 : Bool, (b0 || (b1 || (b2 || (b3 || (b4 || false))))) =
      !decide (zoneSetWord ⟨b0, b1, b2, b3, b4⟩ = 0) := by decide
  exact hword _ _ _ _ _

theorem voiceOf_eq_firstIdx (c : Cabin) (i : Fin 8) :
    voiceOf c i = firstIdx fun v => decide ((c.queue.voices.get v).map (·.slot) = some i) := by
  unfold voiceOf
  congr 1
  funext v
  cases c.queue.voices.get v <;> simp

theorem voiceOf_eq (c : Cabin) (i : Fin 8) : voiceOf c i =
    if (c.queue.voices.get 0).map (·.slot) = some i then some 0
    else if (c.queue.voices.get 1).map (·.slot) = some i then some 1 else none := by
  have hfirst : ∀ p : Fin 2 → Bool, firstIdx p = if p 0 = true then some 0 else if p 1 = true then some 1 else none := by
    decide
  simp only [voiceOf_eq_firstIdx, hfirst, decide_eq_true_eq]

theorem voiceOf_isSome (c : Cabin) (i : Fin 8) : (voiceOf c i).isSome = true ↔
    (c.queue.voices.get 0).map (·.slot) = some i ∨ (c.queue.voices.get 1).map (·.slot) = some i := by
  rw [voiceOf_eq]
  split
  · simp [*]
  · split <;> simp [*]

theorem isTone_eq (k : EntryKind) : k.isTone = !decide (k = .nav ∨ k.isTraffic = true) := by
  cases k <;> simp [EntryKind.isTone, EntryKind.isTraffic]

theorem entryPlaying_word {c : Cabin} {i : Fin 8} {e : Entry} (he : (c.entrySlot i).entry = some e) :
    flagWord (entryPlaying c i) =
      if e.kind = .nav ∨ e.kind.isTraffic = true then if zoneSetWord (audibleZones c i) = 0 then 0 else 1
      else if (c.queue.voices.get 0).map (·.slot) = some i ∨ (c.queue.voices.get 1).map (·.slot) = some i then 1
      else 0 := by
  unfold entryPlaying
  rw [he]
  by_cases hk : e.kind = .nav ∨ e.kind.isTraffic = true
  · simp only [isTone_eq, hk, decide_true, Bool.not_true, Bool.false_eq_true, if_false, if_true, audibleSomewhere_eq]
    by_cases hz : zoneSetWord (audibleZones c i) = 0
    · rw [hz]
      rfl
    · rw [if_neg hz, decide_eq_false hz]
      rfl
  · simp only [isTone_eq, hk, decide_false, Bool.not_false, if_true, if_false, ← voiceOf_isSome]
    rfl

theorem entryPattern_word (k : EntryKind) : optWord ((entryPattern k).map (·.val)) =
    match k with | .chime n => BitVec.ofNat 16 n.val | .ring _ => 7 | .waiting _ => 6 | _ => 65535 := by
  cases k <;> rfl

theorem entryKind_word (k : EntryKind) : natWord k.num =
    match k with | .chime _ => 0 | .nav => 1 | .traffic _ _ => 2 | .ring _ => 3 | .waiting _ => 4 := by
  cases k <;> rfl

theorem voiceOf_word (c : Cabin) (i : Fin 8) : optWord ((voiceOf c i).map (·.val)) =
    if (c.queue.voices.get 0).map (·.slot) = some i then 0
    else if (c.queue.voices.get 1).map (·.slot) = some i then 1 else 65535 := by
  rw [voiceOf_eq]
  split
  · rfl
  · split <;> rfl

theorem entryStation_words (k : EntryKind) : (entryStation k).1 =
      (match k with | .traffic h _ => BitVec.ofNat 16 (h.gen.val * 4096 + h.slot.val) | _ => 65535) ∧
    (entryStation k).2 = match k with | .traffic _ .pc0 => 0 | .traffic _ .pc1 => 1 | _ => 65535 := by
  cases k with
  | traffic h x => exact ⟨handleWord_zero .., by cases x <;> rfl⟩
  | chime n => exact ⟨rfl, rfl⟩
  | nav => exact ⟨rfl, rfl⟩
  | ring h => exact ⟨rfl, rfl⟩
  | waiting h => exact ⟨rfl, rfl⟩

theorem entryCall_word (k : EntryKind) : entryCall k = match k with
    | .ring h => BitVec.ofNat 16 (h.gen.val * 4096 + h.slot.val)
    | .waiting h => BitVec.ofNat 16 (h.gen.val * 4096 + h.slot.val)
    | _ => 65535 := by
  cases k with
  | ring h => exact handleWord_zero ..
  | waiting h => exact handleWord_zero ..
  | chime n => rfl
  | nav => rfl
  | traffic h x => rfl

theorem entryWords_spelled {c : Cabin} {i : Fin 8} {e : Entry} (he : (c.entrySlot i).entry = some e) :
    entryWords c i e = [
      BitVec.ofNat 16 ((c.entrySlot i).gen.val * 4096 + i.val),
      (match e.kind with | .chime _ => 0 | .nav => 1 | .traffic _ _ => 2 | .ring _ => 3 | .waiting _ => 4),
      (match e.kind with | .chime n => BitVec.ofNat 16 n.val | .ring _ => 7 | .waiting _ => 6 | _ => 65535),
      BitVec.ofNat 16 e.priority, zoneSetWord e.targets,
      (if e.kind = .nav ∨ e.kind.isTraffic = true then if zoneSetWord (audibleZones c i) = 0 then 0 else 1
       else if (c.queue.voices.get 0).map (·.slot) = some i ∨ (c.queue.voices.get 1).map (·.slot) = some i then 1
       else 0),
      zoneSetWord (audibleZones c i),
      (if (c.queue.voices.get 0).map (·.slot) = some i then 0
       else if (c.queue.voices.get 1).map (·.slot) = some i then 1 else 65535),
      entryTime e, (match e.kind with | .traffic h _ => BitVec.ofNat 16 (h.gen.val * 4096 + h.slot.val) | _ => 65535),
      (match e.kind with | .traffic _ .pc0 => 0 | .traffic _ .pc1 => 1 | _ => 65535),
      (match e.kind with
        | .ring h => BitVec.ofNat 16 (h.gen.val * 4096 + h.slot.val)
        | .waiting h => BitVec.ofNat 16 (h.gen.val * 4096 + h.slot.val)
        | _ => 65535)] := by
  obtain ⟨hstation, hchan⟩ := entryStation_words e.kind
  simp only [entryWords, entryPlaying_word he, entryPattern_word, entryKind_word, voiceOf_word, hstation, hchan,
    entryCall_word, entryWord, handleWord_zero]
  rfl

theorem endWords_spelled (r : EndRecord) : endWords r = [
    BitVec.ofNat 16 (r.entry.gen.val * 4096 + r.entry.slot.val),
    (match r.kind with | .chime _ => 0 | .nav => 1 | .traffic _ _ => 2 | .ring _ => 3 | .waiting _ => 4),
    (match r.kind with | .chime n => BitVec.ofNat 16 n.val | .ring _ => 7 | .waiting _ => 6 | _ => 65535),
    (match r.reason with
      | .completed => 0 | .requested => 1 | .timedOut => 2 | .cleared => 3 | .uncarried => 4 | .displaced => 5
      | .call => 6), r.number] := by
  have hreason : natWord r.reason.num = match r.reason with
      | .completed => 0 | .requested => 1 | .timedOut => 2 | .cleared => 3 | .uncarried => 4 | .displaced => 5
      | .call => 6 := by
    cases r.reason <;> rfl
  simp only [endWords, entryPattern_word, entryKind_word, entryWord, handleWord_zero, hreason]

/-! ## Read Call (07 R130) -/

/-- The listeners that a call has while its privacy is as it is, spelled out (07 R122). -/
theorem concernsRear_iff (c : Cabin) (r : CallRecord) : concernsRear c (some r) = true ↔ r.joinable = true ∨
    ∃ z, (if r.privacy then ⟨false, false, true, false, false⟩ else r.listeners : ZoneSet).get z = true ∧
      rearChangeable c z = true := by
  have hset : effectiveListeners r = if r.privacy then ⟨false, false, true, false, false⟩ else r.listeners := by
    unfold effectiveListeners
    split
    · decide
    · rfl
  simp only [concernsRear, hasRearListeners, hset, Bool.or_eq_true, List.any_eq_true, Bool.and_eq_true, zone_mem_all,
    true_and]

/-! ## The reads -/

theorem receptionWords_eq (c : Cabin) : receptionWords c =
    [optHandle stationWord (c.chan .pc0).station, optHandle stationWord (c.chan .pc1).station,
     optWord ((c.chan .pc0).serving.map tunerNum), optWord ((c.chan .pc1).serving.map tunerNum),
     flagWord (c.chan .pc0).retuning, flagWord (c.chan .pc1).retuning, flagWord (c.chan .pc0).diversity,
     flagWord (c.chan .pc1).diversity, optWord ((selectedTuner (c.chan .pc0)).map tunerNum),
     optWord ((selectedTuner (c.chan .pc1)).map tunerNum), optWord (chanQuality (c.chan .pc0)),
     optWord (chanQuality (c.chan .pc1))] ++
    [(followWords (c.chan .pc0).follow).headD 0, (followWords (c.chan .pc1).follow).headD 0,
     (followWords (c.chan .pc0).follow).getLastD 0, (followWords (c.chan .pc1).follow).getLastD 0] ++
    [natWord (c.tuner .t0).role.num, natWord (c.tuner .t1).role.num, optWord ((c.tuner .t0).tuned.map (·.band.num)),
     optWord ((c.tuner .t1).tuned.map (·.band.num)), optWord ((c.tuner .t0).tuned.map (·.chan)),
     optWord ((c.tuner .t1).tuned.map (·.chan)), optWord (c.tuner .t0).smoothed, optWord (c.tuner .t1).smoothed] := by
  have hfollow : ∀ f, followWords f = [(followWords f).headD 0, (followWords f).getLastD 0] := by
    intro f
    cases f <;> rfl
  unfold receptionWords chanWords
  rw [hfollow (c.chan .pc0).follow, hfollow (c.chan .pc1).follow]
  rfl

theorem exec_readCall {p : Port} {h : Handle} {i : Fin 2} {r : CallRecord} {s : State} (hrun : s.Running)
    (hi : finOf? 2 h.slot = some i) (hr : callOf s.cab i h = some r) :
    (p = .front ∨ concernsRear s.cab (some r) = true →
      exec (.readCall p h) s = .next (s.onCab (respond p .done (callWords s.cab i r)))) ∧
    (p = .rear → ¬ concernsRear s.cab (some r) = true →
      exec (.readCall p h) s = .next (s.onCab (respond p .denied []))) := by
  refine ⟨fun hmay => exec_cabRequest hrun rfl ?_, fun hp hnot => exec_cabRequest hrun rfl ?_⟩
  · have hno : ¬ (p = .rear ∧ concernsRear s.cab (some r) = false) := by
      rintro ⟨rfl, hfalse⟩
      simp [hfalse] at hmay
    simp only [readCall, hi, hr, if_neg hno]
  · simp only [readCall, hi, hr, if_pos (And.intro hp (Bool.eq_false_of_not_eq_true hnot))]
    rfl

theorem followWords_some (f : Follow) : followWords (some f) =
    [(match f.phase with | .tuningWinner _ => 3 | _ => if f.borrows then 1 else 2), BitVec.ofNat 16 f.pos] := by
  unfold followWords
  rfl

theorem selectedTuner_eq (v : ProgChan) :
    selectedTuner v = if v.partner then v.serving.map TunerId.other else v.serving := by
  unfold selectedTuner
  cases v.partner <;> cases v.serving <;> rfl

theorem ringWords_eq (g : Ring) : ringWords g =
    [natWord g.state.num] ++ g.nodes.cells.map (fun n => natWord n.state.num) ++
    g.nodes.cells.map (fun n => optWord (n.kind.map nodeKindNum)) ++
    g.nodes.cells.map (fun n => natWord (faultNum n.fault)) ++
    g.placement.cells.map (fun e => mapEntryWord e.entry) ++
    g.placement.cells.map (fun e => natWord e.status.num) ++
    [flagWord g.lineSeen, flagWord g.externalMute, bitsWord [g.drive.supply, g.drive.request, g.drive.liteReset]] := by
  simp only [ringWords, nodeListWords, placementWords, List.append_assoc]

theorem exec_readRing {p : Port} {s : State} (hrun : s.Running) :
    exec (.readRing p) s = .next (s.onCab (respond p .done (ringWords s.ring))) := by
  have hpart : s.cab.ports.part = .running := hrun
  have hexec : exec (.readRing p) s = .next (takeRequest p (readRing p) s) := rfl
  simp only [hexec, takeRequest, hpart]
  rfl

/-- Settles O60: each read is one equation of `exec`, and the words are spelled field by field. -/
theorem readsReturnTheFields : Obligations.ReadsReturnTheFields := by
  refine ⟨fun p s hrun => ?_, fun p m n s hrun hm => exec_cabRequest hrun rfl (by simp only [readPattern, hm]; rfl),
    fun p s hrun => ⟨entriesInOrder s.cab, rfl, fun x => mem_entriesInOrder, entriesInOrder_ordered s.cab,
      exec_cabRequest hrun rfl rfl⟩, fun p h i r s hrun hi hr => ?_, fun p s hrun => ?_, callWords_spelled,
    fun c i e => ⟨audibleZones c i, entryTime e, fun z => ?_, entryTime_spelled e, entryWords_spelled⟩, endWords_spelled,
    zoneSetWord_eq, fun a b d => ?_, fun n => ⟨rfl, rfl, rfl, rfl, rfl⟩,
    fun h e => ⟨rfl, handleWord_zero .., handleWord_zero ..⟩,
    fun f v p k => ⟨rfl, followWords_some f, rfl, selectedTuner_eq v, rfl, rfl⟩, rfl, rfl, rfl, rfl, rfl, rfl, rfl, rfl⟩
  · exact exec_cabRequest hrun rfl (by rw [readReception, receptionWords_eq])
  · rw [← concernsRear_iff]
    exact exec_readCall hrun hi hr
  · rw [exec_readRing hrun, ringWords_eq]
  · rw [audibleZones, PerZone.get_build]
    exact audibleIn_iff
  · rw [← packBits_three]
    rfl

end Sys2Proof.Machine
end

section
/-! SUPPORT. Channels, tuners and carried records after an update, the roles that tuners take (05 R92), and what the
commands of the tuners leave alone. -/

namespace Sys2Proof.Machine

/-! ## Channels and tuners after an update -/

@[simp] theorem tuner_other_other (u : TunerId) : u.other.other = u := by cases u <;> rfl

theorem tuner_other_ne (u : TunerId) : u.other ≠ u := by cases u <;> decide

theorem tuner_eq_or_other (u a : TunerId) : u = a ∨ u = a.other := by cases u <;> cases a <;> decide

@[simp] theorem chan_other_other (x : Chan) : x.other.other = x := by cases x <;> rfl

theorem chan_eq_or_other (x y : Chan) : x = y ∨ x = y.other := by cases x <;> cases y <;> decide

@[simp] theorem setChan_chan_same (x : Chan) (v : ProgChan) (c : Cabin) : (setChan x v c).chan x = v := by
  simp [Cabin.chan]

@[simp] theorem setChan_chan_other (x : Chan) (v : ProgChan) (c : Cabin) :
    (setChan x v c).chan x.other = c.chan x.other := by simp [Cabin.chan]

@[simp] theorem setChan_tuner (x : Chan) (v : ProgChan) (c : Cabin) (u : TunerId) : (setChan x v c).tuner u = c.tuner u := rfl

@[simp] theorem setTuner_tuner_same (u : TunerId) (v : Tuner) (c : Cabin) : (setTuner u v c).tuner u = v := by
  simp [Cabin.tuner]

@[simp] theorem setTuner_tuner_other (u : TunerId) (v : Tuner) (c : Cabin) :
    (setTuner u v c).tuner u.other = c.tuner u.other := by simp [Cabin.tuner]

@[simp] theorem setTuner_chan (u : TunerId) (v : Tuner) (c : Cabin) (x : Chan) : (setTuner u v c).chan x = c.chan x := rfl

@[simp] theorem setChan_stationSlot (x : Chan) (v : ProgChan) (c : Cabin) (i : Fin 40) :
    (setChan x v c).stationSlot i = c.stationSlot i := rfl

@[simp] theorem modifyStation_chan (i : Fin 40) (g : Station → Station) (c : Cabin) (x : Chan) :
    (modifyStation i g c).chan x = c.chan x := chan_of_chans (by simp) x

@[simp] theorem settleRoles_chan (c : Cabin) (x : Chan) : (settleRoles c).chan x = c.chan x := chan_of_chans (by simp) x

theorem tuner_of_tuners {c d : Cabin} (h : d.alloc.tuners = c.alloc.tuners) (u : TunerId) : d.tuner u = c.tuner u :=
  congrArg (fun t => t.get u) h

/-! ## Carried records -/

theorem station_eq_some_iff {c : Cabin} {h : StationId} {r : Station} :
    c.station h = some r ↔ c.stationSlot h.slot = ⟨h.gen, some r⟩ := by
  unfold Cabin.station
  constructor
  · intro hr
    split at hr
    · next hgen => rw [← hgen, ← hr]
    · cases hr
  · intro hs
    rw [hs]
    exact if_pos rfl

theorem station_of_slots {c d : Cabin} (h : d.table.slots = c.table.slots) (g : StationId) : d.station g = c.station g := by
  simp only [Cabin.station, stationSlot_of_slots h]

theorem modifyStation_station {c : Cabin} {h : StationId} {r : Station} (hr : c.station h = some r)
    (g : Station → Station) : (modifyStation h.slot g c).station h = some (g r) := by
  rw [station_eq_some_iff] at hr ⊢
  simp [hr]

theorem freqOf_eq {c : Cabin} {h : StationId} {r : Station} (hr : c.station h = some r) : freqOf c h = some r.freq := by
  simp [freqOf, hr]

/-! ## Roles (05 R92) -/

theorem servedBy_eq_none_iff {c : Cabin} {u : TunerId} : servedBy c u = none ↔ ∀ x, (c.chan x).serving ≠ some u := by
  unfold servedBy
  constructor
  · intro h x
    split at h
    · cases h
    · split at h
      · cases h
      · cases x <;> assumption
  · intro h
    rw [if_neg (h .pc0), if_neg (h .pc1)]

theorem servedBy_alone {c : Cabin} {u : TunerId} {x : Chan} (hx : (c.chan x).serving = some u)
    (hother : (c.chan x.other).serving ≠ some u) : servedBy c u = some x := by
  cases x
  · exact if_pos hx
  · exact (if_neg hother).trans (if_pos hx)

theorem desiredRole_serving {c : Cabin} {u : TunerId} {x : Chan} (hx : (c.chan x).serving = some u) :
    desiredRole c u = .programme := by
  unfold desiredRole
  split
  · rfl
  · next hnone => exact absurd hx (servedBy_eq_none_iff.mp hnone x)

/-- The role of the tuner that is left, while one channel is served. -/
theorem desiredRole_supporting {c : Cabin} {u : TunerId} {x : Chan} (hx : (c.chan x).serving = some u)
    (hother : (c.chan x.other).serving = none) (hposts : c.ports.part.posts = true) (hstop : c.alloc.stopped = false) :
    desiredRole c u.other = supportRole (c.chan x) := by
  have hfree : servedBy c u.other = none := servedBy_eq_none_iff.mpr fun y => by
    rcases chan_eq_or_other y x with rfl | rfl
    · rw [hx]
      exact fun h => tuner_other_ne u (Option.some.inj h).symm
    · simp [hother]
  have hserved : servedBy c u = some x := servedBy_alone hx (by simp [hother])
  unfold desiredRole
  simp [hfree, hposts, hstop, hserved]

theorem setRole_tuner_same (u : TunerId) (r : Role) (c : Cabin) :
    (setRole u r c).tuner u = if (c.tuner u).role = r then c.tuner u else enterRole c r (c.tuner u) := by
  unfold setRole
  split
  · rfl
  · dsimp only
    split <;> exact setTuner_tuner_same ..

theorem setRole_tuner_other (u : TunerId) (r : Role) (c : Cabin) : (setRole u r c).tuner u.other = c.tuner u.other := by
  unfold setRole
  split
  · rfl
  · dsimp only
    split <;> exact setTuner_tuner_other ..

theorem enterRole_of_position {c d : Cabin} (h : d.table.position = c.table.position) (r : Role) (v : Tuner) :
    enterRole d r v = enterRole c r v := by
  cases r <;> simp [enterRole, h]

/-- Each tuner by itself: it enters its role, or has it already. -/
theorem settleRoles_tuner (c : Cabin) (u : TunerId) : (settleRoles c).tuner u =
    if (c.tuner u).role = desiredRole c u then c.tuner u else enterRole c (desiredRole c u) (c.tuner u) := by
  have hkept : ∀ r, (setRole .t0 r c).tuner .t1 = c.tuner .t1 := fun r => setRole_tuner_other .t0 r c
  cases u
  · exact (setRole_tuner_other .t1 _ _).trans (setRole_tuner_same ..)
  · unfold settleRoles
    rw [setRole_tuner_same, hkept, enterRole_of_position (c := c) (by simp)]

theorem enterRole_role (c : Cabin) (r : Role) (v : Tuner) : (enterRole c r v).role = r := by cases r <;> rfl

theorem settleRoles_role (c : Cabin) (u : TunerId) : ((settleRoles c).tuner u).role = desiredRole c u := by
  rw [settleRoles_tuner]
  split
  · assumption
  · exact enterRole_role ..

theorem settleRoles_tuner_enters {c : Cabin} {u : TunerId} (h : (c.tuner u).role ≠ desiredRole c u) :
    (settleRoles c).tuner u = enterRole c (desiredRole c u) (c.tuner u) := by rw [settleRoles_tuner, if_neg h]

/-- A tuner that serves a channel keeps its tuning and its smoothed quality. -/
theorem settleRoles_serving {c : Cabin} {u : TunerId} {x : Chan} (hx : (c.chan x).serving = some u) :
    ((settleRoles c).tuner u).role = .programme ∧ ((settleRoles c).tuner u).tuned = (c.tuner u).tuned ∧
    ((settleRoles c).tuner u).smoothed = (c.tuner u).smoothed ∧
    ((c.tuner u).role ≠ .programme → ((settleRoles c).tuner u).acc = emptyAcceptance) ∧
    ((c.tuner u).role = .programme → (settleRoles c).tuner u = c.tuner u) := by
  have hrole := desiredRole_serving hx
  rw [settleRoles_tuner, hrole]
  split
  · next h => exact ⟨h, rfl, rfl, fun hne => absurd h hne, fun _ => rfl⟩
  · next h => exact ⟨rfl, rfl, rfl, fun _ => rfl, fun he => absurd he h⟩

/-! ## What the commands of the tuners leave alone -/

/-- Only tuners, channels, station slots and the dwell may differ. -/
structure TunersAlone (c d : Cabin) : Prop where
  ports : d.ports = c.ports
  dir : d.dir = c.dir
  mix : d.mix = c.mix
  builder : d.builder = c.builder
  queue : d.queue = c.queue
  calls : d.calls = c.calls
  stopped : d.alloc.stopped = c.alloc.stopped
  position : d.table.position = c.table.position
  watch : d.table.watch = c.table.watch
  tableFull : d.table.tableFull = c.table.tableFull

theorem TunersAlone.refl (c : Cabin) : TunersAlone c c := ⟨rfl, rfl, rfl, rfl, rfl, rfl, rfl, rfl, rfl, rfl⟩

section Operations

variable {c d : Cabin} (h : TunersAlone c d)
include h

theorem TunersAlone.trans {e : Cabin} (g : TunersAlone d e) : TunersAlone c e :=
  ⟨g.ports.trans h.ports, g.dir.trans h.dir, g.mix.trans h.mix, g.builder.trans h.builder, g.queue.trans h.queue,
    g.calls.trans h.calls, g.stopped.trans h.stopped, g.position.trans h.position, g.watch.trans h.watch,
    g.tableFull.trans h.tableFull⟩

theorem TunersAlone.setChan (x : Chan) (v : ProgChan) : TunersAlone c (setChan x v d) :=
  h.trans ⟨rfl, rfl, rfl, rfl, rfl, rfl, rfl, rfl, rfl, rfl⟩

theorem TunersAlone.setTuner (u : TunerId) (v : Tuner) : TunersAlone c (setTuner u v d) :=
  h.trans ⟨rfl, rfl, rfl, rfl, rfl, rfl, rfl, rfl, rfl, rfl⟩

theorem TunersAlone.settleRoles : TunersAlone c (settleRoles d) := h.trans (by constructor <;> simp)

theorem TunersAlone.modifyStation (i : Fin 40) (g : Station → Station) : TunersAlone c (modifyStation i g d) :=
  h.trans (by constructor <;> simp)

theorem TunersAlone.endDiversity (x : Chan) : TunersAlone c (endDiversity x d) := h.trans (by constructor <;> simp)

theorem TunersAlone.beginRetune (x : Chan) : TunersAlone c (beginRetune x d) := h.trans (by constructor <;> simp)

end Operations

/-- The states are derived again after a change of the tuners and channels (05 R93, R99). -/
structure TunersSettled (s t : State) : Prop where
  states : ∀ l k r, (t.cab.route l k).record = some r → r.state = routeState t.cab l r
  routes : ∀ l k, SameRoute (t.cab.route l k) (s.cab.route l k)
  shows : s.cab.ports.part.posts = true → ∀ l k a, (s.cab.route l k).record = some a →
    ∀ b, (t.cab.route l k).record = some b → a.state ≠ b.state → t.shows b.owner .route
  zones : t.cab.dir.zones = s.cab.dir.zones
  media : t.cab.dir.media = s.cab.dir.media
  rearControl : t.cab.dir.rearControl = s.cab.dir.rearControl
  queue : t.cab.queue = s.cab.queue
  calls : t.cab.calls = s.cab.calls
  channels : t.cab.mix.channels = s.cab.mix.channels
  part : t.cab.ports.part = s.cab.ports.part
  relay : t.cab.ports.relay = s.cab.ports.relay
  response : t.cab.ports.response = s.cab.ports.response
  events : KeptEvents s t
  plans : KeptPlans s t
  levels : KeptLevels s t

theorem Rederived.settled {s t : State} {d : Cabin} (hd : Rederived d t.cab) (h : TunersAlone s.cab d) :
    TunersSettled s t := by
  have hroute : ∀ l k, d.route l k = s.cab.route l k := route_of_lists (by rw [h.dir])
  have hmix : ∀ z, d.mixZone z = s.cab.mixZone z := mixZone_of_zones (by rw [h.mix])
  exact {
    states := hd.states
    routes := fun l k => hroute l k ▸ hd.routes l k
    shows := fun hposts l k a ha => hd.shows (by rwa [h.ports]) l k a (by rwa [hroute])
    zones := hd.zones.trans (by rw [h.dir])
    media := hd.media.trans (by rw [h.dir])
    rearControl := hd.rearControl.trans (by rw [h.dir])
    queue := hd.queue.trans h.queue
    calls := hd.calls.trans h.calls
    channels := hd.around.frame.channels.trans (by rw [h.mix])
    part := hd.around.frame.part.trans (by rw [h.ports])
    relay := hd.around.frame.relay.trans (by rw [h.ports])
    response := hd.around.frame.response.trans (by rw [h.ports])
    events := fun p k hk => hd.around.events p k (by rwa [h.ports])
    plans := fun z => hmix z ▸ hd.around.plans z
    levels := fun z => hmix z ▸ hd.around.levels z }

theorem settleStates_settled {s t : State} {d : Cabin} (ht : t.cab = settleStates d) (h : TunersAlone s.cab d) :
    TunersSettled s t := Rederived.settled (by rw [ht]; exact rederived_follows d) h

@[simp] theorem settleStates_chan (c : Cabin) (x : Chan) : (settleStates c).chan x = c.chan x := chan_of_chans (by simp) x

@[simp] theorem settleStates_tuner (c : Cabin) (u : TunerId) : (settleStates c).tuner u = c.tuner u :=
  tuner_of_tuners (by simp) u

/-! ## Commands that act on the cabin alone -/

theorem exec_of_cabin {i : Instr} {f : Cabin → Cabin} {s : State} {d : Cabin} (hi : exec i s = .next (s.onCab f))
    (hd : f s.cab = d) : ∃ t, exec i s = .next t ∧ t.cab = d ∧ KeptOutside s t := ⟨_, hi, hd, rfl, rfl, rfl, rfl⟩

theorem exec_of_unchanged {i : Instr} {f : Cabin → Cabin} {s : State} (hi : exec i s = .next (s.onCab f))
    (hd : f s.cab = s.cab) : exec i s = .next s := by
  rw [hi, State.onCab, hd]

end Sys2Proof.Machine
end

section
/-! SUPPORT. Measurements, and the ends of a retune, of diversity tuning and of diversity (05 R86, R87, R93 to R96). -/

namespace Sys2Proof.Machine

/-! ## The end of a retune (05 R93) -/

theorem exec_retuneComplete {x : Chan} {s : State} (hr : (s.cab.chan x).retuning = true)
    (hs : s.cab.alloc.stopped = false) : ∃ t, exec (.retuneComplete x) s = .next t ∧
      t.cab = settleStates (setChan x { s.cab.chan x with retuning := false, followCount := 0 } s.cab) ∧ KeptOutside s t :=
  exec_of_cabin rfl (if_pos ⟨hr, hs⟩)

theorem exec_retuneComplete_idle {x : Chan} {s : State}
    (h : (s.cab.chan x).retuning = false ∨ s.cab.alloc.stopped = true) : exec (.retuneComplete x) s = .next s :=
  exec_of_unchanged rfl (if_neg fun ⟨hr, hs⟩ => by simp [hr, hs] at h)

/-! ## The end of diversity (05 R94) -/

/-- The channel once the selected tuner has taken it (05 R94). -/
def withoutDiversity (v : ProgChan) : ProgChan :=
  { v with diversity := false, partner := false, serving := selectedTuner v }

theorem exchange_eq (v : ProgChan) : { exchange v with diversity := false } = withoutDiversity v := by
  unfold exchange withoutDiversity
  rw [selectedTuner_eq]
  split
  · rfl
  · next hp => rw [← Bool.eq_false_of_not_eq_true hp]

theorem exec_diversityOff {x : Chan} {s : State} (hd : (s.cab.chan x).diversity = true)
    (hrun : 500 ≤ (s.cab.chan x).highRun) : ∃ t, exec (.diversityOff x) s = .next t ∧
      t.cab = settleRoles (setChan x (withoutDiversity (s.cab.chan x)) s.cab) ∧ KeptOutside s t :=
  exec_of_cabin rfl ((if_pos ⟨hd, hrun⟩).trans (by rw [exchange_eq]))

theorem exec_diversityOff_idle {x : Chan} {s : State}
    (h : (s.cab.chan x).diversity = false ∨ (s.cab.chan x).highRun < 500) : exec (.diversityOff x) s = .next s :=
  exec_of_unchanged rfl (if_neg fun ⟨hd, hrun⟩ => by
    rcases h with h | h
    · rw [hd] at h
      cases h
    · omega)

/-- A tuner that scans next is tuned to the position, unless it scans already. -/
theorem settleRoles_scanning {c : Cabin} {u : TunerId} (h : desiredRole c u = .scan) :
    ((settleRoles c).tuner u).role = .scan ∧ ((c.tuner u).role ≠ .scan →
      ((settleRoles c).tuner u).tuned = some c.table.position ∧ ((settleRoles c).tuner u).acc = emptyAcceptance) := by
  refine ⟨(settleRoles_role c u).trans h, fun hne => ?_⟩
  rw [settleRoles_tuner_enters (by rwa [h]), h]
  exact ⟨rfl, rfl⟩

/-- Settles O33: the retune's end derives the states again, and where diversity ends the roles are settled by the selected
tuner. -/
theorem retuneAndDiversityEnd : Obligations.RetuneAndDiversityEnd := by
  refine ⟨fun x s hr hstop => ?_, fun x s h => exec_retuneComplete_idle h, fun s => ?_, fun x s hd hrun => ?_,
    fun x s h => exec_diversityOff_idle h⟩
  · obtain ⟨t, ht, hcab, hout⟩ := exec_retuneComplete hr hstop
    have hset := settleStates_settled hcab (.setChan (.refl s.cab) x _)
    refine ⟨t, ht, ?_, hset.routes, hset.states, hset.shows, ?_, fun u => ?_, ?_, hset.zones, hset.media, hset.rearControl,
      hset.queue, hset.calls, hset.channels, hset.part, hset.relay, hset.response, hset.events, hset.plans, hset.levels,
      hout⟩
    all_goals simp [hcab]
  · exact ⟨_, rfl, fun u => by cases u <;> rfl, rfl⟩
  · obtain ⟨t, ht, hcab, hout⟩ := exec_diversityOff hd hrun
    have halone : TunersAlone s.cab t.cab := hcab ▸ (TunersAlone.setChan (.refl s.cab) x _).settleRoles
    refine ⟨t, ht, by simp [hcab, withoutDiversity], by simp [hcab], fun a ha => ?_, halone.stopped, by simp [hcab],
      halone.position, halone.watch, halone.dir, halone.mix, halone.builder, halone.queue, halone.calls, halone.ports, hout⟩
    rw [hcab]
    have hserving : ((setChan x (withoutDiversity (s.cab.chan x)) s.cab).chan x).serving = some a := by
      rw [setChan_chan_same]
      exact ha
    obtain ⟨hrole, htuned, hsmooth, -⟩ := settleRoles_serving hserving
    refine ⟨hrole, htuned, hsmooth, fun hother hfollow hposts hstop => settleRoles_scanning ?_⟩
    rw [desiredRole_supporting hserving (by simpa using hother) hposts hstop]
    simp [supportRole, borrowing, withoutDiversity, hfollow]

end Sys2Proof.Machine
end

section
/-! SUPPORT. The measurement of a tuner that serves or supports a channel (05 R86, R87, R94 to R96, 04 R67). -/

namespace Sys2Proof.Machine

/-- The channel after a lead of the tuner that is not selected, whose quality `q` it takes (05 R95). -/
def crossedOver (q : Nat) (v : ProgChan) : ProgChan := { v with partner := !v.partner, quality := q }

theorem selectedTuner_crossed {v : ProgChan} {a : TunerId} (h : selectedTuner v = some a) :
    selectedTuner { v with partner := !v.partner } = some a.other := by
  obtain ⟨b, hb, rfl⟩ := Option.map_eq_some_iff.mp h
  cases hp : v.partner <;> simp [selectedTuner, hb]

theorem serving_of_selected {v : ProgChan} {a : TunerId} (h : selectedTuner v = some a) :
    v.serving = some (if v.partner then a.other else a) := by
  obtain ⟨b, hb, rfl⟩ := Option.map_eq_some_iff.mp h
  rw [hb]
  split <;> simp

/-- Whether the tuner that is not selected leads, and by which quality (05 R95). -/
theorem reselect_eq {c : Cabin} {x : Chan} {a : TunerId} (ha : selectedTuner (c.chan x) = some a) :
    (((c.chan x).diversity && leads (c.tuner a.other).smoothed (c.tuner a).smoothed) = false → reselect x c = c) ∧
    (((c.chan x).diversity && leads (c.tuner a.other).smoothed (c.tuner a).smoothed) = true →
      ∃ q, (c.tuner a.other).smoothed = some q ∧ reselect x c = setChan x (crossedOver q (c.chan x)) c) := by
  refine ⟨fun hno => by simp only [reselect, ha, hno]; rfl, fun hlead => ?_⟩
  obtain ⟨hdiv, hleads⟩ := Bool.and_eq_true_iff.mp hlead
  cases hq : (c.tuner a.other).smoothed with
  | none => simp [leads, hq] at hleads
  | some q =>
    refine ⟨q, rfl, ?_⟩
    have htaken : takeQuality c { c.chan x with partner := !(c.chan x).partner } = crossedOver q (c.chan x) := by
      simp only [takeQuality, selectedTuner_crossed ha, hq]
      rfl
    rw [← htaken]
    simp only [reselect, ha, hlead]
    rfl

theorem noteChanQuality_eq {c : Cabin} {x : Chan} {h : StationId} (hx : (c.chan x).station = some h) (q : Nat) :
    noteChanQuality x q c = setChan x (measuredQuality q (c.chan x)) (noteRecordQuality h q c) := by
  simp only [noteChanQuality, hx]

theorem noteRecordQuality_slot {c : Cabin} {h : StationId} {r : Station} (hr : c.station h = some r) (q : Nat) :
    (noteRecordQuality h q c).stationSlot h.slot =
      ⟨h.gen, some { r with quality := q, received := r.received || decide (30 ≤ q) }⟩ :=
  station_eq_some_iff.mp (modifyStation_station hr _)

theorem noteRecordQuality_slot_other {h : StationId} {j : Fin 40} (hj : j ≠ h.slot) (q : Nat) (c : Cabin) :
    (noteRecordQuality h q c).stationSlot j = c.stationSlot j := by simp [noteRecordQuality, hj]

/-! ## Turning diversity on (05 R94) -/

/-- Where diversity is to be turned on, spelled out. -/
theorem wantsDiversity_eq {c : Cabin} {x : Chan} {h : StationId} {r : Station} (hx : (c.chan x).station = some h)
    (hr : c.station h = some r) : wantsDiversity c x = decide ((c.chan x).diversity = false ∧
      (c.chan x.other).station = none ∧ r.freq.band = .fm ∧ (c.chan x).follow = none ∧ (c.chan x).retuning = false ∧
      (c.chan x).quality < 60) := by
  have hfm : carriesFm c x = decide (r.freq.band = .fm) := by simp only [carriesFm, hx, freqOf_eq hr]
  rw [Bool.eq_iff_iff]
  simp [wantsDiversity, hfm, carriesStation, and_assoc]

/-- The channel with diversity on (05 R94). -/
def diverse (v : ProgChan) : ProgChan := { v with diversity := true, partner := false }

theorem startDiversity_eq {c : Cabin} {x : Chan} {h : StationId} {r : Station} {b : TunerId}
    (hx : (c.chan x).station = some h) (hr : c.station h = some r) (hb : (c.chan x).serving = some b) :
    startDiversity x c = setTuner b.other
      { (settleRoles (setChan x (diverse (c.chan x)) c)).tuner b.other with
        tuned := some r.freq, smoothed := none, tuning := true, acc := emptyAcceptance }
      (settleRoles (setChan x (diverse (c.chan x)) c)) := by
  have hfreq : freqOf (settleRoles (setChan x (diverse (c.chan x)) c)) h = some r.freq :=
    freqOf_eq (by rw [station_of_slots (settleRoles_slots _)]; exact hr)
  unfold startDiversity
  split
  · next g t hg ht =>
    obtain rfl := Option.some.inj (hx.symm.trans hg)
    obtain rfl := Option.some.inj (hb.symm.trans ht)
    rw [← hfreq]
    rfl
  · next hnone => exact absurd hb (hnone h b hx)

/-! ## What a measurement makes of the channel -/

/-- The tuner's own quality, which is taken first (05 R87). -/
def smoothedTo (u : TunerId) (q : Nat) (c : Cabin) : Cabin := setTuner u { c.tuner u with smoothed := some q } c

theorem smoothedTo_smoothed (u b : TunerId) (q : Nat) (c : Cabin) :
    ((smoothedTo u q c).tuner b).smoothed = if u = b then some q else (c.tuner b).smoothed := by
  rcases tuner_eq_or_other u b with rfl | rfl
  · simp [smoothedTo]
  · rw [if_neg (tuner_other_ne b)]
    cases b <;> rfl

/-- The selection moves, once the measuring tuner `u` has its new quality; `a` is the selected tuner (05 R95). -/
def leadsAfter (u a : TunerId) (x : Chan) (q : Nat) (c : Cabin) : Bool :=
  (c.chan x).diversity && leads (if u = a.other then some q else (c.tuner a.other).smoothed)
    (if u = a then some q else (c.tuner a).smoothed)

/-- Diversity is turned on; `r` is the carried record (05 R94). -/
def turnsOn (u a : TunerId) (x : Chan) (r : Station) (q : Nat) (c : Cabin) : Bool :=
  decide (u = a ∧ (c.chan x).diversity = false ∧ (c.chan x.other).station = none ∧ r.freq.band = .fm ∧
    (c.chan x).follow = none ∧ (c.chan x).retuning = false ∧ q < 60)

theorem leadsAfter_of_turnsOn {u a : TunerId} {x : Chan} {r : Station} {q : Nat} {c : Cabin}
    (h : turnsOn u a x r q c = true) : leadsAfter u a x q c = false := by
  simp [leadsAfter, (of_decide_eq_true h).2.1]

/-- The channel as the measurement counts: `own` where it is one of the channel (05 R87, R94, R96). -/
def countedChan (own : Bool) (q : Nat) (v : ProgChan) : ProgChan := if own then measuredQuality q v else v

/-- The channel before diversity is turned on; `q'` is the quality of the tuner that leads. -/
def selectedChan (own lead : Bool) (q q' : Nat) (v : ProgChan) : ProgChan :=
  if lead then crossedOver q' (countedChan own q v) else countedChan own q v

/-- The cabin before diversity is turned on, its channel `v`; the record is noted where the measurement is the channel's
(04 R67). -/
def measuredCabin (own : Bool) (u : TunerId) (x : Chan) (h : StationId) (q : Nat) (v : ProgChan) (c : Cabin) : Cabin :=
  setChan x v (if own then noteRecordQuality h q (smoothedTo u q c) else smoothedTo u q c)

theorem measuredCabin_alone (own : Bool) (u : TunerId) (x : Chan) (h : StationId) (q : Nat) (v : ProgChan) (c : Cabin) :
    TunersAlone c (measuredCabin own u x h q v c) := by
  refine TunersAlone.setChan ?_ x v
  split
  · exact (TunersAlone.setTuner (.refl c) u _).modifyStation _ _
  · exact .setTuner (.refl c) u _

section

variable (own : Bool) (u b : TunerId) (x : Chan) (h : StationId) (q : Nat) (v : ProgChan) (c : Cabin)

@[simp] theorem measuredCabin_chan : (measuredCabin own u x h q v c).chan x = v := setChan_chan_same ..

@[simp] theorem measuredCabin_chan_other : (measuredCabin own u x h q v c).chan x.other = c.chan x.other := by
  rw [measuredCabin, setChan_chan_other]
  split
  · exact modifyStation_chan ..
  · rfl

@[simp] theorem measuredCabin_tuner : (measuredCabin own u x h q v c).tuner b = (smoothedTo u q c).tuner b := by
  rw [measuredCabin, setChan_tuner]
  split
  · exact modifyStation_tuner ..
  · rfl

theorem measuredCabin_slot {r : Station} (hr : c.station h = some r) :
    (measuredCabin true u x h q v c).stationSlot h.slot =
      ⟨h.gen, some { r with quality := q, received := r.received || decide (30 ≤ q) }⟩ :=
  noteRecordQuality_slot (c := smoothedTo u q c) hr q

theorem measuredCabin_slot_other {j : Fin 40} (hj : j ≠ h.slot) :
    (measuredCabin own u x h q v c).stationSlot j = c.stationSlot j := by
  rw [measuredCabin, setChan_stationSlot]
  split
  · exact noteRecordQuality_slot_other hj q _
  · rfl

end

theorem setChan_setChan (x : Chan) (v w : ProgChan) (c : Cabin) : setChan x v (setChan x w c) = setChan x v c := by
  cases x <;> rfl

theorem setChan_chan_self (x : Chan) (c : Cabin) : setChan x (c.chan x) c = c := by cases x <;> rfl

section Measured

variable {u a : TunerId} {x : Chan} {h : StationId} {r : Station} {c : Cabin} {raw q : Nat}
  (hx : (c.chan x).station = some h) (hr : c.station h = some r) (ha : selectedTuner (c.chan x) = some a)
  (hq : smooth (c.tuner u).smoothed raw = q)

/-- The selection after a measurement, in closed form. -/
theorem reselect_measured {own : Bool} (hv : selectedTuner (countedChan own q (c.chan x)) = some a)
    (hd : (countedChan own q (c.chan x)).diversity = (c.chan x).diversity) : ∃ q',
      (leadsAfter u a x q c = true → (if u = a.other then some q else (c.tuner a.other).smoothed) = some q') ∧
      reselect x (measuredCabin own u x h q (countedChan own q (c.chan x)) c) =
        measuredCabin own u x h q (selectedChan own (leadsAfter u a x q c) q q' (c.chan x)) c := by
  have hsel := reselect_eq (c := measuredCabin own u x h q (countedChan own q (c.chan x)) c) (x := x) (a := a)
    (by rwa [measuredCabin_chan])
  simp only [measuredCabin_chan, measuredCabin_tuner, smoothedTo_smoothed, hd] at hsel
  obtain ⟨hno, hyes⟩ := hsel
  cases hlead : leadsAfter u a x q c with
  | false => exact ⟨0, nofun, hno hlead⟩
  | true =>
    obtain ⟨q', hq', heq⟩ := hyes hlead
    exact ⟨q', fun _ => hq', heq.trans (setChan_setChan ..)⟩

include hx hr in
/-- Whether diversity is turned on is decided by the channel as it stood and the new quality: with diversity off the
selection has not moved. -/
theorem wantsDiversity_measured (hu : u = a) (q' : Nat) :
    wantsDiversity (measuredCabin true u x h q (selectedChan true (leadsAfter u a x q c) q q' (c.chan x)) c) x =
      turnsOn u a x r q c := by
  have hrecord : (measuredCabin true u x h q (selectedChan true (leadsAfter u a x q c) q q' (c.chan x)) c).station h =
      some { r with quality := q, received := r.received || decide (30 ≤ q) } :=
    station_eq_some_iff.mpr (measuredCabin_slot u x h q _ c hr)
  have hstation : (selectedChan true (leadsAfter u a x q c) q q' (c.chan x)).station = some h := by
    unfold selectedChan
    split <;> exact hx
  rw [wantsDiversity_eq (by rwa [measuredCabin_chan]) hrecord, measuredCabin_chan, measuredCabin_chan_other, turnsOn]
  cases hd : (c.chan x).diversity with
  | true =>
    have hkept : (selectedChan true (leadsAfter u a x q c) q q' (c.chan x)).diversity = true := by
      unfold selectedChan
      split <;> exact hd
    simp [hkept]
  | false =>
    have hlead : leadsAfter u a x q c = false := by simp [leadsAfter, hd]
    rw [hlead]
    simp [selectedChan, countedChan, measuredQuality, hd, hu]

include hx hr ha hq in
/-- A measurement as a whole. -/
theorem measureOn_eq : ∃ q', (leadsAfter u a x q c = true →
      (if u = a.other then some q else (c.tuner a.other).smoothed) = some q') ∧
    measureOn u x raw c = if turnsOn u a x r q c
      then startDiversity x (measuredCabin true u x h q (countedChan true q (c.chan x)) c)
      else measuredCabin (decide (u = a)) u x h q
        (selectedChan (decide (u = a)) (leadsAfter u a x q c) q q' (c.chan x)) c := by
  have hown : decide (selectedTuner (c.chan x) = some u) = decide (u = a) := by simp [ha, eq_comm]
  obtain ⟨q', hq', hsel⟩ := reselect_measured (u := u) (h := h) (q := q) (own := decide (u = a))
    (by unfold countedChan; split <;> exact ha) (by unfold countedChan; split <;> rfl)
  refine ⟨q', hq', ?_⟩
  by_cases hu : u = a
  · rw [decide_eq_true hu] at hown hsel ⊢
    have hnote : noteChanQuality x q (smoothedTo u q c) = measuredCabin true u x h q (countedChan true q (c.chan x)) c :=
      noteChanQuality_eq (c := smoothedTo u q c) hx q
    have hmeasure : measureOn u x raw c =
        if turnsOn u a x r q c then startDiversity x (reselect x (noteChanQuality x q (smoothedTo u q c)))
        else reselect x (noteChanQuality x q (smoothedTo u q c)) := by
      rw [← wantsDiversity_measured hx hr hu q', ← hsel, ← hnote]
      simp only [measureOn, hq, hown]
      rfl
    rw [hmeasure, hnote, hsel]
    split
    · next hon =>
      rw [leadsAfter_of_turnsOn hon]
      rfl
    · rfl
  · rw [decide_eq_false hu] at hown hsel ⊢
    have hoff : turnsOn u a x r q c = false := decide_eq_false fun h => hu h.1
    have hsmooth : measuredCabin false u x h q (countedChan false q (c.chan x)) c = smoothedTo u q c :=
      setChan_chan_self x (smoothedTo u q c)
    rw [hoff, ← hsel, hsmooth]
    simp only [measureOn, hq, hown]
    rfl

end Measured

theorem exec_measurement {u : TunerId} {f : Figures} {x : Chan} {s : State} (hx : measuredChan s.cab u = some x) :
    ∃ t, exec (.measurement u f) s = .next t ∧ t.cab = measureOn u x
      (rawQuality (tunedBand (s.cab.tuner u)) (s.supply.image.antenna.get u) f) s.cab ∧ KeptOutside s t :=
  exec_of_cabin (f := measurement s.supply.image u f) rfl (by simp only [measurement, hx])

/-- The tuners run while a serving tuner measures (05 R86). -/
theorem running_of_measuredChan {c : Cabin} {u : TunerId} {x : Chan} (h : measuredChan c u = some x)
    (hserved : servedBy c u = some x) : c.alloc.stopped = false := by
  simp only [measuredChan, hserved] at h
  split at h
  · next hm =>
    simp only [measuring, Bool.and_eq_true, Bool.not_eq_true'] at hm
    exact hm.2
  · cases h

section Started

variable {u b : TunerId} {x : Chan} {h : StationId} {r : Station} {c : Cabin}
  (hx : (c.chan x).station = some h) (hr : c.station h = some r) (hb : (c.chan x).serving = some b)
include hx hr hb

theorem startDiversity_alone : TunersAlone c (startDiversity x c) := by
  rw [startDiversity_eq hx hr hb]
  exact (TunersAlone.setChan (.refl c) x _).settleRoles.setTuner _ _

theorem startDiversity_chan : (startDiversity x c).chan x = diverse (c.chan x) := by
  simp [startDiversity_eq hx hr hb]

theorem startDiversity_chan_other : (startDiversity x c).chan x.other = c.chan x.other := by
  simp [startDiversity_eq hx hr hb]

/-- Where the other channel is free, the other tuner enters DIVERSITY and tunes to the channel's frequency. -/
theorem startDiversity_tuners (hother : (c.chan x.other).serving = none) (hposts : c.ports.part.posts = true)
    (hstop : c.alloc.stopped = false) (hfollow : (c.chan x).follow = none) :
    ((startDiversity x c).tuner b).smoothed = (c.tuner b).smoothed ∧
    ((startDiversity x c).tuner b.other).role = .diversity ∧ ((startDiversity x c).tuner b.other).tuned = some r.freq ∧
    ((startDiversity x c).tuner b.other).tuning = true ∧ ((startDiversity x c).tuner b.other).smoothed = none ∧
    ((startDiversity x c).tuner b.other).acc = emptyAcceptance := by
  have hserving : ((setChan x (diverse (c.chan x)) c).chan x).serving = some b := by
    rw [setChan_chan_same]
    exact hb
  have hrole : desiredRole (setChan x (diverse (c.chan x)) c) b.other = .diversity := by
    rw [desiredRole_supporting hserving (by simpa using hother) hposts hstop]
    simp [supportRole, borrowing, diverse, hfollow]
  have hkept : (startDiversity x c).tuner b = (settleRoles (setChan x (diverse (c.chan x)) c)).tuner b := by
    rw [startDiversity_eq hx hr hb]
    have := setTuner_tuner_other b.other { (settleRoles (setChan x (diverse (c.chan x)) c)).tuner b.other with
      tuned := some r.freq, smoothed := none, tuning := true, acc := emptyAcceptance }
      (settleRoles (setChan x (diverse (c.chan x)) c))
    rwa [tuner_other_other] at this
  rw [hkept, (settleRoles_serving hserving).2.2.1, startDiversity_eq hx hr hb, setTuner_tuner_same]
  exact ⟨rfl, (settleRoles_role ..).trans hrole, rfl, rfl, rfl, rfl⟩

end Started

/-- The channel after a measurement (05 R87, R94 to R96). -/
def measuredTo (u a : TunerId) (x : Chan) (r : Station) (q q' : Nat) (c : Cabin) : ProgChan :=
  if turnsOn u a x r q c then diverse (countedChan true q (c.chan x))
  else selectedChan (decide (u = a)) (leadsAfter u a x q c) q q' (c.chan x)

section

variable (u a : TunerId) (x : Chan) (r : Station) (q q' : Nat) (c : Cabin)

theorem measuredTo_selection : (measuredTo u a x r q q' c).partner =
      (if leadsAfter u a x q c then !(c.chan x).partner else (c.chan x).partner && !turnsOn u a x r q c) ∧
    (measuredTo u a x r q q' c).diversity = ((c.chan x).diversity || turnsOn u a x r q c) := by
  unfold measuredTo
  cases hon : turnsOn u a x r q c with
  | true =>
    rw [leadsAfter_of_turnsOn hon]
    simp [diverse]
  | false =>
    simp only [selectedChan]
    cases leadsAfter u a x q c <;> cases decide (u = a) <;> simp [countedChan, crossedOver, measuredQuality]

theorem measuredTo_kept : (measuredTo u a x r q q' c).station = (c.chan x).station ∧
    (measuredTo u a x r q q' c).serving = (c.chan x).serving ∧
    (measuredTo u a x r q q' c).retuning = (c.chan x).retuning ∧
    (measuredTo u a x r q q' c).follow = (c.chan x).follow := by
  unfold measuredTo selectedChan countedChan
  repeat' split
  all_goals exact ⟨rfl, rfl, rfl, rfl⟩

/-- The counts and the mark of a measurement of the channel itself. -/
theorem measuredTo_own (hu : u = a) : (measuredTo u a x r q q' c).measured = true ∧
    (measuredTo u a x r q q' c).followCount = (if q < 25 then (c.chan x).followCount + 1 else 0) ∧
    (measuredTo u a x r q q' c).highRun = (if 70 ≤ q then (c.chan x).highRun + 1 else 0) := by
  unfold measuredTo selectedChan
  rw [decide_eq_true hu]
  cases turnsOn u a x r q c <;> cases leadsAfter u a x q c <;> exact ⟨rfl, rfl, rfl⟩

theorem measuredTo_supporting (hu : u ≠ a) : measuredTo u a x r q q' c =
    if leadsAfter u a x q c then crossedOver q' (c.chan x) else c.chan x := by
  have hoff : turnsOn u a x r q c = false := decide_eq_false fun h => hu h.1
  simp [measuredTo, hoff, selectedChan, countedChan, hu]

theorem measuredTo_own_quality (hu : u = a) :
    (measuredTo u a x r q q' c).quality = if leadsAfter u a x q c then q' else q := by
  unfold measuredTo
  cases hon : turnsOn u a x r q c with
  | true =>
    rw [leadsAfter_of_turnsOn hon]
    rfl
  | false =>
    rw [selectedChan, decide_eq_true hu]
    cases leadsAfter u a x q c <;> rfl

end

/-- What a measurement by `u` leaves in `d`, the tuner `a` being selected. -/
structure MeasuredBy (u a : TunerId) (x : Chan) (h : StationId) (r : Station) (q q' : Nat) (c d : Cabin) : Prop where
  alone : TunersAlone c d
  chan : d.chan x = measuredTo u a x r q q' c
  chan_other : d.chan x.other = c.chan x.other
  tuners : turnsOn u a x r q c = false → ∀ b, d.tuner b = (smoothedTo u q c).tuner b
  slot : u = a → d.stationSlot h.slot =
    ⟨h.gen, some { r with quality := q, received := r.received || decide (30 ≤ q) }⟩
  slots : u ≠ a → d.table.slots = c.table.slots
  slot_other : ∀ j, j ≠ h.slot → d.stationSlot j = c.stationSlot j

theorem measureOn_measuredBy {u a : TunerId} {x : Chan} {h : StationId} {r : Station} {c : Cabin} {raw q : Nat}
    (hx : (c.chan x).station = some h) (hr : c.station h = some r) (ha : selectedTuner (c.chan x) = some a)
    (hq : smooth (c.tuner u).smoothed raw = q) : ∃ q', (leadsAfter u a x q c = true →
        (if u = a.other then some q else (c.tuner a.other).smoothed) = some q') ∧
      MeasuredBy u a x h r q q' c (measureOn u x raw c) := by
  obtain ⟨q', hq', heq⟩ := measureOn_eq hx hr ha hq
  refine ⟨q', hq', ?_⟩
  rw [heq]
  cases hon : turnsOn u a x r q c with
  | false => exact {
      alone := measuredCabin_alone ..
      chan := by simp [measuredTo, hon]
      chan_other := measuredCabin_chan_other ..
      tuners := fun _ b => measuredCabin_tuner ..
      slot := fun hu => by
        rw [decide_eq_true hu]
        exact measuredCabin_slot u x h q _ c hr
      slots := fun hu => by
        rw [decide_eq_false hu]
        rfl
      slot_other := fun j hj => measuredCabin_slot_other _ u x h q _ c hj }
  | true =>
    have hu : u = a := (of_decide_eq_true hon).1
    have hslot := measuredCabin_slot u x h q (countedChan true q (c.chan x)) c hr
    have hstation := station_eq_some_iff.mpr hslot
    have hserving := serving_of_selected ha
    have hkept := stationSlot_of_slots
      (startDiversity_slots (measuredCabin true u x h q (countedChan true q (c.chan x)) c) x)
    exact {
      alone := (measuredCabin_alone ..).trans
        (startDiversity_alone (by rwa [measuredCabin_chan]) hstation (by rwa [measuredCabin_chan]))
      chan := by
        rw [if_pos rfl, startDiversity_chan (by rwa [measuredCabin_chan]) hstation (by rwa [measuredCabin_chan]),
          measuredCabin_chan, measuredTo, hon, if_pos rfl]
      chan_other := by
        rw [if_pos rfl, startDiversity_chan_other (by rwa [measuredCabin_chan]) hstation (by rwa [measuredCabin_chan]),
          measuredCabin_chan_other]
      tuners := fun hoff => absurd (hon.symm.trans hoff) (by decide)
      slot := fun _ => (hkept h.slot).trans hslot
      slots := fun hne => absurd hu hne
      slot_other := fun j hj => (hkept j).trans (measuredCabin_slot_other true u x h q _ c hj) }

/-- The tuner that diversity takes, where it is turned on. -/
theorem measureOn_turnsOn {u a : TunerId} {x : Chan} {h : StationId} {r : Station} {c : Cabin} {raw q : Nat}
    (hx : (c.chan x).station = some h) (hr : c.station h = some r) (ha : selectedTuner (c.chan x) = some a)
    (hq : smooth (c.tuner u).smoothed raw = q) (hon : turnsOn u a x r q c = true)
    (hother : (c.chan x.other).serving = none) (hposts : c.ports.part.posts = true) (hstop : c.alloc.stopped = false)
    (hserving : (c.chan x).serving = some u) :
    ((measureOn u x raw c).tuner u).smoothed = some q ∧ ((measureOn u x raw c).tuner u.other).role = .diversity ∧
    ((measureOn u x raw c).tuner u.other).tuned = some r.freq ∧ ((measureOn u x raw c).tuner u.other).tuning = true ∧
    ((measureOn u x raw c).tuner u.other).smoothed = none ∧
    ((measureOn u x raw c).tuner u.other).acc = emptyAcceptance := by
  obtain ⟨q', -, heq⟩ := measureOn_eq hx hr ha hq
  rw [heq, if_pos hon]
  have halone := measuredCabin_alone true u x h q (countedChan true q (c.chan x)) c
  have hstation := station_eq_some_iff.mpr (measuredCabin_slot u x h q (countedChan true q (c.chan x)) c hr)
  obtain ⟨hsmooth, hrest⟩ := startDiversity_tuners (c := measuredCabin true u x h q (countedChan true q (c.chan x)) c)
    (x := x) (by rwa [measuredCabin_chan]) hstation (b := u) (by rwa [measuredCabin_chan])
    (by rwa [measuredCabin_chan_other]) (by rwa [halone.ports]) (by rwa [halone.stopped])
    (by rw [measuredCabin_chan]; exact (of_decide_eq_true hon).2.2.2.2.1)
  exact ⟨hsmooth.trans (by simp [smoothedTo]), hrest⟩

/-- Settles O31: a measurement is taken by its tuner, counts for the channel where that tuner is selected, moves the
selection, and turns diversity on. -/
theorem measurementOfAChannel : Obligations.MeasurementOfAChannel := by
  intro u f x h r a q s hx hstation hr ha hq
  obtain ⟨t, ht, hcab, hout⟩ := exec_measurement (f := f) hx
  obtain ⟨q', hq', hm⟩ := measureOn_measuredBy hstation hr ha hq.symm
  have hturns := fun hon => measureOn_turnsOn hstation hr ha hq.symm hon
  rw [← hcab] at hm hturns
  have halone := hm.alone
  refine ⟨t, leadsAfter u a x q s.cab, turnsOn u a x r q s.cab, ht, rfl, rfl, ?_⟩
  rw [hm.chan]
  refine ⟨fun hon => ?_, ?_, ?_, fun hu => ?_, fun hu => ?_, fun hu hlead => ?_, fun hu hlead => ?_, fun hu hlead => ?_,
    fun hu hlead => ?_, fun hon hother hposts hserving hrole hne => ?_, ?_, ?_, ?_, ?_, hm.chan_other, hm.slot_other,
    halone.dir, halone.mix, halone.builder, halone.queue, halone.calls, halone.ports, halone.stopped, halone.position,
    halone.watch, hout⟩
  · obtain ⟨hself, hothers⟩ := And.intro (hm.tuners hon u) (hm.tuners hon u.other)
    exact ⟨hself.trans (setTuner_tuner_same ..), hothers.trans (setTuner_tuner_other ..)⟩
  · exact (measuredTo_selection ..).1
  · exact (measuredTo_selection ..).2
  · obtain ⟨hmark, hcount, hrun⟩ := measuredTo_own u a x r q q' s.cab hu
    exact ⟨hmark, hcount, hrun, hm.slot hu⟩
  · rw [measuredTo_supporting _ _ _ _ _ _ _ hu]
    refine ⟨?_, hm.slots hu, ?_, ?_⟩ <;> split <;> rfl
  · rw [measuredTo_own_quality _ _ _ _ _ _ _ hu, hlead]
    rfl
  · rw [measuredTo_supporting _ _ _ _ _ _ _ hu, hlead]
    have hq' := hq' hlead
    rw [if_pos ((tuner_eq_or_other u a).resolve_left hu)] at hq'
    exact (Option.some.inj hq').symm
  · rw [measuredTo_own_quality _ _ _ _ _ _ _ hu, hlead]
    have hq' := hq' hlead
    rw [hu, if_neg (tuner_other_ne a).symm] at hq'
    rw [hu]
    exact hq'.symm
  · rw [measuredTo_supporting _ _ _ _ _ _ _ hu, hlead]
    rfl
  · have hfree : (s.cab.chan x.other).serving ≠ some u := by simp [hother]
    exact hturns hon hother hposts (running_of_measuredChan hx (servedBy_alone hserving hfree)) hserving
  · exact (measuredTo_kept ..).1.trans hstation
  · exact (measuredTo_kept ..).2.1
  · exact (measuredTo_kept ..).2.2.1
  · exact (measuredTo_kept ..).2.2.2

end Sys2Proof.Machine
end

section
/-! SUPPORT. The frequencies a follow may probe, its winner, and the cabin after its steps (05 R96 to R99). -/

namespace Sys2Proof.Machine

/-! ## The frequencies a follow may probe (05 R97) -/

theorem alternatesOf_eq {c : Cabin} {h : StationId} {r : Station} (hr : c.station h = some r) :
    alternatesOf c h = r.alternates := by simp only [alternatesOf, hr]

theorem probeable_of_slots {c d : Cabin} (h : d.table.slots = c.table.slots) (g : StationId) (ch : Nat) :
    probeable d g ch = probeable c g ch := by
  simp only [probeable, alternatesOf, otherAtFreq, station_of_slots h, stationSlot_of_slots h]

/-- On the record's own list only another record's frequency is skipped. -/
theorem probeable_of_mem {c : Cabin} {h : StationId} {r : Station} {ch : Nat} (hr : c.station h = some r)
    (hch : ch ∈ r.alternates.map (·.chan)) : probeable c h ch = !otherAtFreq c h.slot ⟨.fm, ch⟩ := by
  rw [probeable, alternatesOf_eq hr, hasAlt_iff.mpr hch, Bool.true_and]

theorem otherAtFreq_eq_false_iff {c : Cabin} {i : Fin 40} {f : Freq} : otherAtFreq c i f = false ↔
    ∀ j r, j ≠ i → (c.stationSlot j).record = some r → r.freq ≠ f := by
  refine ⟨fun h j r hj hr => otherAtFreq_false h hj hr, fun h => ?_⟩
  unfold otherAtFreq
  cases hfirst : firstIdx _ with
  | none => rfl
  | some j =>
    have hj := firstIdx_some hfirst
    rw [Bool.and_eq_true, decide_eq_true_eq] at hj
    obtain ⟨hne, hat⟩ := hj
    cases hr : (c.stationSlot j).record with
    | none => simp [hr] at hat
    | some r => exact absurd (by simpa [hr] using hat) (h j r hne hr)

theorem probeable_iff {c : Cabin} {h : StationId} {ch : Nat} : probeable c h ch = true ↔
    (∃ r, c.station h = some r ∧ ch ∈ r.alternates.map (·.chan)) ∧
    ∀ i r, i ≠ h.slot → (c.stationSlot i).record = some r → r.freq ≠ ⟨.fm, ch⟩ := by
  rw [probeable, Bool.and_eq_true, Bool.not_eq_true', otherAtFreq_eq_false_iff, hasAlt_iff]
  refine and_congr_left fun _ => ?_
  cases hr : c.station h <;> simp [alternatesOf, hr]

theorem nextProbe_of_slots {c d : Cabin} (h : d.table.slots = c.table.slots) (g : StationId) (f : Follow) :
    nextProbe d g f = nextProbe c g f := by simp only [nextProbe, probeable_of_slots h]

theorem nextProbe_eq_some {c : Cabin} {h : StationId} {f : Follow} {n ch : Nat} (hn : f.probes[n]? = some ch)
    (hpos : f.pos ≤ n) (hch : probeable c h ch = true)
    (hskip : ∀ m d, f.pos ≤ m → m < n → f.probes[m]? = some d → probeable c h d = false) :
    nextProbe c h f = some (ch, n) := by
  obtain ⟨hlen, rfl⟩ := List.getElem?_eq_some_iff.mp hn
  rw [nextProbe, List.head?_filter, List.find?_eq_some_iff_getElem]
  refine ⟨by simp [hpos, hch], n, by simpa using hlen, by simp, fun m hm => ?_⟩
  by_cases hle : f.pos ≤ m
  · simp [hskip m _ hle hm (List.getElem?_eq_getElem _)]
  · simp [hle]

theorem nextProbe_eq_none {c : Cabin} {h : StationId} {f : Follow}
    (hskip : ∀ n d, f.pos ≤ n → f.probes[n]? = some d → probeable c h d = false) : nextProbe c h f = none := by
  rw [nextProbe, List.head?_filter, List.find?_eq_none]
  rintro ⟨d, n⟩ hmem
  have hd := List.mk_mem_zipIdx_iff_getElem?.mp hmem
  by_cases hle : f.pos ≤ n
  · simp [hskip n d hle hd]
  · simp [hle]

/-! ## The winner (05 R98) -/

theorem goodProbe_iff {c : Cabin} {h : StationId} {q : Nat} {m : Nat × Nat} :
    goodProbe c h q m = true ↔ 40 ≤ m.2 ∧ q + 10 ≤ m.2 ∧ probeable c h m.1 = true := by
  simp [goodProbe, and_assoc]

/-- The better of the best so far and the next measured frequency, the earlier among equals. -/
def keepBetter (best : Option (Nat × Nat)) (m : Nat × Nat) : Option (Nat × Nat) :=
  match best with
  | none => some m
  | some b => if b.2 < m.2 then some m else some b

theorem followWinner_eq (c : Cabin) (h : StationId) (q : Nat) (ms : List (Nat × Nat)) :
    followWinner c h q ms = (ms.filter (goodProbe c h q)).foldl keepBetter none := rfl

theorem foldl_keepBetter_below {l : List (Nat × Nat)} {best : Option (Nat × Nat)} {q : Nat}
    (hbest : ∀ b ∈ best, b.2 < q) (hl : ∀ m ∈ l, m.2 < q) : ∀ b ∈ l.foldl keepBetter best, b.2 < q := by
  induction l generalizing best with
  | nil => exact hbest
  | cons m l ih =>
    refine ih (fun b hb => ?_) fun m' hm => hl m' (List.mem_cons_of_mem m hm)
    have hm := hl m List.mem_cons_self
    unfold keepBetter at hb
    split at hb
    · obtain rfl := Option.some.inj hb
      exact hm
    · split at hb <;> obtain rfl := Option.some.inj hb
      · exact hm
      · exact hbest _ rfl

theorem foldl_keepBetter_keeps {l : List (Nat × Nat)} {w : Nat × Nat} (hl : ∀ m ∈ l, m.2 ≤ w.2) :
    l.foldl keepBetter (some w) = some w := by
  induction l with
  | nil => rfl
  | cons m l ih =>
    have hm := hl m List.mem_cons_self
    rw [List.foldl_cons, keepBetter, if_neg (by omega)]
    exact ih fun m' hm => hl m' (List.mem_cons_of_mem m hm)

theorem foldl_keepBetter_earliest {pre post : List (Nat × Nat)} {w : Nat × Nat} (hpre : ∀ m ∈ pre, m.2 < w.2)
    (hpost : ∀ m ∈ post, m.2 ≤ w.2) : (pre ++ w :: post).foldl keepBetter none = some w := by
  have hbelow := foldl_keepBetter_below (best := none) (by simp) hpre
  have hstep : keepBetter (pre.foldl keepBetter none) w = some w := by
    cases hb : pre.foldl keepBetter none with
    | none => rfl
    | some b => exact if_pos (hbelow b hb)
  rw [List.foldl_append, List.foldl_cons, hstep, foldl_keepBetter_keeps hpost]

section Winner

variable {c : Cabin} {h : StationId} {q : Nat} {ms : List (Nat × Nat)}

/-- The frequency that wins is the one the follow decides for. -/
theorem followWinner_of_wins {w : Nat × Nat} (hw : Wins c h q ms w) : followWinner c h q ms = some w := by
  obtain ⟨hforty, hten, hprobe, k, hk, hbest⟩ := hw
  obtain ⟨hlen, hget⟩ := List.getElem?_eq_some_iff.mp hk
  have hsplit : ms = ms.take k ++ w :: ms.drop (k + 1) := by
    rw [← hget, List.cons_getElem_drop_succ, List.take_append_drop]
  have hgood : goodProbe c h q w = true := goodProbe_iff.mpr ⟨hforty, hten, hprobe⟩
  have hpre : ∀ m ∈ (ms.take k).filter (goodProbe c h q), m.2 < w.2 := fun m hm => by
    obtain ⟨hmem, hm⟩ := List.mem_filter.mp hm
    obtain ⟨j, hj⟩ := List.mem_iff_getElem?.mp hmem
    rw [List.getElem?_take] at hj
    split at hj
    · have := hbest j m hj (goodProbe_iff.mp hm).2.2
      omega
    · cases hj
  have hpost : ∀ m ∈ (ms.drop (k + 1)).filter (goodProbe c h q), m.2 ≤ w.2 := fun m hm => by
    obtain ⟨hmem, hm⟩ := List.mem_filter.mp hm
    obtain ⟨j, hj⟩ := List.mem_iff_getElem?.mp hmem
    rw [List.getElem?_drop] at hj
    have := hbest _ m hj (goodProbe_iff.mp hm).2.2
    omega
  rw [followWinner_eq, hsplit, List.filter_append, List.filter_cons_of_pos hgood]
  exact foldl_keepBetter_earliest hpre hpost

theorem followWinner_eq_none (hnone : ∀ m ∈ ms, ¬ (40 ≤ m.2 ∧ q + 10 ≤ m.2 ∧ probeable c h m.1 = true)) :
    followWinner c h q ms = none := by
  have hempty : ms.filter (goodProbe c h q) = [] :=
    List.filter_eq_nil_iff.mpr fun m hm hgood => hnone m hm (goodProbe_iff.mp hgood)
  rw [followWinner_eq, hempty]
  rfl

/-- The first of the highest among the members that `p` picks. -/
theorem exists_earliest_highest (p : Nat × Nat → Bool) (hp : ∃ m ∈ ms, p m = true) :
    ∃ (k : Nat) (w : Nat × Nat), ms[k]? = some w ∧ p w = true ∧
      ∀ (j : Nat) (m : Nat × Nat), ms[j]? = some m → p m = true → m.2 < w.2 ∨ (m.2 = w.2 ∧ k ≤ j) := by
  induction ms with
  | nil => simp at hp
  | cons a l ih =>
    by_cases hl : ∃ m ∈ l, p m = true
    · obtain ⟨k, w, hk, hw, hbest⟩ := ih hl
      by_cases ha : p a = true ∧ w.2 ≤ a.2
      · refine ⟨0, a, rfl, ha.1, fun j m hj hm => ?_⟩
        cases j with
        | zero =>
          obtain rfl : a = m := by simpa using hj
          exact .inr ⟨rfl, Nat.le_refl 0⟩
        | succ j =>
          have := hbest j m hj hm
          omega
      · refine ⟨k + 1, w, hk, hw, fun j m hj hm => ?_⟩
        cases j with
        | zero =>
          obtain rfl : a = m := by simpa using hj
          have := not_and.mp ha hm
          omega
        | succ j =>
          have := hbest j m hj hm
          omega
    · obtain ⟨m, hmem, hm⟩ := hp
      have hma : m = a := (List.mem_cons.mp hmem).resolve_right fun hin => hl ⟨m, hin, hm⟩
      refine ⟨0, a, rfl, hma ▸ hm, fun j b hj hb => ?_⟩
      cases j with
      | zero =>
        obtain rfl : a = b := by simpa using hj
        exact .inr ⟨rfl, Nat.le_refl 0⟩
      | succ j => exact absurd ⟨b, List.mem_of_getElem? hj, hb⟩ hl

theorem followWinner_of_no_wins (hno : ∀ w, ¬ Wins c h q ms w) : followWinner c h q ms = none := by
  refine followWinner_eq_none fun m hm hgood => ?_
  obtain ⟨k, w, hk, hw, hbest⟩ := exists_earliest_highest (goodProbe c h q) ⟨m, hm, goodProbe_iff.mpr hgood⟩
  obtain ⟨hforty, hten, hprobe⟩ := goodProbe_iff.mp hw
  refine hno w ⟨hforty, hten, hprobe, k, hk, fun j b hj hb => ?_⟩
  by_cases hlow : 40 ≤ b.2 ∧ q + 10 ≤ b.2
  · exact hbest j b hj (goodProbe_iff.mpr ⟨hlow.1, hlow.2, hb⟩)
  · omega

end Winner

/-! ## The steps of a follow -/

/-- The frame that the tuners' commands keep, whether or not the states are derived again. -/
structure TunersFrame (s t : State) : Prop where
  routes : ∀ l k, SameRoute (t.cab.route l k) (s.cab.route l k)
  zones : t.cab.dir.zones = s.cab.dir.zones
  queue : t.cab.queue = s.cab.queue
  calls : t.cab.calls = s.cab.calls
  channels : t.cab.mix.channels = s.cab.mix.channels
  events : KeptEvents s t
  plans : KeptPlans s t
  levels : KeptLevels s t

theorem TunersSettled.frame {s t : State} (h : TunersSettled s t) : TunersFrame s t :=
  ⟨h.routes, h.zones, h.queue, h.calls, h.channels, h.events, h.plans, h.levels⟩

theorem TunersAlone.frame {s t : State} (h : TunersAlone s.cab t.cab) : TunersFrame s t where
  routes := fun l k => route_of_lists (d := t.cab) (c := s.cab) (by rw [h.dir]) l k ▸ ⟨rfl, rfl⟩
  zones := by rw [h.dir]
  queue := h.queue
  calls := h.calls
  channels := by rw [h.mix]
  events := fun p k hk => by
    unfold State.shows at hk ⊢
    rwa [h.ports]
  plans := fun z => mixZone_of_zones (d := t.cab) (c := s.cab) (by rw [h.mix]) z ▸ ⟨rfl, rfl⟩
  levels := fun z => mixZone_of_zones (d := t.cab) (c := s.cab) (by rw [h.mix]) z ▸ ⟨rfl, rfl⟩

/-- A tuner that is retuned by a follow, its acceptance state emptied. -/
def retunedTo (f : Option Freq) (v : Tuner) : Tuner := { v with tuned := f, acc := emptyAcceptance }

theorem advanceBorrowed_next {c : Cabin} {h : StationId} {f : Follow} {ch n : Nat} (hn : nextProbe c h f = some (ch, n))
    (x : Chan) (t : TunerId) : advanceBorrowed x h t f c = setTuner t (retunedTo (some ⟨.fm, ch⟩) (c.tuner t))
      (setFollow x { f with pos := n, phase := .probing } c) := by
  simp only [advanceBorrowed, hn]
  rfl

theorem advanceBorrowed_decides {c : Cabin} {h : StationId} {f : Follow} (hn : nextProbe c h f = none) (x : Chan)
    (t : TunerId) : advanceBorrowed x h t f c = decideBorrowed x h t f c := by simp only [advanceBorrowed, hn]

theorem advanceSelf_next {c : Cabin} {h : StationId} {f : Follow} {ch n : Nat} (hn : nextProbe c h f = some (ch, n))
    (x : Chan) (t : TunerId) : advanceSelf x h t f c = setTuner t (retunedTo (some ⟨.fm, ch⟩) (c.tuner t))
      (setFollow x { f with pos := n, phase := .away } c) := by
  simp only [advanceSelf, hn]
  rfl

theorem advanceSelf_decides {c : Cabin} {h : StationId} {f : Follow} (hn : nextProbe c h f = none) (x : Chan)
    (t : TunerId) : advanceSelf x h t f c = decideSelf x h f c := by simp only [advanceSelf, hn]

theorem decideBorrowed_fails {c : Cabin} {x : Chan} {h : StationId} {f : Follow}
    (hw : followWinner c h (c.chan x).quality f.measured = none) (t : TunerId) :
    decideBorrowed x h t f c = settleRoles (endFollow x c) := by simp only [decideBorrowed, hw]

theorem decideSelf_fails {c : Cabin} {h : StationId} {f : Follow} (hw : followWinner c h f.endQuality f.measured = none)
    (x : Chan) : decideSelf x h f c = endFollow x c := by simp only [decideSelf, hw]

theorem advanceSelf_alone (x : Chan) (h : StationId) (t : TunerId) (f : Follow) (c : Cabin) :
    TunersAlone c (advanceSelf x h t f c) := by
  unfold advanceSelf decideSelf
  repeat' split
  · exact .setChan (.refl c) x _
  · exact (TunersAlone.modifyStation (.refl c) _ _).beginRetune x
  · exact (TunersAlone.setChan (.refl c) x _).setTuner t _

theorem endDiversity_eq (x : Chan) (c : Cabin) : ∃ q, endDiversity x c =
    setChan x { c.chan x with diversity := false, partner := false, quality := q } c := by
  unfold endDiversity
  dsimp only
  split
  · unfold takeQuality
    repeat' split
    · exact ⟨_, rfl⟩
    · exact ⟨_, rfl⟩
    · exact ⟨_, rfl⟩
  · exact ⟨_, rfl⟩

end Sys2Proof.Machine
end

section
/-! SUPPORT. The start of a follow (05 R96, R97, R99). -/

namespace Sys2Proof.Machine

theorem mayFollow_eq {c : Cabin} {x : Chan} {h : StationId} {r : Station} (hx : (c.chan x).station = some h)
    (hr : c.station h = some r) (hcount : 200 ≤ (c.chan x).followCount) (hfm : r.freq.band = .fm)
    (halts : r.alternates ≠ []) (hfollow : (c.chan x).follow = none) (hretune : (c.chan x).retuning = false)
    (hstop : c.alloc.stopped = false) : mayFollow c x h = true := by
  have hcarries : carriesFm c x = true := by simp only [carriesFm, hx, freqOf_eq hr, hfm, decide_true]
  simp [mayFollow, hcount, hcarries, alternatesOf_eq hr, halts, hfollow, hretune, hstop]

/-- Out of its place FOLLOW_START does nothing. -/
theorem followStart_idle {c : Cabin} {x : Chan} (h : (c.chan x).followCount < 200 ∨ (c.chan x).follow ≠ none ∨
    (c.chan x).retuning = true ∨ (c.chan x).station = none ∨ c.alloc.stopped = true) : followStart x c = c := by
  unfold followStart
  split
  · next g t hg ht =>
    refine if_neg fun hmay => ?_
    simp only [mayFollow, Bool.and_eq_true, decide_eq_true_eq, Bool.not_eq_true'] at hmay
    obtain ⟨⟨⟨⟨⟨hcount, -⟩, -⟩, hfollow⟩, hretune⟩, hstop⟩ := hmay
    simp [hfollow, hretune, hg, hstop] at h
    omega
  · rfl

/-- The channel as a borrowing follow starts on it: diversity ends first (05 R94, R97); `q` is its quality then. -/
def borrowedChan (f : Follow) (q : Nat) (v : ProgChan) : ProgChan :=
  { v with diversity := false, partner := false, quality := q, follow := some f }

/-- The cabin once the other tuner has entered FOLLOW-CHECK. -/
def checkingCabin (x : Chan) (f : Follow) (q : Nat) (c : Cabin) : Cabin :=
  settleRoles (setChan x (borrowedChan f q (c.chan x)) c)

theorem startBorrowed_eq (x : Chan) (h : StationId) (t : TunerId) (f : Follow) (c : Cabin) :
    ∃ q, startBorrowed x h t f c = advanceBorrowed x h t f (checkingCabin x f q c) := by
  obtain ⟨q, hq⟩ := endDiversity_eq x c
  refine ⟨q, ?_⟩
  rw [startBorrowed, hq, setFollow, setChan_chan_same, setChan_setChan]
  rfl

theorem checkingCabin_alone (x : Chan) (f : Follow) (q : Nat) (c : Cabin) : TunersAlone c (checkingCabin x f q c) :=
  (TunersAlone.setChan (.refl c) x _).settleRoles

@[simp] theorem checkingCabin_chan (x : Chan) (f : Follow) (q : Nat) (c : Cabin) :
    (checkingCabin x f q c).chan x = borrowedChan f q (c.chan x) := by simp [checkingCabin]

@[simp] theorem checkingCabin_chan_other (x : Chan) (f : Follow) (q : Nat) (c : Cabin) :
    (checkingCabin x f q c).chan x.other = c.chan x.other := by simp [checkingCabin]

@[simp] theorem checkingCabin_slots (x : Chan) (f : Follow) (q : Nat) (c : Cabin) :
    (checkingCabin x f q c).table.slots = c.table.slots := by simp [checkingCabin]

theorem checkingCabin_tuners {c : Cabin} {x : Chan} {u : TunerId} {f : Follow} (hserving : (c.chan x).serving = some u)
    (hother : (c.chan x.other).serving = none) (hposts : c.ports.part.posts = true) (hstop : c.alloc.stopped = false)
    (hborrows : f.borrows = true) (q : Nat) :
    ((c.tuner u).role = .programme → (checkingCabin x f q c).tuner u = c.tuner u) ∧
    ((checkingCabin x f q c).tuner u.other).role = .followCheck := by
  have hx : ((setChan x (borrowedChan f q (c.chan x)) c).chan x).serving = some u := by
    rw [setChan_chan_same]
    exact hserving
  obtain ⟨-, -, -, -, hsame⟩ := settleRoles_serving hx
  refine ⟨hsame, (settleRoles_role ..).trans ?_⟩
  rw [desiredRole_supporting hx (by simpa using hother) hposts hstop]
  simp [supportRole, borrowing, borrowedChan, hborrows]

/-- A follow that borrows a tuner, from its start. -/
structure BorrowStarted (x : Chan) (h : StationId) (u : TunerId) (f : Follow) (c d : Cabin) : Prop where
  alone : TunersAlone c d
  slots : d.table.slots = c.table.slots
  chan_other : d.chan x.other = c.chan x.other
  kept : (d.chan x).station = (c.chan x).station ∧ (d.chan x).serving = (c.chan x).serving ∧
    (d.chan x).retuning = (c.chan x).retuning
  probes : ∀ ch n, nextProbe c h f = some (ch, n) → (d.chan x).follow = some { f with pos := n, phase := .probing } ∧
    (d.chan x).followCount = (c.chan x).followCount ∧ (d.chan x).diversity = false ∧
    (d.tuner u.other).role = .followCheck ∧ (d.tuner u.other).tuned = some ⟨.fm, ch⟩ ∧
    ((c.tuner u).role = .programme → d.tuner u = c.tuner u)
  fails : nextProbe c h f = none → (d.chan x).follow = none ∧ (d.chan x).followCount = 0

theorem startBorrowed_started {c : Cabin} {x : Chan} {u : TunerId} {f : Follow} (h : StationId)
    (hserving : (c.chan x).serving = some u) (hother : (c.chan x.other).serving = none)
    (hposts : c.ports.part.posts = true) (hstop : c.alloc.stopped = false) (hborrows : f.borrows = true)
    (hmeasured : f.measured = []) : BorrowStarted x h u f c (startBorrowed x h u.other f c) := by
  obtain ⟨q, heq⟩ := startBorrowed_eq x h u.other f c
  obtain ⟨hkeeps, hrole⟩ := checkingCabin_tuners hserving hother hposts hstop hborrows q
  have hnext := nextProbe_of_slots (checkingCabin_slots x f q c) h f
  rw [heq]
  cases hn : nextProbe c h f with
  | none =>
    have hfails : followWinner (checkingCabin x f q c) h ((checkingCabin x f q c).chan x).quality f.measured = none := by
      rw [hmeasured]
      rfl
    rw [advanceBorrowed_decides (hnext.trans hn), decideBorrowed_fails hfails]
    exact {
      alone := ((checkingCabin_alone x f q c).setChan x _).settleRoles
      slots := by simp [endFollow]
      chan_other := by simp [endFollow]
      kept := by simp [endFollow, borrowedChan]
      probes := fun _ _ h' => absurd (hn.symm.trans h') nofun
      fails := fun _ => by simp [endFollow] }
  | some p =>
    obtain ⟨ch, n⟩ := p
    rw [advanceBorrowed_next (hnext.trans hn)]
    exact {
      alone := ((checkingCabin_alone x f q c).setChan x _).setTuner _ _
      slots := by simp [setFollow]
      chan_other := by simp [setFollow]
      kept := by simp [setFollow, borrowedChan]
      probes := fun ch' n' h' => by
        obtain ⟨rfl, rfl⟩ := Prod.mk.inj (Option.some.inj (hn.symm.trans h'))
        have hself := setTuner_tuner_other u.other (retunedTo (some ⟨.fm, ch⟩) ((checkingCabin x f q c).tuner u.other))
          (setFollow x { f with pos := n, phase := .probing } (checkingCabin x f q c))
        rw [tuner_other_other] at hself
        exact ⟨by simp [setFollow], by simp [setFollow, borrowedChan], by simp [setFollow, borrowedChan],
          by simpa [retunedTo] using hrole, by simp [retunedTo], fun hprog => hself.trans (hkeeps hprog)⟩
      fails := fun h' => absurd (hn.symm.trans h') nofun }

/-- A follow that probes with the serving tuner itself, from its start. -/
structure SelfStarted (x : Chan) (h : StationId) (u : TunerId) (f : Follow) (c d : Cabin) : Prop where
  slots : d.table.slots = c.table.slots
  chan_other : d.chan x.other = c.chan x.other
  kept : (d.chan x).station = (c.chan x).station ∧ (d.chan x).serving = (c.chan x).serving ∧
    (d.chan x).retuning = (c.chan x).retuning
  tuner_other : d.tuner u.other = c.tuner u.other
  probes : ∀ ch n, nextProbe c h f = some (ch, n) → (d.chan x).follow = some { f with pos := n, phase := .away } ∧
    (d.chan x).followCount = (c.chan x).followCount ∧ d.tuner u = retunedTo (some ⟨.fm, ch⟩) (c.tuner u)
  fails : nextProbe c h f = none → (d.chan x).follow = none ∧ (d.chan x).followCount = 0

theorem advanceSelf_started (x : Chan) (h : StationId) (u : TunerId) {f : Follow} (c : Cabin) (hmeasured : f.measured = []) :
    SelfStarted x h u f c (advanceSelf x h u f c) := by
  cases hn : nextProbe c h f with
  | none =>
    have hfails : followWinner c h f.endQuality f.measured = none := by
      rw [hmeasured]
      rfl
    rw [advanceSelf_decides hn, decideSelf_fails hfails]
    exact {
      slots := rfl
      chan_other := setChan_chan_other ..
      kept := by simp [endFollow]
      tuner_other := rfl
      probes := fun _ _ h' => absurd (hn.symm.trans h') nofun
      fails := fun _ => by simp [endFollow] }
  | some p =>
    obtain ⟨ch, n⟩ := p
    rw [advanceSelf_next hn]
    exact {
      slots := rfl
      chan_other := setChan_chan_other ..
      kept := by simp [setFollow]
      tuner_other := setTuner_tuner_other ..
      probes := fun ch' n' h' => by
        obtain ⟨rfl, rfl⟩ := Prod.mk.inj (Option.some.inj (hn.symm.trans h'))
        exact ⟨by simp [setFollow], by simp [setFollow], setTuner_tuner_same ..⟩
      fails := fun h' => absurd (hn.symm.trans h') nofun }

theorem SelfStarted.settleStates {x : Chan} {h : StationId} {u : TunerId} {f : Follow} {c d : Cabin}
    (hd : SelfStarted x h u f c d) : SelfStarted x h u f c (settleStates d) := by
  obtain ⟨hslots, hother, hkept, htuner, hprobes, hfails⟩ := hd
  constructor <;> simpa

theorem followStart_eq {c : Cabin} {x : Chan} {h : StationId} {u : TunerId} (hx : (c.chan x).station = some h)
    (hserving : (c.chan x).serving = some u) (hmay : mayFollow c x h = true) :
    ((c.chan x.other).serving = none →
      followStart x c = startBorrowed x h u.other (newFollow true (alternatesOf c h) (c.chan x).quality) c) ∧
    ((c.chan x.other).serving = some u.other →
      followStart x c = settleStates (advanceSelf x h u (newFollow false (alternatesOf c h) (c.chan x).quality) c)) := by
  have hne : some u ≠ some u.other := fun he => tuner_other_ne u (Option.some.inj he).symm
  refine ⟨fun hother => ?_, fun hother => ?_⟩
  · have hfree : servedBy c u.other = none := servedBy_eq_none_iff.mpr fun y => by
      rcases chan_eq_or_other y x with rfl | rfl
      · rwa [hserving]
      · simp [hother]
    simp only [followStart, hx, hserving, hmay, hfree, if_true]
  · have hserved : servedBy c u.other = some x.other :=
      servedBy_alone hother (by rwa [chan_other_other, hserving])
    simp only [followStart, hx, hserving, hmay, hserved, if_true]

/-- The next frequency of a follow that starts on the record's own alternates (05 R97). -/
theorem nextProbe_newFollow {c : Cabin} {h : StationId} {r : Station} (hr : c.station h = some r) (borrows : Bool)
    (q : Nat) :
    (∀ (n : Fin 6) (ch : Nat), (r.alternates.map (·.chan))[n.val]? = some ch →
      otherAtFreq c h.slot ⟨.fm, ch⟩ = false →
      (∀ m : Fin 6, m < n → ∀ d, (r.alternates.map (·.chan))[m.val]? = some d →
        otherAtFreq c h.slot ⟨.fm, d⟩ = true) →
      nextProbe c h (newFollow borrows (alternatesOf c h) q) = some (ch, n.val)) ∧
    ((∀ ch ∈ r.alternates.map (·.chan), otherAtFreq c h.slot ⟨.fm, ch⟩ = true) →
      nextProbe c h (newFollow borrows (alternatesOf c h) q) = none) := by
  rw [alternatesOf_eq hr]
  refine ⟨fun n ch hn hfree hskip => nextProbe_eq_some hn (Nat.zero_le _) ?_ fun m d _ hm hd => ?_,
    fun hskip => nextProbe_eq_none fun m d _ hd => ?_⟩
  · rw [probeable_of_mem hr (List.mem_of_getElem? hn), hfree]
    rfl
  · have hlt : m < 6 := by omega
    rw [probeable_of_mem hr (List.mem_of_getElem? hd), hskip ⟨m, hlt⟩ hm d hd]
    rfl
  · rw [probeable_of_mem hr (List.mem_of_getElem? hd), hskip d (List.mem_of_getElem? hd)]
    rfl

/-- Settles O34: by whether the other tuner is free, and by the first frequency that is not skipped. -/
theorem followStartsOnAnAlternate : Obligations.FollowStartsOnAnAlternate := by
  refine ⟨fun x h r u s hx hr hserving hcount hfm halts hfollow hretune hstop hposts hother => ?_,
    fun x s hidle => exec_of_unchanged rfl (followStart_idle hidle)⟩
  obtain ⟨hborrow, hself⟩ := followStart_eq hx hserving (mayFollow_eq hx hr hcount hfm halts hfollow hretune hstop)
  have hcases : (s.cab.chan x.other).serving = none ∨ (s.cab.chan x.other).serving = some u.other := by
    cases ho : (s.cab.chan x.other).serving with
    | none => exact .inl rfl
    | some v =>
      have hv := (tuner_eq_or_other v u).resolve_left fun he => hother (by rw [ho, he])
      exact .inr (by rw [hv])
  rcases hcases with hfree | htaken
  · obtain ⟨t, ht, hcab, hout⟩ := exec_of_cabin (i := .followStart x) (s := s) rfl (hborrow hfree)
    have hstarted := startBorrowed_started (f := newFollow true (alternatesOf s.cab h) (s.cab.chan x).quality) h hserving
      hfree hposts hstop rfl rfl
    rw [← hcab] at hstarted
    obtain ⟨hfirst, hnone⟩ := nextProbe_newFollow hr true (s.cab.chan x).quality
    obtain ⟨hstation, hserves, hretunes⟩ := hstarted.kept
    have hframe := hstarted.alone.frame
    refine ⟨t, _, ht, rfl, ?_, fun hskip => hstarted.fails (hnone hskip), hstation.trans hx, hserves.trans hserving,
      hretunes.trans hretune, hstarted.chan_other, hstarted.slots, hframe.routes, hframe.zones, hframe.queue, hframe.calls,
      hframe.channels, hframe.events, hframe.plans, hframe.levels, hout⟩
    rintro n ⟨ch, hn, hat, hskip⟩
    obtain ⟨hf, hc, hdiv, hrole, htuned, hsame⟩ := hstarted.probes ch n (hfirst n ch hn hat hskip)
    refine ⟨⟨_, hf, congrArg (List.map _) (alternatesOf_eq hr), rfl, rfl, by simp [newFollow, hfree], rfl⟩, hc,
      fun _ => ⟨hdiv, hrole, fun ch' hn' => ?_, hsame, hstarted.alone.dir, hstarted.alone.ports⟩, fun htaken => ?_⟩
    · rw [htuned, Option.some.inj (hn.symm.trans hn')]
    · simp [hfree] at htaken
  · obtain ⟨t, ht, hcab, hout⟩ := exec_of_cabin (i := .followStart x) (s := s) rfl (hself htaken)
    have hstarted := advanceSelf_started x h u (f := newFollow false (alternatesOf s.cab h) (s.cab.chan x).quality) s.cab rfl
    have hset := settleStates_settled hcab (advanceSelf_alone ..)
    have hstarted := hstarted.settleStates
    rw [← hcab] at hstarted
    obtain ⟨hfirst, hnone⟩ := nextProbe_newFollow hr false (s.cab.chan x).quality
    obtain ⟨hstation, hserves, hretunes⟩ := hstarted.kept
    have hframe := hset.frame
    refine ⟨t, _, ht, rfl, ?_, fun hskip => hstarted.fails (hnone hskip), hstation.trans hx, hserves.trans hserving,
      hretunes.trans hretune, hstarted.chan_other, hstarted.slots, hframe.routes, hframe.zones, hframe.queue, hframe.calls,
      hframe.channels, hframe.events, hframe.plans, hframe.levels, hout⟩
    rintro n ⟨ch, hn, hat, hskip⟩
    obtain ⟨hf, hc, htuned⟩ := hstarted.probes ch n (hfirst n ch hn hat hskip)
    refine ⟨⟨_, hf, congrArg (List.map _) (alternatesOf_eq hr), rfl, rfl, by simp [newFollow, htaken], rfl⟩, hc,
      fun hfree => ?_, fun _ => ⟨fun ch' hn' => ?_, hstarted.tuner_other, hset.states, hset.shows hposts⟩⟩
    · simp [htaken] at hfree
    · rw [htuned, Option.some.inj (hn.symm.trans hn')]
      rfl

end Sys2Proof.Machine
end

section
/-! SUPPORT. The steps of a follow after its start, and its decision (05 R97 to R99). -/

namespace Sys2Proof.Machine

/-! ## What the steps of a follow leave alone -/

/-- Only the tuners, the following channel (not its station) and its own record may differ. -/
structure FollowFrame (x : Chan) (h : StationId) (c d : Cabin) : Prop where
  alone : TunersAlone c d
  chan_other : d.chan x.other = c.chan x.other
  station : (d.chan x).station = (c.chan x).station
  slot_other : ∀ j, j ≠ h.slot → d.stationSlot j = c.stationSlot j

theorem FollowFrame.refl (x : Chan) (h : StationId) (c : Cabin) : FollowFrame x h c c := ⟨.refl c, rfl, rfl, fun _ _ => rfl⟩

section Operations

variable {x : Chan} {h : StationId} {c d : Cabin} (hd : FollowFrame x h c d)
include hd

theorem FollowFrame.trans {e : Cabin} (he : FollowFrame x h d e) : FollowFrame x h c e :=
  ⟨hd.alone.trans he.alone, he.chan_other.trans hd.chan_other, he.station.trans hd.station,
    fun j hj => (he.slot_other j hj).trans (hd.slot_other j hj)⟩

theorem FollowFrame.setChan {v : ProgChan} (hv : v.station = (d.chan x).station) :
    FollowFrame x h c (setChan x v d) :=
  hd.trans ⟨.setChan (.refl d) x v, setChan_chan_other .., by simpa using hv, fun _ _ => rfl⟩

theorem FollowFrame.setTuner (u : TunerId) (v : Tuner) : FollowFrame x h c (setTuner u v d) :=
  hd.trans ⟨.setTuner (.refl d) u v, rfl, rfl, fun _ _ => rfl⟩

theorem FollowFrame.settleRoles : FollowFrame x h c (settleRoles d) :=
  hd.trans ⟨.settleRoles (.refl d), by simp, by simp, fun j _ => stationSlot_of_slots (settleRoles_slots d) j⟩

theorem FollowFrame.modifyStation (g : Station → Station) : FollowFrame x h c (modifyStation h.slot g d) :=
  hd.trans ⟨.modifyStation (.refl d) _ g, by simp, by simp, fun j hj => by simp [hj]⟩

theorem FollowFrame.noteProbe (ch raw : Nat) : FollowFrame x h c (noteProbe h ch raw d) := hd.modifyStation _

theorem FollowFrame.adoptBorrowed (t : TunerId) (ch raw : Nat) : FollowFrame x h c (adoptBorrowed x h t ch raw d) :=
  (((hd.modifyStation (moveRecord ch raw)).setTuner t _).setChan (by rfl)).settleRoles

theorem FollowFrame.endFollow : FollowFrame x h c (endFollow x d) := hd.setChan rfl

theorem FollowFrame.setFollow (f : Follow) : FollowFrame x h c (setFollow x f d) := hd.setChan rfl

theorem FollowFrame.advanceBorrowed (t : TunerId) (f : Follow) : FollowFrame x h c (advanceBorrowed x h t f d) := by
  unfold Machine.advanceBorrowed decideBorrowed
  repeat' split
  · exact hd.endFollow.settleRoles
  · exact hd.adoptBorrowed ..
  · exact (hd.setFollow _).setTuner ..
  · exact (hd.setFollow _).setTuner ..

end Operations

/-! ## A probe of the list (05 R97) -/

@[simp] theorem noteProbe_chan (h : StationId) (ch raw : Nat) (c : Cabin) (x : Chan) :
    (noteProbe h ch raw c).chan x = c.chan x := modifyStation_chan ..

@[simp] theorem noteProbe_tuner (h : StationId) (ch raw : Nat) (c : Cabin) (u : TunerId) :
    (noteProbe h ch raw c).tuner u = c.tuner u := modifyStation_tuner ..

theorem noteProbe_station {c : Cabin} {h : StationId} {r : Station} (hr : c.station h = some r) (ch raw : Nat) :
    (noteProbe h ch raw c).station h = some { r with alternates := setAltQuality ch raw r.alternates } :=
  modifyStation_station hr _

theorem borrows_of_borrowingChan {c : Cabin} {x : Chan} {f : Follow} (h : borrowingChan c = some x)
    (hf : (c.chan x).follow = some f) : f.borrows = true := by
  have hb : borrowing (c.chan x) = true := by
    unfold borrowingChan at h
    split at h
    · cases h; assumption
    · split at h
      · cases h; assumption
      · cases h
  simpa only [borrowing, hf] using hb

/-! ## The borrowed tuner takes the channel (05 R98) -/

/-- The channel as the borrowed tuner `t` has taken it. -/
def adoptedChan (t : TunerId) (raw : Nat) (v : ProgChan) : ProgChan :=
  { v with serving := some t, follow := none, followCount := 0, highRun := 0, quality := raw, measured := true }

/-- The cabin as the record has moved and the tuner has its quality there. -/
def movedCabin (h : StationId) (t : TunerId) (ch raw : Nat) (c : Cabin) : Cabin :=
  setTuner t { c.tuner t with tuned := some ⟨.fm, ch⟩, smoothed := some raw } (modifyStation h.slot (moveRecord ch raw) c)

theorem adoptBorrowed_eq (x : Chan) (h : StationId) (t : TunerId) (ch raw : Nat) (c : Cabin) :
    adoptBorrowed x h t ch raw c =
      settleRoles (setChan x (adoptedChan t raw (c.chan x)) (movedCabin h t ch raw c)) := by
  have hchan := modifyStation_chan h.slot (moveRecord ch raw) c x
  have htuner := modifyStation_tuner c h.slot (moveRecord ch raw) t
  rw [movedCabin, ← hchan, ← htuner]
  rfl

theorem movedCabin_alone (h : StationId) (t : TunerId) (ch raw : Nat) (c : Cabin) :
    TunersAlone c (movedCabin h t ch raw c) := (TunersAlone.modifyStation (.refl c) _ _).setTuner _ _

theorem movedCabin_chan (h : StationId) (t : TunerId) (ch raw : Nat) (c : Cabin) (y : Chan) :
    (movedCabin h t ch raw c).chan y = c.chan y := modifyStation_chan ..

section Adopted

variable (x : Chan) (h : StationId) (t : TunerId) (ch raw : Nat) (c : Cabin)

theorem adoptBorrowed_chan : (adoptBorrowed x h t ch raw c).chan x = adoptedChan t raw (c.chan x) := by
  rw [adoptBorrowed_eq, settleRoles_chan, setChan_chan_same]

theorem adoptBorrowed_station {r : Station} (hr : c.station h = some r) :
    (adoptBorrowed x h t ch raw c).station h = some (moveRecord ch raw r) := by
  rw [adoptBorrowed_eq]
  exact (station_of_slots (settleRoles_slots _) h).trans (modifyStation_station hr _)

theorem adoptedChan_serving : ((setChan x (adoptedChan t raw (c.chan x)) (movedCabin h t ch raw c)).chan x).serving =
    some t := by
  rw [setChan_chan_same]
  rfl

theorem adoptBorrowed_tuner : ((adoptBorrowed x h t ch raw c).tuner t).role = .programme ∧
    ((adoptBorrowed x h t ch raw c).tuner t).tuned = some ⟨.fm, ch⟩ ∧
    ((adoptBorrowed x h t ch raw c).tuner t).smoothed = some raw ∧
    ((c.tuner t).role ≠ .programme → ((adoptBorrowed x h t ch raw c).tuner t).acc = emptyAcceptance) := by
  have htuner : (movedCabin h t ch raw c).tuner t = { c.tuner t with tuned := some ⟨.fm, ch⟩, smoothed := some raw } :=
    setTuner_tuner_same ..
  obtain ⟨hrole, htuned, hsmooth, hacc, -⟩ := settleRoles_serving (adoptedChan_serving x h t ch raw c)
  rw [setChan_tuner, htuner] at htuned hsmooth hacc
  rw [adoptBorrowed_eq]
  exact ⟨hrole, htuned, hsmooth, hacc⟩

/-- The tuner that served the channel scans next, where nothing else is to be supported. -/
theorem adoptBorrowed_released (hother : (c.chan x.other).serving = none) (hdiv : (c.chan x).diversity = false)
    (hposts : c.ports.part.posts = true) (hstop : c.alloc.stopped = false) :
    ((adoptBorrowed x h t ch raw c).tuner t.other).role = .scan := by
  have halone := movedCabin_alone h t ch raw c
  rw [adoptBorrowed_eq, settleRoles_role, desiredRole_supporting (adoptedChan_serving x h t ch raw c)
    (by rwa [setChan_chan_other, movedCabin_chan]) (by rwa [← halone.ports] at hposts)
    (by rwa [← halone.stopped] at hstop)]
  simp [supportRole, borrowing, adoptedChan, hdiv]

end Adopted

theorem decideBorrowed_wins {c : Cabin} {x : Chan} {h : StationId} {t : TunerId} {f : Follow} {w : Nat × Nat}
    (hw : followWinner c h (c.chan x).quality f.measured = some w) : decideBorrowed x h t f c =
      if (c.tuner t).tuned = some ⟨.fm, w.1⟩ then adoptBorrowed x h t w.1 w.2 c
      else setTuner t (retunedTo (some ⟨.fm, w.1⟩) (c.tuner t)) (setFollow x { f with phase := .tuningWinner w.1 } c) := by
  simp only [decideBorrowed, hw]
  rfl

theorem exec_followProbeComplete {g : Figures} {x : Chan} {h : StationId} {u : TunerId} {f : Follow} {ch raw : Nat}
    {s : State} (hb : borrowingChan s.cab = some x) (hx : (s.cab.chan x).station = some h)
    (hserving : (s.cab.chan x).serving = some u) (hf : (s.cab.chan x).follow = some f) (hphase : f.phase = .probing)
    (hch : f.probes[f.pos]? = some ch) (hraw : raw = rawQuality .fm (s.supply.image.antenna.get u.other) g) :
    ∃ t, exec (.followProbeComplete g) s = .next t ∧
      t.cab = advanceBorrowed x h u.other (afterProbe ch raw f) (noteProbe h ch raw s.cab) ∧ KeptOutside s t := by
  refine exec_of_cabin (f := followProbeComplete s.supply.image g) rfl ?_
  have hborrows := borrows_of_borrowingChan hb hf
  simp only [followProbeComplete, hb, probeEnd, hx, hserving, hf, hch, hborrows, hphase, hraw]
  rfl

theorem exec_followWinnerTuned {x : Chan} {h : StationId} {u : TunerId} {f : Follow} {ch : Nat} {s : State}
    (hb : borrowingChan s.cab = some x) (hx : (s.cab.chan x).station = some h) (hserving : (s.cab.chan x).serving = some u)
    (hf : (s.cab.chan x).follow = some f) (hphase : f.phase = .tuningWinner ch) :
    ∃ t, exec .followWinnerTuned s = .next t ∧ t.cab = (if probeable s.cab h ch = true
      then adoptBorrowed x h u.other ch (probedQuality f ch) s.cab else settleRoles (endFollow x s.cab)) ∧
      KeptOutside s t :=
  exec_of_cabin (f := followWinnerTuned) rfl (by simp only [followWinnerTuned, hb, winnerTuned, hx, hserving, hf, hphase])

/-- Settles O35: a probe is noted and the follow goes on or decides by the winner; the tuned winner is checked again. -/
theorem borrowingFollowProbesAndDecides : Obligations.BorrowingFollowProbesAndDecides := by
  refine ⟨fun g x h u f ch raw s hb hx hserving hf hphase hch hraw => ?_,
    fun x h r u f ch s hb hx hr hserving hf hphase => ?_, fun g s hb => ⟨?_, ?_⟩, fun c h ch => probeable_iff⟩
  · obtain ⟨t, ht, hcab, hout⟩ := exec_followProbeComplete hb hx hserving hf hphase hch hraw
    have hframe : FollowFrame x h s.cab t.cab := hcab ▸ ((FollowFrame.refl x h s.cab).noteProbe ch raw).advanceBorrowed ..
    have halone := hframe.alone
    refine ⟨t, ht, fun n hn hpos ⟨d, hd, hprobe, hskip⟩ => ?_, fun hskip hbad => ?_, fun hskip htuned w hw => ?_,
      hframe.chan_other, hframe.station.trans hx, hframe.slot_other, halone.dir, halone.mix, halone.builder, halone.queue,
      halone.calls, halone.ports, hout⟩
    · have hnext : nextProbe (noteProbe h ch raw s.cab) h (afterProbe ch raw f) = some (d, n) :=
        nextProbe_eq_some hd hpos hprobe fun m e hm hmn he => hskip m (List.mem_range.mpr hmn) hm e he
      rw [hcab, advanceBorrowed_next hnext]
      refine ⟨?_, fun e he => ?_, fun r hr => noteProbe_station hr ch raw⟩
      · rw [setTuner_chan, setFollow, setChan_chan_same, ← hphase]
        rfl
      · rw [setTuner_tuner_same, Option.some.inj (he.symm.trans hd)]
        rfl
    all_goals
      have hnext : nextProbe (noteProbe h ch raw s.cab) h (afterProbe ch raw f) = none :=
        nextProbe_eq_none fun m e hm he => hskip m (List.mem_range.mpr (List.getElem?_eq_some_iff.mp he).1) hm e he
      rw [hcab, advanceBorrowed_decides hnext]
    · rw [decideBorrowed_fails (followWinner_eq_none (by rwa [noteProbe_chan]))]
      refine ⟨by simp [endFollow], fun r hr => ?_⟩
      exact (station_of_slots (settleRoles_slots _) h).trans (noteProbe_station hr ch raw)
    · have hwins : followWinner (noteProbe h ch raw s.cab) h ((noteProbe h ch raw s.cab).chan x).quality
          (afterProbe ch raw f).measured = some w := by
        rw [noteProbe_chan]
        exact followWinner_of_wins hw
      rw [decideBorrowed_wins hwins, noteProbe_tuner, htuned]
      refine ⟨fun hne => ?_, ?_⟩
      · rw [if_neg (by simpa using Ne.symm hne)]
        exact ⟨by simp [setFollow, afterProbe], setTuner_tuner_same ..⟩
      · rintro rfl
        rw [if_pos rfl]
        obtain ⟨-, -, hsmooth, -⟩ := adoptBorrowed_tuner x h u.other w.1 w.2 (noteProbe h w.1 raw s.cab)
        exact ⟨(adoptBorrowed_chan ..).trans (by rw [noteProbe_chan]; rfl), hsmooth,
          fun r hr => adoptBorrowed_station _ _ _ _ _ _ (noteProbe_station hr w.1 raw)⟩
  · obtain ⟨t, ht, hcab, hout⟩ := exec_followWinnerTuned hb hx hserving hf hphase
    have hframe : FollowFrame x h s.cab t.cab := by
      rw [hcab]
      split
      · exact (FollowFrame.refl ..).adoptBorrowed ..
      · exact (FollowFrame.refl ..).endFollow.settleRoles
    have halone := hframe.alone
    refine ⟨t, ht, fun hno => ?_, fun hyes hother => ?_, hframe.chan_other, hframe.slot_other, halone.dir, halone.mix,
      halone.builder, halone.queue, halone.calls, halone.ports, hout⟩
    · rw [hcab, hno, if_neg Bool.false_ne_true]
      exact ⟨by simp [endFollow], by simp [endFollow]⟩
    · rw [hcab, if_pos hyes]
      obtain ⟨hrole, htuned, hsmooth, hacc⟩ := adoptBorrowed_tuner x h u.other ch (probedQuality f ch) s.cab
      have hreleased := adoptBorrowed_released x h u.other ch (probedQuality f ch) s.cab hother
      rw [tuner_other_other] at hreleased
      exact ⟨adoptBorrowed_chan .., adoptBorrowed_station _ _ _ _ _ _ hr, hrole, htuned, hsmooth, hacc, hreleased⟩
  · exact exec_of_unchanged (f := followProbeComplete s.supply.image g) rfl (by simp only [followProbeComplete, hb])
  · exact exec_of_unchanged (f := followWinnerTuned) rfl (by simp only [followWinnerTuned, hb])

end Sys2Proof.Machine
end

section
/-! SUPPORT. The excursions of a self-probing follow (05 R99). -/

namespace Sys2Proof.Machine

/-! ## The retune to a station's frequency (05 R93) -/

/-- The channel as its retune begins. -/
def retuningChan (v : ProgChan) : ProgChan :=
  { v with retuning := true, diversity := false, partner := false, highRun := 0, measured := false, followCount := 0,
           follow := none }

/-- The serving tuner as a retune begins; in LOW it is not tuned (05 R101). -/
def retuningTuner (stopped : Bool) (f : Option Freq) (v : Tuner) : Tuner :=
  { v with tuned := if stopped then none else f, smoothed := none, tuning := false, acc := emptyAcceptance }

theorem beginRetune_eq {c : Cabin} {x : Chan} {h : StationId} {u : TunerId} (hx : (c.chan x).station = some h)
    (hserving : (c.chan x).serving = some u) : beginRetune x c =
      setTuner u (retuningTuner c.alloc.stopped (freqOf c h) (c.tuner u)) (setChan x (retuningChan (c.chan x)) c) := by
  unfold beginRetune
  split
  · next g t hg ht =>
    obtain rfl := Option.some.inj (hx.symm.trans hg)
    obtain rfl := Option.some.inj (hserving.symm.trans ht)
    rfl
  · next hnone => exact absurd hserving (hnone h u hx)

/-! ## What a self-probing follow leaves alone -/

/-- Only the serving tuner `u`, the following channel (not its station or its tuner) and its own record may differ. -/
structure SelfFrame (x : Chan) (h : StationId) (u : TunerId) (c d : Cabin) : Prop extends FollowFrame x h c d where
  serving : (d.chan x).serving = (c.chan x).serving
  tuner_other : d.tuner u.other = c.tuner u.other

section Operations

variable {x : Chan} {h : StationId} {u : TunerId} {c d : Cabin} (hd : SelfFrame x h u c d)
include hd

theorem SelfFrame.setFollow (f : Follow) : SelfFrame x h u c (setFollow x f d) :=
  ⟨hd.toFollowFrame.setFollow f, by simpa [Machine.setFollow] using hd.serving, hd.tuner_other⟩

theorem SelfFrame.endFollow : SelfFrame x h u c (endFollow x d) :=
  ⟨hd.toFollowFrame.endFollow, by simpa [Machine.endFollow] using hd.serving, hd.tuner_other⟩

theorem SelfFrame.setTuner (v : Tuner) : SelfFrame x h u c (setTuner u v d) :=
  ⟨hd.toFollowFrame.setTuner u v, hd.serving, (setTuner_tuner_other ..).trans hd.tuner_other⟩

theorem SelfFrame.modifyStation (g : Station → Station) : SelfFrame x h u c (modifyStation h.slot g d) :=
  ⟨hd.toFollowFrame.modifyStation g, by simpa using hd.serving, (modifyStation_tuner ..).trans hd.tuner_other⟩

theorem SelfFrame.beginRetune (hx : (d.chan x).station = some h) (hserving : (d.chan x).serving = some u) :
    SelfFrame x h u c (beginRetune x d) := by
  rw [beginRetune_eq hx hserving]
  have hretuned : SelfFrame x h u c (setChan x (retuningChan (d.chan x)) d) :=
    ⟨hd.toFollowFrame.setChan rfl, (by simpa [retuningChan] using hd.serving), hd.tuner_other⟩
  exact hretuned.setTuner _

theorem SelfFrame.decideSelf (hx : (d.chan x).station = some h) (hserving : (d.chan x).serving = some u) (f : Follow) :
    SelfFrame x h u c (decideSelf x h f d) := by
  unfold Machine.decideSelf
  split
  · exact hd.endFollow
  · exact (hd.modifyStation _).beginRetune (by simpa using hx) (by simpa using hserving)

theorem SelfFrame.advanceSelf (hx : (d.chan x).station = some h) (hserving : (d.chan x).serving = some u) (f : Follow) :
    SelfFrame x h u c (advanceSelf x h u f d) := by
  unfold Machine.advanceSelf
  split
  · exact hd.decideSelf hx hserving f
  · exact (hd.setFollow _).setTuner _

end Operations

theorem SelfFrame.refl (x : Chan) (h : StationId) (u : TunerId) (c : Cabin) : SelfFrame x h u c c := ⟨.refl .., rfl, rfl⟩

/-! ## The decision (05 R98, R99) -/

theorem followWinner_of_slots {c d : Cabin} (hs : d.table.slots = c.table.slots) (h : StationId) (q : Nat)
    (ms : List (Nat × Nat)) : followWinner d h q ms = followWinner c h q ms := by
  have hgood : goodProbe d h q = goodProbe c h q := funext fun m => by simp only [goodProbe, probeable_of_slots hs]
  rw [followWinner_eq, followWinner_eq, hgood]

/-- The record has moved to the winner `w` and the channel retunes to it. -/
structure RetunesTo (x : Chan) (h : StationId) (u : TunerId) (r : Station) (w : Nat × Nat) (d : Cabin) : Prop where
  retuning : (d.chan x).retuning = true
  follow : (d.chan x).follow = none
  followCount : (d.chan x).followCount = 0
  tuned : (d.tuner u).tuned = some ⟨.fm, w.1⟩
  smoothed : (d.tuner u).smoothed = none
  acc : (d.tuner u).acc = emptyAcceptance
  station : d.station h = some (moveRecord w.1 w.2 r)

theorem decideSelf_wins {c : Cabin} {x : Chan} {h : StationId} {u : TunerId} {r : Station} {f : Follow} {w : Nat × Nat}
    (hw : followWinner c h f.endQuality f.measured = some w) (hx : (c.chan x).station = some h)
    (hserving : (c.chan x).serving = some u) (hr : c.station h = some r) (hstop : c.alloc.stopped = false) :
    RetunesTo x h u r w (decideSelf x h f c) := by
  have hmoved := modifyStation_station hr (moveRecord w.1 w.2)
  have heq : decideSelf x h f c = beginRetune x (modifyStation h.slot (moveRecord w.1 w.2) c) := by
    simp only [decideSelf, hw]
  rw [heq, beginRetune_eq (h := h) (u := u) (by simpa using hx) (by simpa using hserving), freqOf_eq hmoved]
  exact {
    retuning := by simp [retuningChan]
    follow := by simp [retuningChan]
    followCount := by simp [retuningChan]
    tuned := by simp [retuningTuner, hstop, moveRecord]
    smoothed := by simp [retuningTuner]
    acc := by simp [retuningTuner]
    station := hmoved }

theorem RetunesTo.settleStates {x : Chan} {h : StationId} {u : TunerId} {r : Station} {w : Nat × Nat} {d : Cabin}
    (hd : RetunesTo x h u r w d) : RetunesTo x h u r w (settleStates d) := by
  have hkept : (Machine.settleStates d).station h = d.station h := station_of_slots (by simp) h
  constructor
  all_goals simp only [settleStates_chan, settleStates_tuner, hkept]
  exacts [hd.retuning, hd.follow, hd.followCount, hd.tuned, hd.smoothed, hd.acc, hd.station]

/-! ## The commands of an excursion -/

theorem exec_excursionStart {x : Chan} {h : StationId} {u : TunerId} {f : Follow} {s : State}
    (hx : (s.cab.chan x).station = some h) (hserving : (s.cab.chan x).serving = some u)
    (hf : (s.cab.chan x).follow = some f) (hphase : f.phase = .serving) (hstop : s.cab.alloc.stopped = false) :
    ∃ t, exec (.excursionStart x) s = .next t ∧ t.cab = settleStates (advanceSelf x h u f s.cab) ∧ KeptOutside s t := by
  refine exec_of_cabin rfl ?_
  simp only [excursionStart, hx, hserving, hf]
  exact if_pos ⟨hphase, hstop⟩

/-- The follow after an excursion: one more probe measured, and the channel's quality by which it will decide. -/
def excursionDone (ch raw q : Nat) (f : Follow) : Follow := { afterProbe ch raw f with endQuality := q }

/-- The cabin as the tuner is back on the frequency of the carried record `r`. -/
def returnedCabin (x : Chan) (h : StationId) (r : Station) (u : TunerId) (f : Follow) (ch raw : Nat) (c : Cabin) : Cabin :=
  setTuner u (retunedTo (some r.freq) (c.tuner u))
    (setFollow x { excursionDone ch raw (c.chan x).quality f with phase := .serving } (noteProbe h ch raw c))

theorem returnFrom_eq {c : Cabin} {h : StationId} {r : Station} (hr : c.station h = some r) (x : Chan) (u : TunerId)
    (f : Follow) (ch raw : Nat) :
    returnFrom x h u (excursionDone ch raw (c.chan x).quality f) (noteProbe h ch raw c) =
      returnedCabin x h r u f ch raw c := by
  rw [returnFrom, freqOf_eq (noteProbe_station hr ch raw), noteProbe_chan, noteProbe_tuner]
  rfl

theorem exec_excursionEnd {x : Chan} {g : Figures} {h : StationId} {r : Station} {u : TunerId} {f : Follow}
    {ch raw : Nat} {s : State} (hx : (s.cab.chan x).station = some h) (hr : s.cab.station h = some r)
    (hserving : (s.cab.chan x).serving = some u) (hf : (s.cab.chan x).follow = some f) (hphase : f.phase = .away)
    (hch : f.probes[f.pos]? = some ch) (hraw : raw = rawQuality .fm (s.supply.image.antenna.get u) g) :
    ∃ t, exec (.excursionEnd x g) s = .next t ∧ t.cab = settleStates (if f.probes.length ≤ f.pos + 1
      then decideSelf x h (excursionDone ch raw (s.cab.chan x).quality f) (returnedCabin x h r u f ch raw s.cab)
      else returnedCabin x h r u f ch raw s.cab) ∧ KeptOutside s t := by
  refine exec_of_cabin (f := excursionEnd s.supply.image x g) rfl ?_
  rw [← returnFrom_eq hr]
  simp only [excursionEnd, hx, hserving, hf, hch, hphase, ← hraw, if_true]
  rfl

theorem returnedCabin_frame (x : Chan) (h : StationId) (r : Station) (u : TunerId) (f : Follow) (ch raw : Nat)
    (c : Cabin) : SelfFrame x h u c (returnedCabin x h r u f ch raw c) :=
  (((SelfFrame.refl x h u c).modifyStation _).setFollow _).setTuner _

theorem returnedCabin_station {c : Cabin} {h : StationId} {r : Station} (hr : c.station h = some r) (x : Chan)
    (u : TunerId) (f : Follow) (ch raw : Nat) : (returnedCabin x h r u f ch raw c).station h =
      some { r with alternates := setAltQuality ch raw r.alternates } := noteProbe_station hr ch raw

theorem returnedCabin_chan (x : Chan) (h : StationId) (r : Station) (u : TunerId) (f : Follow) (ch raw : Nat) (c : Cabin) :
    (returnedCabin x h r u f ch raw c).chan x = { c.chan x with
      follow := some { excursionDone ch raw (c.chan x).quality f with phase := .serving } } := by
  rw [returnedCabin, setTuner_chan, setFollow, setChan_chan_same, noteProbe_chan]

theorem settleStates_selfFrame {x : Chan} {h : StationId} {u : TunerId} {c d : Cabin} (hd : SelfFrame x h u c d) :
    ((settleStates d).chan x).station = (c.chan x).station ∧ ((settleStates d).chan x).serving = (c.chan x).serving ∧
    (settleStates d).tuner u.other = c.tuner u.other ∧ (settleStates d).chan x.other = c.chan x.other ∧
    (∀ j, j ≠ h.slot → (settleStates d).stationSlot j = c.stationSlot j) := by
  simp only [settleStates_chan, settleStates_tuner]
  exact ⟨hd.station, hd.serving, hd.tuner_other, hd.chan_other,
    fun j hj => (stationSlot_of_slots (by simp) j).trans (hd.slot_other j hj)⟩

theorem excursion_idle {x : Chan} {s : State} (h : (s.cab.chan x).follow = none) (g : Figures) :
    exec (.excursionStart x) s = .next s ∧ exec (.excursionEnd x g) s = .next s := by
  refine ⟨exec_of_unchanged rfl ?_, exec_of_unchanged (f := excursionEnd s.supply.image x g) rfl ?_⟩
  · unfold excursionStart
    split
    · next hf => cases h.symm.trans hf
    · rfl
  · unfold excursionEnd
    split
    · next hf => cases h.symm.trans hf
    · rfl

/-- Settles O36: an excursion leaves for the next frequency and returns; with none left the follow decides by its winner. -/
theorem selfProbingFollowMakesExcursions : Obligations.SelfProbingFollowMakesExcursions := by
  refine ⟨fun x h u f n s hx hserving hf hphase hstop hsome hpos hprobe hskip => ?_,
    fun x g h r u f ch raw s hx hr hserving hf hphase hch hraw => ?_,
    fun x h r u f s hx hr hserving hf hphase hstop hskip => ?_, fun x g s hf => excursion_idle hf g⟩
  · obtain ⟨ch, hn⟩ := Option.isSome_iff_exists.mp hsome
    have hnext : nextProbe s.cab h f = some (ch, n) := nextProbe_eq_some hn hpos (by simpa [hn] using hprobe)
      fun m d hm hmn hd => by simpa [hd] using hskip m hm hmn
    obtain ⟨t, ht, hcab, hout⟩ := exec_excursionStart hx hserving hf hphase hstop
    have hset := settleStates_settled hcab (advanceSelf_alone ..)
    obtain ⟨-, -, htuner, hchan, -⟩ := settleStates_selfFrame ((SelfFrame.refl x h u s.cab).advanceSelf hx hserving f)
    rw [← hcab] at htuner hchan
    rw [advanceSelf_next hnext] at hcab
    refine ⟨t, ht, by simp [hcab, setFollow], fun ch' hn' => ?_, htuner, by simp [hcab, setFollow], hset.states, hset.routes,
      hset.shows, hchan, hset.zones, hset.queue, hset.calls, hset.events, hset.plans, hset.levels, hout⟩
    rw [hcab, settleStates_tuner, setTuner_tuner_same, Option.some.inj (hn'.symm.trans hn)]
    rfl
  · obtain ⟨t, ht, hcab, hout⟩ := exec_excursionEnd hx hr hserving hf hphase hch hraw
    have hback := returnedCabin_frame x h r u f ch raw s.cab
    have hbackChan := returnedCabin_chan x h r u f ch raw s.cab
    have hbackStation := returnedCabin_station hr x u f ch raw
    have hx' := hback.station.trans hx
    have hserving' := hback.serving.trans hserving
    have hframe : SelfFrame x h u s.cab (if f.probes.length ≤ f.pos + 1
        then decideSelf x h (excursionDone ch raw (s.cab.chan x).quality f) (returnedCabin x h r u f ch raw s.cab)
        else returnedCabin x h r u f ch raw s.cab) := by
      split
      · exact hback.decideSelf hx' hserving' _
      · exact hback
    have hset := settleStates_settled hcab hframe.alone
    obtain ⟨hstation, hserves, htuner, hchan, hslots⟩ := settleStates_selfFrame hframe
    rw [← hcab] at hstation hserves htuner hchan hslots
    have hwinner : ∀ q ms, followWinner (returnedCabin x h r u f ch raw s.cab) h q ms =
        followWinner (noteProbe h ch raw s.cab) h q ms := followWinner_of_slots rfl h
    refine ⟨t, ht, fun hmore => ?_, fun hlast hbad => ?_, fun hlast hstop w hw => ?_, hstation.trans hx,
      hserves.trans hserving, htuner, hchan, hslots, hset.states, hset.routes, hset.shows, hset.zones, hset.queue, hset.calls,
      hset.events, hset.plans, hset.levels, hout⟩
    · rw [if_neg (by omega)] at hcab
      have hkept : t.cab.station h = (returnedCabin x h r u f ch raw s.cab).station h :=
        station_of_slots (by simp [hcab]) h
      rw [hkept, hcab, settleStates_chan, settleStates_tuner, hbackChan]
      exact ⟨rfl, setTuner_tuner_same .., hbackStation⟩
    · rw [if_pos hlast, decideSelf_fails ((hwinner ..).trans (followWinner_eq_none hbad))] at hcab
      have hkept : t.cab.station h = (returnedCabin x h r u f ch raw s.cab).station h :=
        station_of_slots (by simp [hcab, endFollow]) h
      rw [hkept, hcab, settleStates_chan, settleStates_tuner, endFollow, setChan_chan_same, hbackChan]
      exact ⟨rfl, setTuner_tuner_same .., hbackStation⟩
    · rw [if_pos hlast] at hcab
      have hretunes := (decideSelf_wins (f := excursionDone ch raw (s.cab.chan x).quality f)
        ((hwinner ..).trans (followWinner_of_wins hw)) hx' hserving' hbackStation
        (hback.alone.stopped.trans hstop)).settleStates
      rw [← hcab] at hretunes
      exact ⟨hretunes.retuning, hretunes.follow, hretunes.followCount, hretunes.tuned, hretunes.smoothed, hretunes.acc,
        hretunes.station⟩
  · obtain ⟨t, ht, hcab, hout⟩ := exec_excursionStart hx hserving hf hphase hstop
    have hset := settleStates_settled hcab (advanceSelf_alone ..)
    obtain ⟨hstation, hserves, htuner, hchan, hslots⟩ :=
      settleStates_selfFrame ((SelfFrame.refl x h u s.cab).advanceSelf hx hserving f)
    rw [← hcab] at hstation hserves htuner hchan hslots
    rw [advanceSelf_decides (nextProbe_eq_none hskip)] at hcab
    refine ⟨t, ht, fun hno => ?_, fun w hw => ?_, hstation.trans hx, hserves.trans hserving, htuner, hchan, hslots,
      hset.states, hset.routes, hset.shows, hset.zones, hset.queue, hset.calls, hset.events, hset.plans, hset.levels, hout⟩
    · rw [decideSelf_fails (followWinner_of_no_wins hno)] at hcab
      exact ⟨by simp [hcab, endFollow], by simp [hcab, endFollow], by simp [hcab, endFollow]⟩
    · have hretunes := (decideSelf_wins (followWinner_of_wins hw) hx hserving hr hstop).settleStates
      rw [← hcab] at hretunes
      exact ⟨hretunes.retuning, hretunes.follow, hretunes.followCount, hretunes.tuned, hretunes.smoothed, hretunes.acc,
        hretunes.station⟩

end Sys2Proof.Machine
end

section
/-! SUPPORT. The demand of a station, the ranking of the demanded stations and their winners (05 R88, R89). -/

namespace Sys2Proof.Machine

/-! ## The demand (05 R88) -/

/-- `m` is the highest of the priorities for which `P` holds, none where there is none. -/
def HighestOf (P : Nat → Prop) : Option Nat → Prop
  | none => ∀ p, ¬ P p
  | some p => P p ∧ ∀ q, P q → q ≤ p

theorem HighestOf.eq_none_iff {P : Nat → Prop} {m : Option Nat} (h : HighestOf P m) : m = none ↔ ∀ p, ¬ P p := by
  cases m with
  | none => simpa [HighestOf] using h
  | some p => simpa using ⟨p, h.1⟩

theorem HighestOf.eq_some_iff {P : Nat → Prop} {m : Option Nat} (h : HighestOf P m) (p : Nat) :
    m = some p ↔ P p ∧ ∀ q, P q → q ≤ p := by
  refine ⟨?_, fun ⟨hp, hmax⟩ => ?_⟩
  · rintro rfl
    exact h
  · cases m with
    | none => exact absurd hp (h p)
    | some q => rw [Nat.le_antisymm (hmax q h.1) (h.2 p hp)]

theorem HighestOf.congr {P Q : Nat → Prop} {m : Option Nat} (h : HighestOf P m) (hPQ : ∀ p, P p ↔ Q p) :
    HighestOf Q m := by
  rwa [← show P = Q from funext fun p => propext (hPQ p)]

theorem HighestOf.single (m : Option Nat) : HighestOf (fun p => m = some p) m := by
  cases m <;> simp [HighestOf]

theorem HighestOf.max {P Q : Nat → Prop} {a b : Option Nat} (ha : HighestOf P a) (hb : HighestOf Q b) :
    HighestOf (fun p => P p ∨ Q p) (maxPriority a b) := by
  cases a with
  | none => exact hb.congr fun p => by simp [ha p]
  | some a =>
    cases b with
    | none => exact ha.congr fun p => by simp [hb p]
    | some b =>
      obtain ⟨hpa, hmaxa⟩ := ha
      obtain ⟨hpb, hmaxb⟩ := hb
      refine ⟨?_, fun q hq => ?_⟩
      · rcases Nat.le_total a b with hle | hle
        · rw [Nat.max_eq_right hle]
          exact .inr hpb
        · rw [Nat.max_eq_left hle]
          exact .inl hpa
      · rcases hq with hq | hq
        · exact (hmaxa q hq).trans (Nat.le_max_left ..)
        · exact (hmaxb q hq).trans (Nat.le_max_right ..)

theorem HighestOf.foldl {α : Type} (f : α → Option Nat) (l : List α) {P : Nat → Prop} {m : Option Nat}
    (hm : HighestOf P m) :
    HighestOf (fun p => P p ∨ ∃ x ∈ l, f x = some p) (l.foldl (fun m x => maxPriority m (f x)) m) := by
  induction l generalizing P m with
  | nil => exact hm.congr fun p => by simp
  | cons x l ih => exact (ih (hm.max (.single (f x)))).congr fun p => by simp [or_assoc]

theorem routeDemand_eq_some {c : Cabin} {h : StationId} {x : Fin 8 × Fin 6} {p : Nat} : routeDemand c h x = some p ↔
    ∃ (z : Zone) (r : RouteRecord), (c.zone z).present = true ∧ (c.zone z).list = some x.1 ∧
      (c.route x.1 x.2).record = some r ∧ r.present = true ∧ r.source = .station h ∧ r.priority = p := by
  unfold routeDemand
  cases hr : (c.route x.1 x.2).record with
  | none => simp
  | some r =>
    simp only [Option.ite_none_right_eq_some, Bool.and_eq_true, decide_eq_true_eq, linkedByPresent_iff, Option.some.injEq]
    constructor
    · rintro ⟨⟨⟨hp, hs⟩, z, hz, hl⟩, hpr⟩
      exact ⟨z, r, hz, hl, rfl, hp, hs, hpr⟩
    · rintro ⟨z, q, hz, hl, rfl, hp, hs, hpr⟩
      exact ⟨⟨⟨hp, hs⟩, z, hz, hl⟩, hpr⟩

/-- The demand that the watched station makes for itself (05 R88). -/
def watchDemand (c : Cabin) (h : StationId) : Option Nat :=
  c.table.watch.bind fun w => if w.station = h then some w.priority else none

theorem demand_eq (c : Cabin) (h : StationId) : demand c h =
    maxPriority (routeKeys.foldl (fun m x => maxPriority m (routeDemand c h x)) none) (watchDemand c h) := by
  unfold demand watchDemand
  cases c.table.watch <;> rfl

/-- Where the demand of a station comes from. -/
theorem demandsAt_iff {c : Cabin} {h : StationId} {p : Nat} : DemandsAt c h p ↔
    (∃ x ∈ routeKeys, routeDemand c h x = some p) ∨ watchDemand c h = some p := by
  refine or_congr ⟨?_, ?_⟩ ?_
  · rintro ⟨z, l, k, r, hz, hl, hr, hp, hs, hpr⟩
    exact ⟨(l, k), mem_routeKeys _, routeDemand_eq_some.mpr ⟨z, r, hz, hl, hr, hp, hs, hpr⟩⟩
  · rintro ⟨⟨l, k⟩, -, hx⟩
    obtain ⟨z, r, hz, hl, hr, hp, hs, hpr⟩ := routeDemand_eq_some.mp hx
    exact ⟨z, l, k, r, hz, hl, hr, hp, hs, hpr⟩
  · simp [watchDemand, Option.bind_eq_some_iff]

theorem demand_highest (c : Cabin) (h : StationId) : HighestOf (DemandsAt c h) (demand c h) := by
  have hroutes : HighestOf (fun p => False ∨ ∃ x ∈ routeKeys, routeDemand c h x = some p)
      (routeKeys.foldl (fun m x => maxPriority m (routeDemand c h x)) none) := .foldl _ _ (fun _ h => h)
  rw [demand_eq]
  exact (hroutes.max (.single (watchDemand c h))).congr fun p => by rw [demandsAt_iff, false_or]

/-! ## The ranking (05 R89) -/

theorem mem_demanded {c : Cabin} {h : StationId} {p : Nat} :
    (h, p) ∈ demanded c ↔ (c.station h).isSome = true ∧ demand c h = some p := by
  simp only [demanded, List.mem_filterMap, List.mem_finRange, true_and]
  constructor
  · rintro ⟨i, hi⟩
    cases hr : (c.stationSlot i).record with
    | none => simp [hr] at hi
    | some r =>
      simp only [hr, Option.map_eq_some_iff, Prod.mk.injEq] at hi
      obtain ⟨q, hq, rfl, rfl⟩ := hi
      exact ⟨by simp [Cabin.station, Cabin.stationId, hr], hq⟩
  · rintro ⟨hlive, hd⟩
    obtain ⟨r, hr⟩ := Option.isSome_iff_exists.mp hlive
    have hslot := station_eq_some_iff.mp hr
    have hid : c.stationId h.slot = h := by simp [Cabin.stationId, hslot]
    exact ⟨h.slot, by simp [hslot, hid, hd]⟩

theorem demanded_sorted (c : Cabin) : (demanded c).Pairwise fun a b => a.1.slot < b.1.slot := by
  refine List.Pairwise.filterMap _ (fun i j hij a ha b hb => ?_) (List.pairwise_lt_finRange 40)
  split at ha
  · cases ha
  · split at hb
    · cases hb
    · obtain ⟨p, -, rfl⟩ := Option.map_eq_some_iff.mp ha
      obtain ⟨q, -, rfl⟩ := Option.map_eq_some_iff.mp hb
      exact hij

/-- The order of the arbitration: higher demand priority, then already assigned, then the lower slot (05 R89). -/
def RanksAhead (c : Cabin) (a b : StationId × Nat) : Prop :=
  b.2 < a.2 ∨ (b.2 = a.2 ∧ ((carried c a.1 = true ∧ carried c b.1 = false) ∨
    (carried c a.1 = carried c b.1 ∧ a.1.slot < b.1.slot)))

theorem RanksAhead.trans {c : Cabin} {a b m : StationId × Nat} (h : RanksAhead c a b) (g : RanksAhead c b m) :
    RanksAhead c a m := by
  unfold RanksAhead at *
  grind

theorem ranksAhead_of_ranksBefore {c : Cabin} {a b : StationId × Nat} (h : ranksBefore c a b = true) :
    RanksAhead c a b := by
  simp only [ranksBefore, Bool.or_eq_true, Bool.and_eq_true, decide_eq_true_eq, Bool.not_eq_true'] at h
  unfold RanksAhead
  grind

theorem ranksAhead_of_not_ranksBefore {c : Cabin} {a b : StationId × Nat} (h : ranksBefore c a b = false)
    (hslot : b.1.slot < a.1.slot) : RanksAhead c b a := by
  simp only [ranksBefore, Bool.or_eq_false_iff, Bool.and_eq_false_iff, decide_eq_false_iff_not, Bool.not_eq_false'] at h
  unfold RanksAhead
  grind

/-- The better ranked of the best so far and the next in slot order. -/
def keepFirst (c : Cabin) (best : Option (StationId × Nat)) (a : StationId × Nat) : Option (StationId × Nat) :=
  match best with
  | none => some a
  | some b => if ranksBefore c a b then some a else some b

theorem foldl_keepFirst {c : Cabin} {l : List (StationId × Nat)} {a : StationId × Nat}
    (hl : (a :: l).Pairwise fun a b => a.1.slot < b.1.slot) :
    ∃ w, l.foldl (keepFirst c) (some a) = some w ∧ w ∈ a :: l ∧ ∀ b ∈ a :: l, b = w ∨ RanksAhead c w b := by
  induction l generalizing a with
  | nil => exact ⟨a, rfl, List.mem_cons_self, fun b hb => .inl (List.mem_singleton.mp hb)⟩
  | cons m l ih =>
    obtain ⟨ha, hml⟩ := List.pairwise_cons.mp hl
    obtain ⟨hm, hll⟩ := List.pairwise_cons.mp hml
    cases hrank : ranksBefore c m a with
    | true =>
      obtain ⟨w, hw, hmem, hfirst⟩ := ih (a := m) hml
      refine ⟨w, by rw [List.foldl_cons, keepFirst, if_pos hrank, hw], List.mem_cons_of_mem a hmem, fun b hb => ?_⟩
      rcases List.mem_cons.mp hb with rfl | hb
      · have hahead := ranksAhead_of_ranksBefore hrank
        rcases hfirst m List.mem_cons_self with rfl | hwm
        · exact .inr hahead
        · exact .inr (hwm.trans hahead)
      · exact hfirst b hb
    | false =>
      obtain ⟨w, hw, hmem, hfirst⟩ := ih (a := a) (List.pairwise_cons.mpr
        ⟨fun b hb => ha b (List.mem_cons_of_mem m hb), hll⟩)
      refine ⟨w, by rw [List.foldl_cons, keepFirst, if_neg (by simp [hrank]), hw], ?_, fun b hb => ?_⟩
      · rcases List.mem_cons.mp hmem with rfl | hmem
        · exact List.mem_cons_self
        · exact List.mem_cons_of_mem a (List.mem_cons_of_mem m hmem)
      · rcases List.mem_cons.mp hb with rfl | hb
        · exact hfirst b List.mem_cons_self
        · rcases List.mem_cons.mp hb with rfl | hb
          · have hahead := ranksAhead_of_not_ranksBefore hrank (ha b List.mem_cons_self)
            rcases hfirst a List.mem_cons_self with rfl | hwa
            · exact .inr hahead
            · exact .inr (hwa.trans hahead)
          · exact hfirst b (List.mem_cons_of_mem a hb)

/-- The first-ranked of a list in slot order, none of the empty list alone. -/
theorem firstRanked_spec {c : Cabin} {l : List (StationId × Nat)} (hl : l.Pairwise fun a b => a.1.slot < b.1.slot) :
    (firstRanked c l = none ∧ l = []) ∨
    ∃ w, firstRanked c l = some w ∧ w ∈ l ∧ ∀ b ∈ l, b = w ∨ RanksAhead c w b := by
  cases l with
  | nil => exact .inl ⟨rfl, rfl⟩
  | cons a l => exact .inr (foldl_keepFirst hl)

/-! ## The winners (05 R89) -/

/-- No station is demanded, one, or more of which the two first-ranked win. -/
inductive Winning (c : Cabin) : List StationId → Prop
  | idle (h : demanded c = []) : Winning c []
  | one (a : StationId × Nat) (ha : a ∈ demanded c) (hall : ∀ m ∈ demanded c, m.1 = a.1) : Winning c [a.1]
  | two (a b : StationId × Nat) (ha : a ∈ demanded c) (hb : b ∈ demanded c) (hne : a.1 ≠ b.1) (hab : RanksAhead c a b)
      (hall : ∀ m ∈ demanded c, m.1 ≠ a.1 → m.1 ≠ b.1 → RanksAhead c a m ∧ RanksAhead c b m) : Winning c [a.1, b.1]

theorem winners_winning (c : Cabin) : Winning c (winners c) := by
  unfold winners
  rcases firstRanked_spec (c := c) (demanded_sorted c) with ⟨hnone, hnil⟩ | ⟨a, ha, hmem, hfirst⟩
  · rw [hnone]
    exact .idle hnil
  · rw [ha]
    dsimp only
    rcases firstRanked_spec (c := c) ((demanded_sorted c).filter fun x => decide (x.1 ≠ a.1)) with
      ⟨hnone, hnil⟩ | ⟨b, hb, hbmem, hbfirst⟩
    · rw [hnone]
      refine .one a hmem fun m hm => ?_
      simpa using List.filter_eq_nil_iff.mp hnil m hm
    · rw [hb]
      obtain ⟨hbd, hne⟩ := List.mem_filter.mp hbmem
      have hne : b.1 ≠ a.1 := of_decide_eq_true hne
      have hab := (hfirst b hbd).resolve_left fun he => hne (congrArg Prod.fst he)
      refine .two a b hmem hbd hne.symm hab fun m hm hma hmb => ?_
      have hbm := (hbfirst m (List.mem_filter.mpr ⟨hm, decide_eq_true hma⟩)).resolve_left fun he =>
        hmb (congrArg Prod.fst he)
      exact ⟨hab.trans hbm, hbm⟩

section Winning

variable {c : Cabin} {ws : List StationId} (hw : Winning c ws)
include hw

theorem Winning.length_le : ws.length ≤ 2 := by cases hw <;> simp

theorem Winning.nodup : ws.Nodup := by
  cases hw with
  | idle => exact List.nodup_nil
  | one => exact List.nodup_singleton _
  | two a b ha hb hne => simpa using hne

theorem Winning.demanded {h : StationId} (hh : h ∈ ws) : ∃ p, (h, p) ∈ demanded c := by
  cases hw with
  | idle => cases hh
  | one a ha => exact ⟨a.2, by rwa [List.mem_singleton.mp hh]⟩
  | two a b ha hb =>
    rcases List.mem_pair.mp hh with rfl | rfl
    · exact ⟨a.2, ha⟩
    · exact ⟨b.2, hb⟩

/-- Every winner ranks ahead of a demanded station that does not win; two win then. -/
theorem Winning.ahead {m : StationId × Nat} (hm : m ∈ Machine.demanded c) (hlost : m.1 ∉ ws) : ws.length = 2 ∧
    ∀ h ∈ ws, ∃ p, (h, p) ∈ Machine.demanded c ∧ RanksAhead c (h, p) m := by
  cases hw with
  | idle hnil => simp [hnil] at hm
  | one a ha hall => simp [hall m hm] at hlost
  | two a b ha hb hne hab hall =>
    obtain ⟨hma, hmb⟩ : m.1 ≠ a.1 ∧ m.1 ≠ b.1 := by simpa using hlost
    obtain ⟨haheada, haheadb⟩ := hall m hm hma hmb
    refine ⟨rfl, fun h hh => ?_⟩
    rcases List.mem_pair.mp hh with rfl | rfl
    · exact ⟨a.2, ha, haheada⟩
    · exact ⟨b.2, hb, haheadb⟩

/-- No third winner. -/
theorem Winning.not_three {g h k : StationId} (hg : g ∈ ws) (hh : h ∈ ws) (hk : k ∈ ws) (hgh : g ≠ h) (hgk : g ≠ k) :
    h = k := by
  by_contra hhk
  have hnodup : [g, h, k].Nodup := by simp [hgh, hgk, hhk]
  have hsub := List.subperm_of_subset hnodup (l₂ := ws) (by simp [hg, hh, hk])
  have := hsub.length_le
  have := hw.length_le
  simp at *
  omega

end Winning

end Sys2Proof.Machine
end

section
/-! SUPPORT. The stations of the two programme channels after the arbitration (05 R89). -/

namespace Sys2Proof.Machine

/-- The station that an assignment gives a channel. -/
def assignedTo (n : Option StationId × Option StationId) : Chan → Option StationId
  | .pc0 => n.1
  | .pc1 => n.2

theorem carried_iff {c : Cabin} {h : StationId} : carried c h = true ↔ ∃ x, (c.chan x).station = some h := by
  constructor
  · intro hc
    obtain ⟨x, hx⟩ := Option.isSome_iff_exists.mp hc
    exact ⟨x, chan_of_chanOf hx⟩
  · rintro ⟨x, hx⟩
    unfold carried chanOf
    cases x <;> simp [hx]
    split <;> simp

theorem keptStation_eq_some {c : Cabin} {x : Chan} {h : StationId} :
    keptStation c x = some h ↔ (c.chan x).station = some h ∧ h ∈ winners c := by
  unfold keptStation
  cases hx : (c.chan x).station with
  | none => simp
  | some g =>
    simp only [Option.ite_none_right_eq_some, List.contains_iff_mem, Option.some.injEq]
    constructor
    · rintro ⟨hg, rfl⟩
      exact ⟨rfl, hg⟩
    · rintro ⟨rfl, hg⟩
      exact ⟨hg, rfl⟩

/-- The winners that no channel carries yet, higher-ranked first. -/
def entering (c : Cabin) : List StationId := (winners c).filter fun h => !carried c h

theorem mem_entering {c : Cabin} {h : StationId} : h ∈ entering c ↔ h ∈ winners c ∧ carried c h = false := by
  simp [entering, List.mem_filter]

section Assigned

variable {c : Cabin}

/-- A channel's own winner stays. -/
theorem assignedTo_kept {x : Chan} {a : StationId} (hx : keptStation c x = some a) :
    assignedTo (newAssignment c) x = some a := by
  unfold newAssignment
  cases x
  · cases h1 : keptStation c .pc1 <;> simp [hx, assignedTo]
  · cases h0 : keptStation c .pc0 <;> simp [hx, assignedTo]

/-- Beside a channel whose own winner stays, the other takes the first that enters. -/
theorem assignedTo_beside {x : Chan} {b : StationId} (hx : keptStation c x = none)
    (hb : keptStation c x.other = some b) : assignedTo (newAssignment c) x = (entering c).head? := by
  unfold newAssignment
  cases x <;> simp only [Chan.other] at hb <;> simp [hx, hb, assignedTo, entering]

/-- With neither staying, PC0 takes the first that enters and PC1 the next. -/
theorem newAssignment_neither (h : ∀ x, keptStation c x = none) :
    newAssignment c = ((entering c).head?, (entering c).tail.head?) := by
  unfold newAssignment
  simp [h, entering]

/-- A channel's station is its own winner, or one that enters. -/
theorem assignedTo_cases {x : Chan} {h : StationId} (hx : assignedTo (newAssignment c) x = some h) :
    keptStation c x = some h ∨ h ∈ entering c := by
  cases hk : keptStation c x with
  | some a => exact .inl ((assignedTo_kept hk).symm.trans hx)
  | none =>
    refine .inr ?_
    cases ho : keptStation c x.other with
    | some b => exact List.mem_of_head? ((assignedTo_beside hk ho).symm.trans hx)
    | none =>
      have hnone : ∀ y, keptStation c y = none := fun y => by
        rcases chan_eq_or_other y x with rfl | rfl
        · exact hk
        · exact ho
      rw [newAssignment_neither hnone] at hx
      cases x
      · exact List.mem_of_head? hx
      · exact List.mem_of_mem_tail (List.mem_of_head? hx)

theorem winner_of_assignedTo {x : Chan} {h : StationId} (hx : assignedTo (newAssignment c) x = some h) :
    h ∈ winners c := by
  rcases assignedTo_cases hx with hk | he
  · exact (keptStation_eq_some.mp hk).2
  · exact (mem_entering.mp he).1

theorem carried_of_keptStation {x : Chan} {h : StationId} (hx : keptStation c x = some h) : carried c h = true :=
  carried_iff.mpr ⟨x, (keptStation_eq_some.mp hx).1⟩

theorem entering_nodup : (entering c).Nodup := (winners_winning c).nodup.filter _

/-- Every winner is on a channel. -/
theorem assignedTo_of_winner (hdiff : ChannelsDiffer c) {h : StationId} (hw : h ∈ winners c) :
    ∃ x, assignedTo (newAssignment c) x = some h := by
  have hwin := winners_winning c
  cases hc : carried c h with
  | true =>
    obtain ⟨x, hx⟩ := carried_iff.mp hc
    exact ⟨x, assignedTo_kept (keptStation_eq_some.mpr ⟨hx, hw⟩)⟩
  | false =>
    have hin : h ∈ entering c := mem_entering.mpr ⟨hw, hc⟩
    have hother : ∀ {x a}, keptStation c x = some a → h ≠ a := fun hk he => by
      rw [he, carried_of_keptStation hk] at hc
      cases hc
    have hbeside : ∀ {x a}, keptStation c x = none → keptStation c x.other = some a →
        assignedTo (newAssignment c) x = some h := fun {x a} hk ha => by
      obtain ⟨g, hg⟩ := Option.ne_none_iff_exists'.mp fun hn => List.ne_nil_of_mem hin (List.head?_eq_none_iff.mp hn)
      rw [assignedTo_beside hk ha, hg]
      obtain ⟨hgw, hgc⟩ := mem_entering.mp (List.mem_of_head? hg)
      by_contra hne
      have hga := hwin.not_three hw hgw (keptStation_eq_some.mp ha).2 (fun he => hne (by rw [he])) (hother ha)
      rw [hga, carried_of_keptStation ha] at hgc
      cases hgc
    cases h0 : keptStation c .pc0 with
    | some a =>
      cases h1 : keptStation c .pc1 with
      | some b =>
        obtain ⟨ha, haw⟩ := keptStation_eq_some.mp h0
        obtain ⟨hb, hbw⟩ := keptStation_eq_some.mp h1
        have hab := hwin.not_three hw haw hbw (hother h0) (hother h1)
        exact absurd hb (hab ▸ hdiff a ha)
      | none => exact ⟨.pc1, hbeside h1 h0⟩
    | none =>
      cases h1 : keptStation c .pc1 with
      | some b => exact ⟨.pc0, hbeside h0 h1⟩
      | none =>
        have hlen : (entering c).length ≤ 2 := (List.length_filter_le ..).trans hwin.length_le
        rw [newAssignment_neither fun x => by cases x <;> assumption]
        revert hin hlen
        rcases entering c with _ | ⟨g, _ | ⟨k, _ | ⟨m, l⟩⟩⟩
        · intro hin
          cases hin
        · intro hin _
          exact ⟨.pc0, by simp [assignedTo, List.mem_singleton.mp hin]⟩
        · intro hin _
          rcases List.mem_pair.mp hin with rfl | rfl
          · exact ⟨.pc0, rfl⟩
          · exact ⟨.pc1, rfl⟩
        · intro _ hlen
          simp at hlen

/-- The two channels are given different stations. -/
theorem newAssignment_differ (hdiff : ChannelsDiffer c) {h : StationId} (h0 : (newAssignment c).1 = some h) :
    (newAssignment c).2 ≠ some h := by
  intro h1
  have hnot : ∀ {x}, keptStation c x = some h → h ∉ entering c := fun hk he => by
    have := (mem_entering.mp he).2
    rw [carried_of_keptStation hk] at this
    cases this
  rcases assignedTo_cases (x := .pc0) h0 with hk0 | he0 <;> rcases assignedTo_cases (x := .pc1) h1 with hk1 | he1
  · exact hdiff h (keptStation_eq_some.mp hk0).1 (keptStation_eq_some.mp hk1).1
  · exact hnot hk0 he1
  · exact hnot hk1 he0
  · cases hk0 : keptStation c .pc0 with
    | some a =>
      obtain rfl := Option.some.inj ((assignedTo_kept hk0).symm.trans h0)
      exact hnot hk0 he0
    | none =>
      cases hk1 : keptStation c .pc1 with
      | some b =>
        obtain rfl := Option.some.inj ((assignedTo_kept hk1).symm.trans h1)
        exact hnot hk1 he0
      | none =>
        rw [newAssignment_neither fun x => by cases x <;> assumption] at h0 h1
        have hnodup := entering_nodup (c := c)
        obtain ⟨tl, htl⟩ := List.head?_eq_some_iff.mp h0
        rw [htl] at hnodup h1
        exact (List.nodup_cons.mp hnodup).1 (List.mem_of_head? h1)

/-- Two stations that enter together take the channels in the order of their ranks (log 13). -/
theorem newAssignment_order {g h : StationId} {p q : Nat} (hg : carried c g = false) (hh : carried c h = false)
    (h0 : (newAssignment c).1 = some h) (h1 : (newAssignment c).2 = some g) (hp : demand c h = some p)
    (hq : demand c g = some q) : RanksAhead c (h, p) (g, q) := by
  have hnone : ∀ x, keptStation c x = none := fun x => by
    refine Option.eq_none_iff_forall_ne_some.mpr fun a ha => ?_
    have hca := carried_of_keptStation ha
    cases x
    · rw [Option.some.inj ((assignedTo_kept ha).symm.trans h0), hh] at hca
      cases hca
    · rw [Option.some.inj ((assignedTo_kept ha).symm.trans h1), hg] at hca
      cases hca
  rw [newAssignment_neither hnone] at h0 h1
  obtain ⟨tl, htl⟩ := List.head?_eq_some_iff.mp h0
  obtain ⟨tl', htl'⟩ := List.head?_eq_some_iff.mp (show tl.head? = some g by simpa [htl] using h1)
  have hwin := winners_winning c
  have hsub : (h :: g :: tl').Sublist (winners c) := by
    rw [← htl', ← htl]
    exact List.filter_sublist
  have hws : winners c = h :: g :: tl' :=
    (hsub.eq_of_length_le (hwin.length_le.trans (by simp))).symm
  rw [hws] at hwin
  cases hwin with
  | two a b ha hb hne hab hall =>
    obtain rfl := Option.some.inj ((mem_demanded.mp ha).2.symm.trans hp)
    obtain rfl := Option.some.inj ((mem_demanded.mp hb).2.symm.trans hq)
    exact hab

end Assigned

/-! ## The stations after an arbitration that runs -/

section Arbitrated

variable {c : Cabin} (hhold : c.builder.hold = .running) (hpart : c.ports.part ≠ .liteReset)
include hhold hpart

theorem arbitrate_cases :
    (newAssignment c = ((c.chan .pc0).station, (c.chan .pc1).station) ∧ arbitrate c = c) ∨
    (newAssignment c ≠ ((c.chan .pc0).station, (c.chan .pc1).station) ∧
      arbitrate c = applyAssignment (newAssignment c) c) := by
  unfold arbitrate
  rw [if_pos ⟨hhold, hpart⟩]
  split
  · next h => exact .inl ⟨h, rfl⟩
  · next h => exact .inr ⟨h, rfl⟩

theorem arbitrate_chan_station (x : Chan) : ((arbitrate c).chan x).station = assignedTo (newAssignment c) x := by
  rcases arbitrate_cases hhold hpart with ⟨hsame, heq⟩ | ⟨-, heq⟩
  · rw [heq, hsame]
    cases x <;> rfl
  · have happlied := applyAssignment_station (newAssignment c) c
    rw [heq]
    cases x
    · exact congrArg Prod.fst happlied
    · exact congrArg Prod.snd happlied

theorem arbitrate_carried (hdiff : ChannelsDiffer c) {h : StationId} :
    carried (arbitrate c) h = true ↔ h ∈ winners c := by
  rw [carried_iff]
  simp only [arbitrate_chan_station hhold hpart]
  exact ⟨fun ⟨x, hx⟩ => winner_of_assignedTo hx, assignedTo_of_winner hdiff⟩

theorem arbitrate_differ (hdiff : ChannelsDiffer c) : ChannelsDiffer (arbitrate c) := by
  unfold ChannelsDiffer
  simp only [arbitrate_chan_station hhold hpart]
  exact fun h => newAssignment_differ hdiff

end Arbitrated

end Sys2Proof.Machine
end

section
/-! SUPPORT. The channels and tuners after an assignment (05 R90, R92, R93). -/

namespace Sys2Proof.Machine

/-! ## The serving tuners (05 R92) -/

/-- The tuner that serves a channel after an assignment. -/
def servingOf (c : Cabin) (n : Option StationId × Option StationId) : Chan → Option TunerId
  | .pc0 => (servingAfter c n).1
  | .pc1 => (servingAfter c n).2

section Serving

variable {c : Cabin} {n : Option StationId × Option StationId}

/-- A channel that has a station and a tuner keeps the tuner. -/
theorem servingOf_kept {x : Chan} (hn : (assignedTo n x).isSome = true) {u : TunerId} (hu : (c.chan x).serving = some u) :
    servingOf c n x = some u := by
  cases x <;> simp only [assignedTo] at hn <;> simp [servingOf, servingAfter, keptTuner, hn, hu]

/-- A tuner is taken just where a station has none. -/
theorem takenTuner_isSome {k : Option TunerId} {b : Bool} (t : TunerId) (hk : b = false → k = none) :
    (if b && k.isNone then some t else k).isSome = b := by
  cases k with
  | none => cases b <;> rfl
  | some v =>
    cases b with
    | false => cases hk rfl
    | true => rfl

theorem servingOf_isSome (x : Chan) : (servingOf c n x).isSome = (assignedTo n x).isSome := by
  cases x <;> exact takenTuner_isSome _ fun hn => by rw [keptTuner, hn]; rfl

/-- No tuner serves both channels. -/
theorem servingOf_differ (hfit : RolesFit c) {u : TunerId} (h0 : servingOf c n .pc0 = some u) :
    servingOf c n .pc1 ≠ some u := by
  obtain ⟨-, hdiffer, -⟩ := hfit
  have hkept : ∀ {x v}, keptTuner c x (assignedTo n x) = some v → (c.chan x).serving = some v := fun {x v} hk => by
    unfold keptTuner at hk
    split at hk
    · exact hk
    · cases hk
  have hfirst : servingOf c n .pc0 = if n.1.isSome && (keptTuner c .pc0 n.1).isNone
    then some (freeTuner c (keptTuner c .pc1 n.2)) else keptTuner c .pc0 n.1 := rfl
  have hsecond : servingOf c n .pc1 = if n.2.isSome && (keptTuner c .pc1 n.2).isNone
    then some (freeTuner c (servingOf c n .pc0)) else keptTuner c .pc1 n.2 := rfl
  intro h1
  rw [hsecond, h0] at h1
  split at h1
  · exact tuner_other_ne u (Option.some.inj h1)
  · rw [hfirst, h1] at h0
    split at h0
    · exact tuner_other_ne u (Option.some.inj h0)
    · exact hdiffer u (hkept (x := .pc0) h0) (hkept (x := .pc1) h1)

end Serving

/-! ## The channels as they are assigned -/

/-- A channel that has another station, or none, from now on. -/
def assignedChan (v : ProgChan) (n : Option StationId) (t : Option TunerId) : ProgChan :=
  if v.station = n then v
  else { freeChan with station := n, serving := t, retuning := n.isSome, quality := v.quality,
                       measured := n.isNone && v.measured }

theorem assignChan_chan_same (x : Chan) (n : Option StationId) (t : Option TunerId) (c : Cabin) :
    (assignChan x n t c).chan x = assignedChan (c.chan x) n t := by
  unfold assignChan assignedChan
  split
  · rfl
  · exact setChan_chan_same ..

/-- The cabin with the channels assigned. -/
def assignedCabin (n : Option StationId × Option StationId) (c : Cabin) : Cabin :=
  assignChan .pc1 n.2 (servingOf c n .pc1) (assignChan .pc0 n.1 (servingOf c n .pc0) c)

theorem assignedCabin_chan (n : Option StationId × Option StationId) (c : Cabin) (x : Chan) :
    (assignedCabin n c).chan x = assignedChan (c.chan x) (assignedTo n x) (servingOf c n x) := by
  unfold assignedCabin
  cases x
  · exact (assignChan_chan_other .pc1 ..).trans (assignChan_chan_same ..)
  · rw [assignChan_chan_same]
    exact congrArg (assignedChan · n.2 _) (assignChan_chan_other .pc0 ..)

theorem assignedChan_station (v : ProgChan) (n : Option StationId) (t : Option TunerId) :
    (assignedChan v n t).station = n := by
  unfold assignedChan
  split
  · assumption
  · rfl

theorem assignedCabin_serving {c : Cabin} (hfit : RolesFit c) (n : Option StationId × Option StationId) (x : Chan) :
    ((assignedCabin n c).chan x).serving = servingOf c n x := by
  rw [assignedCabin_chan]
  unfold assignedChan
  split
  · next hsame =>
    have hserving := hfit.1 x
    cases hv : (c.chan x).serving with
    | some u => rw [servingOf_kept (u := u) (by rw [← hsame, ← hserving, hv]; rfl) hv]
    | none =>
      have hnone := servingOf_isSome (c := c) (n := n) x
      rw [← hsame, ← hserving, hv] at hnone
      exact (Option.isSome_eq_false_iff.mp hnone |> Option.isNone_iff_eq_none.mp).symm
  · rfl

/-! ## The loss of the supporting tuner (05 R92, R94, R100) -/

/-- The channel has neither diversity nor a follow. -/
structure Plain (v : ProgChan) : Prop where
  diversity : v.diversity = false
  partner : v.partner = false
  follow : v.follow = none

theorem assignedChan_plain {v : ProgChan} {n : Option StationId} {t : Option TunerId} (h : v.station ≠ n) :
    Plain (assignedChan v n t) := by
  unfold assignedChan
  rw [if_neg h]
  exact ⟨rfl, rfl, rfl⟩

theorem Plain.eq {v : ProgChan} (h : Plain v) : { v with diversity := false, partner := false } = v := by
  obtain ⟨hd, hp, -⟩ := h
  cases v
  simp_all

theorem Plain.supportRole {v : ProgChan} (h : Plain v) : supportRole v = .scan := by
  simp [Machine.supportRole, borrowing, h.follow, h.diversity]

/-- What the loss of the support of `x` leaves. -/
structure SupportLost (x : Chan) (c d : Cabin) : Prop where
  chan_other : d.chan x.other = c.chan x.other
  station : (d.chan x).station = (c.chan x).station
  serving : (d.chan x).serving = (c.chan x).serving
  role : ∀ u, (d.tuner u).role = (c.tuner u).role
  lost : (c.chan x.other).station.isSome = true → (d.chan x).diversity = false ∧ borrowing (d.chan x) = false
  plain : Plain (c.chan x) → d.chan x = c.chan x

theorem endExcursion_chan (x : Chan) (c : Cabin) (y : Chan) : (endExcursion x c).chan y = c.chan y :=
  chan_of_chans (by simp) y

theorem endExcursion_role (x : Chan) (c : Cabin) (u : TunerId) : ((endExcursion x c).tuner u).role = (c.tuner u).role := by
  unfold endExcursion
  repeat' split
  · next t _ _ _ =>
    rcases tuner_eq_or_other u t with rfl | rfl <;> simp
  · rfl
  · rfl

theorem abandonFollow_eq {x : Chan} {c : Cabin} (h : borrowing (c.chan x) = true) :
    abandonFollow x c = setChan x { c.chan x with follow := none, followCount := 0 } (endExcursion x c) := by
  unfold abandonFollow
  split
  · next hf => simp [borrowing, hf] at h
  · rfl

theorem loseSupport_lost (x : Chan) (c : Cabin) : SupportLost x c (loseSupport x c) := by
  obtain ⟨q, hq⟩ := endDiversity_eq x c
  unfold loseSupport
  cases hother : carriesStation (c.chan x.other) with
  | false =>
    rw [if_neg Bool.false_ne_true]
    refine ⟨rfl, rfl, rfl, fun _ => rfl, fun h => ?_, fun _ => rfl⟩
    rw [show (c.chan x.other).station.isSome = false from hother] at h
    cases h
  | true =>
    rw [if_pos rfl]
    dsimp only
    split
    · next hb =>
      rw [abandonFollow_eq hb]
      exact {
        chan_other := by simp [endExcursion_chan, hq]
        station := by simp [hq]
        serving := by simp [hq]
        role := fun u => by rw [setChan_tuner, endExcursion_role, hq, setChan_tuner]
        lost := fun _ => by simp [hq, borrowing]
        plain := fun hp => by simp [hq, borrowing, hp.follow] at hb }
    · next hb =>
      exact {
        chan_other := by simp [hq]
        station := by simp [hq]
        serving := by simp [hq]
        role := fun u => by rw [hq, setChan_tuner]
        lost := fun _ => ⟨by simp [hq], Bool.eq_false_of_not_eq_true hb⟩
        plain := fun hp => by
          unfold endDiversity
          rw [setChan_chan_same, if_neg (by simp [hp.partner]), hp.eq] }

/-! ## The roles are settled once (05 R92) -/

theorem desiredRole_congr {c d : Cabin} (hserving : ∀ x, (d.chan x).serving = (c.chan x).serving)
    (hsupport : ∀ x, supportRole (d.chan x) = supportRole (c.chan x)) (hpart : d.ports.part = c.ports.part)
    (hstop : d.alloc.stopped = c.alloc.stopped) (hrole : ∀ u, (d.tuner u).role = (c.tuner u).role) (u : TunerId) :
    desiredRole d u = desiredRole c u := by
  simp only [desiredRole, servedBy, hserving, hsupport, hpart, hstop, hrole]

/-- The role of a tuner while neither serves a channel and the tuners run. -/
def restingRole (own other : Role) (u : TunerId) : Role :=
  if own = .scan then .scan else if other = .scan then .idle else match u with
    | .t0 => .scan
    | .t1 => .idle

/-- Neither tuner serves a channel, and the tuners run. -/
def Resting (c : Cabin) : Prop :=
  (∀ u, servedBy c u = none) ∧ (c.ports.part.posts && !c.alloc.stopped) = true

theorem desiredRole_resting {c : Cabin} (h : Resting c) (u : TunerId) :
    desiredRole c u = restingRole (c.tuner u).role (c.tuner u.other).role u := by
  obtain ⟨hfree, hrun⟩ := h
  unfold desiredRole
  simp only [hfree, hrun, if_true]
  cases u <;> rfl

/-- But for two resting tuners the roles do not count. -/
theorem desiredRole_of_chans {c d : Cabin} (h : ¬ Resting c) (hchan : ∀ x, d.chan x = c.chan x)
    (hpart : d.ports.part = c.ports.part) (hstop : d.alloc.stopped = c.alloc.stopped) (u : TunerId) :
    desiredRole d u = desiredRole c u := by
  have hserved : ∀ v, servedBy d v = servedBy c v := fun v => by simp only [servedBy, hchan]
  unfold desiredRole
  rw [hserved, hserved, hpart, hstop]
  cases hu : servedBy c u with
  | some x => rfl
  | none =>
    cases hv : servedBy c u.other with
    | some x => simp only [hchan]
    | none =>
      have hstill : (c.ports.part.posts && !c.alloc.stopped) = false := Bool.eq_false_of_not_eq_true fun hrun =>
        h ⟨fun w => by
          rcases tuner_eq_or_other w u with rfl | rfl
          · exact hu
          · exact hv, hrun⟩
      simp only [hstill]
      rfl

/-- A tuner that is to scan serves no channel, and the tuners run. -/
theorem servedBy_of_scan {c : Cabin} {u : TunerId} (h : desiredRole c u = .scan) : servedBy c u = none := by
  unfold desiredRole at h
  cases hu : servedBy c u with
  | none => rfl
  | some x => simp [hu] at h

theorem runs_of_scan {c : Cabin} {u : TunerId} (h : desiredRole c u = .scan) :
    (c.ports.part.posts && !c.alloc.stopped) = true := by
  by_contra hstill
  simp only [desiredRole, servedBy_of_scan h, hstill] at h
  cases h

/-- With at most one tuner scanning, the roles that are settled want no more change, and at most one scans. -/
theorem settleRoles_settled {c : Cabin} (h : (c.tuner .t0).role = .scan → (c.tuner .t1).role ≠ .scan) :
    (∀ u, desiredRole (settleRoles c) u = desiredRole c u) ∧
    (desiredRole c .t0 = .scan → desiredRole c .t1 ≠ .scan) := by
  have hchan : ∀ x, (settleRoles c).chan x = c.chan x := settleRoles_chan c
  have hserved : ∀ u, servedBy (settleRoles c) u = servedBy c u := fun u => by simp only [servedBy, hchan]
  by_cases hrest : Resting c
  · have hrest' : Resting (settleRoles c) := ⟨fun u => (hserved u).trans (hrest.1 u), by simpa using hrest.2⟩
    have hrole := settleRoles_role c
    refine ⟨fun u => ?_, ?_⟩
    · rw [desiredRole_resting hrest', hrole, hrole, desiredRole_resting hrest, desiredRole_resting hrest, tuner_other_other]
      cases u <;> by_cases h0 : (c.tuner .t0).role = .scan <;> by_cases h1 : (c.tuner .t1).role = .scan <;>
        simp [restingRole, TunerId.other, h0, h1]
    · rw [desiredRole_resting hrest, desiredRole_resting hrest]
      by_cases h0 : (c.tuner .t0).role = .scan
      · simp [restingRole, TunerId.other, h0, h h0]
      · by_cases h1 : (c.tuner .t1).role = .scan <;> simp [restingRole, TunerId.other, h0, h1]
  · refine ⟨fun u => desiredRole_of_chans hrest hchan (by simp) (by simp) u, fun h0 h1 => hrest ⟨fun u => ?_, ?_⟩⟩
    · cases u
      · exact servedBy_of_scan h0
      · exact servedBy_of_scan h1
    · exact runs_of_scan h0

end Sys2Proof.Machine
end

section
/-! SUPPORT. The retunes of an assignment, and the roles that fit it (05 R90, R92, R93). -/

namespace Sys2Proof.Machine

/-! ## The supporting tuners of both channels -/

/-- The cabin with the channels assigned and their supporting tuners lost where the other channel is carried. -/
def supportedCabin (n : Option StationId × Option StationId) (c : Cabin) : Cabin :=
  loseSupport .pc1 (loseSupport .pc0 (assignedCabin n c))

/-- What the loss of support makes of the assigned channels. -/
structure Supported (c d : Cabin) : Prop where
  station : ∀ x, (d.chan x).station = (c.chan x).station
  serving : ∀ x, (d.chan x).serving = (c.chan x).serving
  role : ∀ u, (d.tuner u).role = (c.tuner u).role
  lost : ∀ x, (c.chan x.other).station.isSome = true → (d.chan x).diversity = false ∧ borrowing (d.chan x) = false
  plain : ∀ x, Plain (c.chan x) → d.chan x = c.chan x

theorem supported_both (c : Cabin) : Supported c (loseSupport .pc1 (loseSupport .pc0 c)) := by
  have h0 := loseSupport_lost .pc0 c
  have h1 := loseSupport_lost .pc1 (loseSupport .pc0 c)
  have hpc0 : (loseSupport .pc1 (loseSupport .pc0 c)).chan .pc0 = (loseSupport .pc0 c).chan .pc0 := h1.chan_other
  have hpc1 : (loseSupport .pc0 c).chan .pc1 = c.chan .pc1 := h0.chan_other
  refine ⟨fun x => ?_, fun x => ?_, fun u => (h1.role u).trans (h0.role u), fun x hx => ?_, fun x hx => ?_⟩
  · cases x
    · rw [hpc0, h0.station]
    · rw [h1.station, hpc1]
  · cases x
    · rw [hpc0, h0.serving]
    · rw [h1.serving, hpc1]
  · cases x
    · rw [hpc0]
      exact h0.lost hx
    · exact h1.lost ((congrArg Option.isSome h0.station).trans hx)
  · cases x
    · rw [hpc0, h0.plain hx]
    · rw [h1.plain (by rwa [hpc1]), hpc1]

/-! ## The retune of a channel that gains a station (05 R90, R93) -/

theorem freqOf_of_slots {c d : Cabin} (hs : d.table.slots = c.table.slots) (h : StationId) : freqOf d h = freqOf c h := by
  rw [freqOf, freqOf, station_of_slots hs]

/-- The channel has a station that `old` did not give it. -/
def Gained (old c : Cabin) (x : Chan) : Prop := (old.chan x).station ≠ (c.chan x).station ∧ (c.chan x).station.isSome = true

/-- What the retune of `x` leaves, if `x` has gained its station. -/
structure RetuneBegun (old : Cabin) (x : Chan) (c d : Cabin) : Prop where
  chan_other : d.chan x.other = c.chan x.other
  gained : Gained old c x → d.chan x = retuningChan (c.chan x)
  kept : ¬ Gained old c x → d.chan x = c.chan x
  tuner : Gained old c x → ∀ h u, (c.chan x).station = some h → (c.chan x).serving = some u →
    d.tuner u = retuningTuner c.alloc.stopped (freqOf c h) (c.tuner u)
  tuner_other : ∀ u, (c.chan x).serving ≠ some u → d.tuner u = c.tuner u
  role : ∀ u, (d.tuner u).role = (c.tuner u).role

theorem retuneIfGained_begun (old : Cabin) {x : Chan} {c : Cabin}
    (hserving : (c.chan x).serving.isSome = (c.chan x).station.isSome) : RetuneBegun old x c (retuneIfGained old x c) := by
  by_cases hg : Gained old c x
  · obtain ⟨h, hx⟩ := Option.isSome_iff_exists.mp hg.2
    obtain ⟨u, hu⟩ := Option.isSome_iff_exists.mp (hserving.trans hg.2)
    have heq : retuneIfGained old x c =
        setTuner u (retuningTuner c.alloc.stopped (freqOf c h) (c.tuner u)) (setChan x (retuningChan (c.chan x)) c) := by
      rw [← beginRetune_eq hx hu]
      exact if_pos hg
    rw [heq]
    refine ⟨by simp, fun _ => by simp, fun hn => absurd hg hn, fun _ g v hg' hv => ?_, fun v hv => ?_, fun v => ?_⟩
    · obtain rfl := Option.some.inj (hx.symm.trans hg')
      obtain rfl := Option.some.inj (hu.symm.trans hv)
      simp
    · rcases tuner_eq_or_other v u with rfl | rfl
      · exact absurd hu hv
      · simp
    · rcases tuner_eq_or_other v u with rfl | rfl <;> simp [retuningTuner]
  · have heq : retuneIfGained old x c = c := if_neg hg
    rw [heq]
    exact ⟨rfl, fun h => absurd h hg, fun _ => rfl, fun h => absurd h hg, fun _ _ => rfl, fun _ => rfl⟩

/-- The cabin with the roles settled and the retunes of the gained stations begun. -/
def retunedCabin (n : Option StationId × Option StationId) (c : Cabin) : Cabin :=
  retuneIfGained c .pc1 (retuneIfGained c .pc0 (settleRoles (supportedCabin n c)))

/-- What both retunes leave. -/
structure RetunesBegun (old c d : Cabin) : Prop where
  gained : ∀ x, Gained old c x → d.chan x = retuningChan (c.chan x)
  kept : ∀ x, ¬ Gained old c x → d.chan x = c.chan x
  tuner : ∀ x, Gained old c x → ∀ h u, (c.chan x).station = some h → (c.chan x).serving = some u →
    d.tuner u = retuningTuner c.alloc.stopped (freqOf c h) (c.tuner u)
  role : ∀ u, (d.tuner u).role = (c.tuner u).role

theorem retunesBegun_both (old : Cabin) {c : Cabin} (hserving : ∀ x, (c.chan x).serving.isSome = (c.chan x).station.isSome)
    (hdiffer : ∀ u, (c.chan .pc0).serving = some u → (c.chan .pc1).serving ≠ some u) :
    RetunesBegun old c (retuneIfGained old .pc1 (retuneIfGained old .pc0 c)) := by
  have h0 := retuneIfGained_begun old (hserving .pc0)
  have hpc1 : (retuneIfGained old .pc0 c).chan .pc1 = c.chan .pc1 := h0.chan_other
  have h1 := retuneIfGained_begun old (x := .pc1) (c := retuneIfGained old .pc0 c) (by rw [hpc1]; exact hserving .pc1)
  have hpc0 : (retuneIfGained old .pc1 (retuneIfGained old .pc0 c)).chan .pc0 = (retuneIfGained old .pc0 c).chan .pc0 :=
    h1.chan_other
  have hgained : Gained old (retuneIfGained old .pc0 c) .pc1 ↔ Gained old c .pc1 := by unfold Gained; rw [hpc1]
  refine ⟨fun x hx => ?_, fun x hx => ?_, fun x hx h u hstation hu => ?_, fun u => (h1.role u).trans (h0.role u)⟩
  · cases x
    · rw [hpc0, h0.gained hx]
    · rw [h1.gained (hgained.mpr hx), hpc1]
  · cases x
    · rw [hpc0, h0.kept hx]
    · rw [h1.kept (mt hgained.mp hx), hpc1]
  · cases x
    · rw [h1.tuner_other u (by rw [hpc1]; exact hdiffer u hu), h0.tuner hx h u hstation hu]
    · have hfree : (c.chan .pc0).serving ≠ some u := fun h' => hdiffer u h' hu
      have hfreq : freqOf (retuneIfGained old .pc0 c) h = freqOf c h :=
        freqOf_of_slots (by simp) h
      rw [h1.tuner (hgained.mpr hx) h u (by rwa [hpc1]) (by rwa [hpc1]), h0.tuner_other u hfree, hfreq,
        retuneIfGained_stopped]

/-! ## The channels after an assignment -/

section Applied

variable {c : Cabin} (hfit : RolesFit c) (n : Option StationId × Option StationId)

theorem supportedCabin_station (x : Chan) : ((supportedCabin n c).chan x).station = assignedTo n x := by
  rw [supportedCabin, (supported_both _).station, assignedCabin_chan, assignedChan_station]

theorem gained_iff (x : Chan) : Gained c (settleRoles (supportedCabin n c)) x ↔
    (c.chan x).station ≠ assignedTo n x ∧ (assignedTo n x).isSome = true := by
  rw [Gained, settleRoles_chan, supportedCabin_station]

/-- A channel whose station changes is assigned afresh. -/
theorem supportedCabin_changed {x : Chan} (hx : (c.chan x).station ≠ assignedTo n x) :
    (supportedCabin n c).chan x = assignedChan (c.chan x) (assignedTo n x) (servingOf c n x) := by
  have hplain := (supported_both (assignedCabin n c)).plain x
  rw [assignedCabin_chan] at hplain
  exact hplain (assignedChan_plain hx)

include hfit

theorem supportedCabin_serving (x : Chan) : ((supportedCabin n c).chan x).serving = servingOf c n x := by
  rw [supportedCabin, (supported_both _).serving, assignedCabin_serving hfit]

theorem retunedCabin_begun : RetunesBegun c (settleRoles (supportedCabin n c)) (retunedCabin n c) := by
  refine retunesBegun_both c (fun x => ?_) fun u => ?_
  · rw [settleRoles_chan, supportedCabin_serving hfit, supportedCabin_station, servingOf_isSome]
  · rw [settleRoles_chan, settleRoles_chan, supportedCabin_serving hfit, supportedCabin_serving hfit]
    exact servingOf_differ hfit

theorem retunedCabin_serving (x : Chan) : ((retunedCabin n c).chan x).serving = servingOf c n x := by
  have hbegun := retunedCabin_begun hfit n
  rw [← supportedCabin_serving hfit]
  by_cases hg : Gained c (settleRoles (supportedCabin n c)) x
  · rw [hbegun.gained x hg, settleRoles_chan]
    rfl
  · rw [hbegun.kept x hg, settleRoles_chan]

theorem retunedCabin_station (x : Chan) : ((retunedCabin n c).chan x).station = assignedTo n x := by
  have hbegun := retunedCabin_begun hfit n
  rw [← supportedCabin_station]
  by_cases hg : Gained c (settleRoles (supportedCabin n c)) x
  · rw [hbegun.gained x hg, settleRoles_chan]
    rfl
  · rw [hbegun.kept x hg, settleRoles_chan]

/-- A channel that loses its station is free, its last quality standing (05 R87). -/
theorem retunedCabin_freed {x : Chan} (hn : assignedTo n x = none) (hx : (c.chan x).station ≠ none) :
    (retunedCabin n c).chan x = { freeChan with quality := (c.chan x).quality, measured := (c.chan x).measured } := by
  have hchanged : (c.chan x).station ≠ assignedTo n x := by rwa [hn]
  have hnone : servingOf c n x = none := by
    have := servingOf_isSome (c := c) (n := n) x
    rw [hn] at this
    exact Option.isNone_iff_eq_none.mp (Option.isSome_eq_false_iff.mp this)
  rw [(retunedCabin_begun hfit n).kept x (by rw [gained_iff, hn]; simp), settleRoles_chan,
    supportedCabin_changed n hchanged, assignedChan, if_neg hchanged, hn, hnone]
  rfl

/-- A channel that gains a station begins its retune, and has no quality until it is measured (05 R90, R93, R102). -/
theorem retunedCabin_gained {x : Chan} {h : StationId} (hn : assignedTo n x = some h) (hx : (c.chan x).station ≠ some h) :
    (retunedCabin n c).chan x = { freeChan with
      station := some h, serving := servingOf c n x, retuning := true, quality := (c.chan x).quality } ∧
    ∃ u, servingOf c n x = some u ∧ (retunedCabin n c).tuner u =
      retuningTuner c.alloc.stopped (freqOf c h) ((settleRoles (supportedCabin n c)).tuner u) := by
  have hchanged : (c.chan x).station ≠ assignedTo n x := by rwa [hn]
  have hg : Gained c (settleRoles (supportedCabin n c)) x := (gained_iff n x).mpr ⟨hchanged, by rw [hn]; rfl⟩
  have hbegun := retunedCabin_begun hfit n
  refine ⟨?_, ?_⟩
  · rw [hbegun.gained x hg, settleRoles_chan, supportedCabin_changed n hchanged, assignedChan, if_neg hchanged, hn]
    rfl
  · obtain ⟨u, hu⟩ := Option.isSome_iff_exists.mp ((servingOf_isSome (c := c) (n := n) x).trans (by rw [hn]; rfl))
    refine ⟨u, hu, ?_⟩
    have hfreq : freqOf (settleRoles (supportedCabin n c)) h = freqOf c h :=
      freqOf_of_slots (by simp [supportedCabin, assignedCabin]) h
    have hstop : (settleRoles (supportedCabin n c)).alloc.stopped = c.alloc.stopped := by
      simp [supportedCabin, assignedCabin]
    rw [hbegun.tuner x hg h u (by rw [settleRoles_chan, supportedCabin_station, hn])
      (by rw [settleRoles_chan, supportedCabin_serving hfit, hu]), hfreq, hstop]

/-- The roles fit the channels after an assignment (05 R92). -/
theorem retunedCabin_rolesFit : RolesFit (retunedCabin n c) := by
  have hbegun := retunedCabin_begun hfit n
  have hsupported := supported_both (assignedCabin n c)
  obtain ⟨hc1, hc2, hc3, hroles, hscan⟩ := hfit
  have hfit : RolesFit c := ⟨hc1, hc2, hc3, hroles, hscan⟩
  have hassignedRole : ∀ u, ((assignedCabin n c).tuner u).role = (c.tuner u).role := fun u =>
    congrArg Tuner.role (tuner_of_tuners (c := c) (by simp [assignedCabin]) u)
  obtain ⟨hsettled, honce⟩ := settleRoles_settled (c := supportedCabin n c) fun h0 h1 =>
    hscan ((hassignedRole .t0).symm.trans ((hsupported.role .t0).symm.trans h0))
      ((hassignedRole .t1).symm.trans ((hsupported.role .t1).symm.trans h1))
  have hrole : ∀ u, ((retunedCabin n c).tuner u).role = desiredRole (supportedCabin n c) u := fun u => by
    rw [hbegun.role, settleRoles_role]
  refine ⟨fun x => ?_, fun u => ?_, fun x hx => ?_, fun u => ?_, ?_⟩
  · rw [retunedCabin_serving hfit, retunedCabin_station hfit, servingOf_isSome]
  · rw [retunedCabin_serving hfit, retunedCabin_serving hfit]
    exact servingOf_differ hfit
  · rw [retunedCabin_station hfit]
    by_contra hother
    have hsome : ((assignedCabin n c).chan x.other).station.isSome = true := by
      rw [assignedCabin_chan, assignedChan_station]
      exact Option.isSome_iff_ne_none.mpr hother
    obtain ⟨hdiv, hborrow⟩ := hsupported.lost x hsome
    by_cases hg : Gained c (settleRoles (supportedCabin n c)) x
    · rw [hbegun.gained x hg] at hx
      simp [retuningChan, borrowing] at hx
    · rw [hbegun.kept x hg, settleRoles_chan] at hx
      rcases hx with hx | hx
      · exact absurd (hdiv.symm.trans hx) (by decide)
      · exact absurd (hborrow.symm.trans hx) (by decide)
  · rw [hrole, ← hsettled]
    refine (desiredRole_congr (fun x => ?_) (fun x => ?_) (by simp [retunedCabin]) (by simp [retunedCabin]) hbegun.role u).symm
    · rw [retunedCabin_serving hfit, settleRoles_chan, supportedCabin_serving hfit]
    · by_cases hg : Gained c (settleRoles (supportedCabin n c)) x
      · have hchanged := ((gained_iff n x).mp hg).1
        have hplain : Plain ((supportedCabin n c).chan x) := by
          rw [supportedCabin_changed n hchanged]
          exact assignedChan_plain hchanged
        rw [hbegun.gained x hg, settleRoles_chan, hplain.supportRole]
        simp [supportRole, borrowing, retuningChan]
      · rw [hbegun.kept x hg]
  · rw [hrole, hrole]
    exact honce

end Applied

/-! ## The channels after the arbitration -/

theorem applyAssignment_eq (n : Option StationId × Option StationId) (c : Cabin) : applyAssignment n c =
    staleIfMoved c n.1 (staleIfMoved c n.2 (staleIfMoved c (c.chan .pc0).station (staleIfMoved c (c.chan .pc1).station
      (testTraffic (endUncarried (retunedCabin n c)))))) := rfl

theorem applyAssignment_alloc (n : Option StationId × Option StationId) (c : Cabin) :
    (applyAssignment n c).alloc = (retunedCabin n c).alloc := by simp [applyAssignment_eq]

theorem applyAssignment_chan (n : Option StationId × Option StationId) (c : Cabin) (x : Chan) :
    (applyAssignment n c).chan x = (retunedCabin n c).chan x := chan_of_chans (by rw [applyAssignment_alloc]) x

theorem applyAssignment_tuner (n : Option StationId × Option StationId) (c : Cabin) (u : TunerId) :
    (applyAssignment n c).tuner u = (retunedCabin n c).tuner u := tuner_of_tuners (by rw [applyAssignment_alloc]) u

theorem RolesFit.of_alloc {c d : Cabin} (h : RolesFit c) (halloc : d.alloc = c.alloc) (hpart : d.ports.part = c.ports.part) :
    RolesFit d := by
  have hchan : ∀ x, d.chan x = c.chan x := chan_of_chans (by rw [halloc])
  have htuner : ∀ u, d.tuner u = c.tuner u := tuner_of_tuners (by rw [halloc])
  have hrole : ∀ u, desiredRole d u = desiredRole c u := desiredRole_congr (fun x => by rw [hchan]) (fun x => by rw [hchan])
    hpart (by rw [halloc]) (fun u => by rw [htuner])
  unfold RolesFit
  simp only [hchan, htuner, hrole]
  exact h

theorem applyAssignment_rolesFit {c : Cabin} (hfit : RolesFit c) (n : Option StationId × Option StationId) :
    RolesFit (applyAssignment n c) :=
  (retunedCabin_rolesFit hfit n).of_alloc (applyAssignment_alloc n c) (by simp [applyAssignment_eq])

end Sys2Proof.Machine
end

section
/-! SUPPORT. The queue and the zones after an assignment (03 R44, 06 R116, R117). -/

namespace Sys2Proof.Machine

/-! ## What the traffic tests and the UNCARRIED endings keep -/

/-- A property of cabins that the steps of a traffic test keep. -/
structure QueueKept (P : Cabin → Prop) : Prop where
  refresh : ∀ {c}, P c → P (refreshSound c)
  post : ∀ {c}, P c → P (postBoth .traffic c)
  modify : ∀ {c} i t, P c → P (modifyEntry i (fun e => { e with targets := t }) c)
  put : ∀ {c} i h x t, P c → (c.entrySlot i).entry = none → (c.chan x).station = some h →
    P (putEntry i (.traffic h x) 3 t trafficLimit c)
  displace : ∀ {c} i e, P c → (c.entrySlot i).entry = some e → e.priority < 3 → P (removeEntry i e .displaced c)

/-- One step of the UNCARRIED endings. -/
def endIfUncarried (i : Fin 8) (c : Cabin) : Cabin :=
  match (c.entrySlot i).entry with
  | none => c
  | some e =>
    match e.kind with
    | .traffic h _ => if carried c h then c else endEntry i .uncarried c
    | _ => c

theorem endUncarried_eq (c : Cabin) : endUncarried c = (List.finRange 8).foldl (fun c i => endIfUncarried i c) c := rfl

section Kept

variable {P : Cabin → Prop} (hP : QueueKept P) {c : Cabin} (hc : P c)
include hP hc

theorem QueueKept.admitEntry {h : StationId} {x : Chan} (hx : (c.chan x).station = some h) (t : ZoneSet) :
    P (admitEntry (.traffic h x) 3 t trafficLimit c).1 := by
  unfold Machine.admitEntry
  split
  · next i hi =>
    dsimp only
    exact hP.refresh (hP.put i h x t hc (admission_takes hi) hx)
  · next i e hi =>
    obtain ⟨he, hlow⟩ := admission_displaces hi
    have hslot := (entrySlot_of_slots (refreshSound_slots (removeEntry i e .displaced c)) i).trans
      (removeEntry_entrySlot i i e .displaced c)
    rw [if_pos rfl] at hslot
    have hchan := chan_of_chans (d := refreshSound (removeEntry i e .displaced c)) (c := c) (by simp) x
    have hremoved := hP.refresh (hP.displace i e hc he hlow)
    dsimp only
    generalize refreshSound (removeEntry i e .displaced c) = d at hslot hchan hremoved ⊢
    exact hP.refresh (hP.put i h x t hremoved (by rw [hslot]) (by rwa [hchan]))
  · exact hc

theorem QueueKept.testTrafficOn (x : Chan) : P (testTrafficOn x c) := by
  unfold Machine.testTrafficOn
  split
  · exact hc
  · next h hx =>
    split
    · unfold retarget
      split
      · exact hc
      · exact hP.refresh (hP.modify _ _ hc)
    · split
      · have hadmit := hP.admitEntry hc hx (trafficTargets c h)
        split
        · next hr =>
          rw [hr] at hadmit
          exact hP.post hadmit
        · next hr =>
          rw [hr] at hadmit
          exact hadmit
      · exact hc

theorem QueueKept.testTraffic : P (testTraffic c) := hP.testTrafficOn (hP.testTrafficOn hc .pc0) .pc1

end Kept

/-- A bulletin whose station is not carried may be removed. -/
def KeepsUncarried (P : Cabin → Prop) : Prop :=
  ∀ {c i e h x}, P c → (c.entrySlot i).entry = some e → e.kind = .traffic h x → carried c h = false →
    P (removeEntry i e .uncarried c)

theorem QueueKept.endIfUncarried {P : Cabin → Prop} (hP : QueueKept P) (hend : KeepsUncarried P) {c : Cabin} (hc : P c)
    (i : Fin 8) : P (endIfUncarried i c) := by
  unfold Machine.endIfUncarried
  split
  · exact hc
  · next e he =>
    split
    · next h x hk =>
      split
      · exact hc
      · next hcarried =>
        unfold endEntry
        rw [he]
        exact hP.testTraffic (hP.refresh (hend hc he hk (Bool.eq_false_of_not_eq_true hcarried)))
    · exact hc

theorem QueueKept.endUncarriedIn {P : Cabin → Prop} (hP : QueueKept P) (hend : KeepsUncarried P) (l : List (Fin 8))
    {c : Cabin} (hc : P c) : P (l.foldl (fun c i => Machine.endIfUncarried i c) c) := by
  induction l generalizing c with
  | nil => exact hc
  | cons i l ih => exact ih (hP.endIfUncarried hend hc i)

/-! ## The shares of the zones -/

/-- The recorded state and the contributions of every zone are those of `c`. -/
def SharesSame (c d : Cabin) : Prop :=
  ∀ z, (d.mixZone z).recorded = (c.mixZone z).recorded ∧ (d.mixZone z).routes = (c.mixZone z).routes ∧
    (d.mixZone z).leaving = (c.mixZone z).leaving

theorem SharesSame.of_zones {c d e : Cabin} (h : SharesSame c d) (hz : e.mix.zones = d.mix.zones) : SharesSame c e :=
  fun z => by
    rw [mixZone_of_zones hz]
    exact h z

theorem SharesSame.refreshSound {c d : Cabin} (h : SharesSame c d) : SharesSame c (refreshSound d) := by
  have hduck : SharesSame c (mapMixZones (refreshMixZone d) d) := fun z => by
    obtain ⟨hr, hp, hl⟩ := updateOverlays_shares (d.zone z).present
      { d.mixZone z with audible := audibleEntry d z, listened := listenedCall d z }
    obtain ⟨gr, gp, gl⟩ := h z
    rw [mapMixZones_mixZone]
    exact ⟨hr.trans gr, hp.trans gp, hl.trans gl⟩
  exact hduck.of_zones (by simp [Machine.refreshSound, refreshDuck])

theorem sharesSame_queueKept (c : Cabin) : QueueKept (SharesSame c) where
  refresh := fun h => h.refreshSound
  post := fun h => h.of_zones (by simp)
  modify := fun _ _ h => h.of_zones (by simp)
  put := fun _ _ _ _ h _ _ => h.of_zones (by simp)
  displace := fun _ _ h _ _ => h.of_zones (by simp)

theorem sharesSame_uncarried (c : Cabin) : KeepsUncarried (SharesSame c) := fun h _ _ _ => h.of_zones (by simp)

theorem applyAssignment_sharesSame (n : Option StationId × Option StationId) (c : Cabin) :
    SharesSame c (applyAssignment n c) := by
  have hretuned : SharesSame c (retunedCabin n c) := fun z => by
    rw [mixZone_of_zones (c := c) (by simp [retunedCabin, supportedCabin, assignedCabin])]
    exact ⟨rfl, rfl, rfl⟩
  have hkept := sharesSame_queueKept c
  have htested := hkept.testTraffic (hkept.endUncarriedIn (sharesSame_uncarried c) (List.finRange 8) hretuned)
  exact htested.of_zones (by simp [applyAssignment_eq, endUncarried_eq])

/-! ## The end of a bulletin whose station loses its channel (06 R117) -/

theorem removeEntry_shows {i : Fin 8} {e : Entry} {h : StationId} {x : Chan} (hk : e.kind = .traffic h x)
    (reason : EndReason) {c : Cabin} (hp : c.ports.part.posts = true) :
    EventSet.has ((removeEntry i e reason c).ports.events.get .front) .announce = true ∧
    ∀ p, EventSet.has ((removeEntry i e reason c).ports.events.get p) .traffic = true := by
  unfold removeEntry
  extract_lets id freed ended posted
  have hposted : posted = postBoth .traffic ended := if_pos (by rw [hk]; rfl)
  have hannounce : EventSet.has (ended.ports.events.get .front) .announce = true :=
    post_shows (c := recordEnd id e.kind reason freed) hp .front .announce
  have hshows : EventSet.has (posted.ports.events.get .front) .announce = true ∧
      ∀ p, EventSet.has (posted.ports.events.get p) .traffic = true := by
    rw [hposted]
    exact ⟨(postBoth_undisturbed ended .traffic).events _ _ hannounce,
      fun p => postBoth_shows (by simpa [ended, freed] using hp) p .traffic⟩
  split
  · have hkept := (toneDisplaced_undisturbed id posted).events
    exact ⟨hkept _ _ hshows.1, fun p => hkept p _ (hshows.2 p)⟩
  · exact hshows

/-- The slot has lost the bulletin that it held at generation `g`: it is free, or holds a bulletin of a carried station. -/
structure Vacated (j : Fin 8) (g : Fin 16) (c : Cabin) : Prop where
  gen : (c.entrySlot j).gen = g + 1
  fresh : ∀ e, (c.entrySlot j).entry = some e → e.priority = 3 ∧ ∃ h x, e.kind = .traffic h x ∧ carried c h = true
  shows : c.ports.part.posts = true → EventSet.has (c.ports.events.get .front) .announce = true ∧
    ∀ p, EventSet.has (c.ports.events.get p) .traffic = true

/-- The slot holds the bulletin of `h` still, at generation `g`. -/
def Stands (j : Fin 8) (g : Fin 16) (h : StationId) (c : Cabin) : Prop :=
  (c.entrySlot j).gen = g ∧ ∃ e x, (c.entrySlot j).entry = some e ∧ e.kind = .traffic h x

/-- On the way: the bulletin has gone, or while `standing` it stands; the channels are those of `o`. -/
structure Passing (o : Cabin) (j : Fin 8) (g : Fin 16) (h : StationId) (standing : Bool) (c : Cabin) : Prop where
  chans : c.alloc.chans = o.alloc.chans
  slot : Vacated j g c ∨ (standing = true ∧ Stands j g h c)

theorem carried_of_chans {c d : Cabin} (h : d.alloc.chans = c.alloc.chans) (g : StationId) : carried d g = carried c g := by
  simp only [carried, chanOf, chan_of_chans h]

section Passing

variable {o : Cabin} {j : Fin 8} {g : Fin 16} {h : StationId} {b : Bool} {c d : Cabin}

/-- A step that leaves generation, kind and priority in the slot. -/
theorem Passing.of_slot (hc : Passing o j g h b c) (hchans : d.alloc.chans = c.alloc.chans)
    (hpart : d.ports.part = c.ports.part) (hev : EventsKept c d) (hgen : (d.entrySlot j).gen = (c.entrySlot j).gen)
    (hentry : (d.entrySlot j).entry.map (fun e => (e.kind, e.priority)) =
      (c.entrySlot j).entry.map (fun e => (e.kind, e.priority))) : Passing o j g h b d := by
  refine ⟨hchans.trans hc.chans, hc.slot.imp (fun hv => ⟨hgen.trans hv.gen, fun e he => ?_, fun hp => ?_⟩) fun hs => ?_⟩
  · rw [he] at hentry
    obtain ⟨a, ha, hsame⟩ := Option.map_eq_some_iff.mp hentry.symm
    obtain ⟨hk, hpr⟩ := Prod.mk.inj hsame
    obtain ⟨hthree, g', x, hkind, hcarried⟩ := hv.fresh a ha
    exact ⟨hpr ▸ hthree, g', x, hk ▸ hkind, by rwa [carried_of_chans hchans]⟩
  · obtain ⟨hannounce, htraffic⟩ := hv.shows (by rwa [← hpart])
    exact ⟨hev _ _ hannounce, fun p => hev p _ (htraffic p)⟩
  · obtain ⟨hstanding, hgen', e, x, he, hk⟩ := hs
    rw [he] at hentry
    obtain ⟨a, ha, hsame⟩ := Option.map_eq_some_iff.mp hentry
    exact ⟨hstanding, hgen.trans hgen', a, x, ha, (Prod.mk.inj hsame).1.trans hk⟩

theorem Passing.of_slots (hc : Passing o j g h b c) (hchans : d.alloc.chans = c.alloc.chans)
    (hpart : d.ports.part = c.ports.part) (hev : EventsKept c d) (hs : d.queue.slots = c.queue.slots) :
    Passing o j g h b d :=
  hc.of_slot hchans hpart hev (by rw [entrySlot_of_slots hs]) (by rw [entrySlot_of_slots hs])

/-- A new bulletin of a carried station takes a free slot. -/
theorem Passing.putEntry (hc : Passing o j g h b c) {i : Fin 8} {g' : StationId} {x : Chan} (t : ZoneSet)
    (hfree : (c.entrySlot i).entry = none) (hx : (c.chan x).station = some g') :
    Passing o j g h b (putEntry i (.traffic g' x) 3 t trafficLimit c) := by
  have hslot := putEntry_entrySlot i j (.traffic g' x) 3 t trafficLimit c
  by_cases hji : j = i
  · subst hji
    rw [if_pos rfl] at hslot
    refine ⟨hc.chans, .inl ?_⟩
    rcases hc.slot with hv | ⟨-, -, e, y, he, -⟩
    · refine ⟨by rw [hslot]; exact hv.gen, fun e he => ?_, hv.shows⟩
      rw [hslot] at he
      obtain rfl := Option.some.inj he
      exact ⟨rfl, g', x, rfl, carried_iff.mpr ⟨x, hx⟩⟩
    · rw [hfree] at he
      cases he
  · rw [if_neg hji] at hslot
    exact hc.of_slot rfl rfl (fun _ _ he => he) (by rw [hslot]) (by rw [hslot])

/-- An entry leaves another slot. -/
theorem Passing.removeEntry_other (hc : Passing o j g h b c) {i : Fin 8} (hji : j ≠ i) (e : Entry) (reason : EndReason) :
    Passing o j g h b (removeEntry i e reason c) := by
  have hslot := removeEntry_entrySlot i j e reason c
  rw [if_neg hji] at hslot
  exact hc.of_slot (by simp) (by simp) (removeEntry_undisturbed ..).events (by rw [hslot]) (by rw [hslot])

/-- The bulletin that stands is removed. -/
theorem Passing.removeEntry_self (hc : Passing o j g h b c) {e : Entry} (he : (c.entrySlot j).entry = some e)
    (hnew : ¬ (e.priority = 3 ∧ ∃ h x, e.kind = .traffic h x ∧ carried c h = true)) (reason : EndReason) (b' : Bool) :
    Passing o j g h b' (removeEntry j e reason c) := by
  have hslot := removeEntry_entrySlot j j e reason c
  rw [if_pos rfl] at hslot
  rcases hc.slot with hv | ⟨-, hgen, a, x, ha, hk⟩
  · exact absurd (hv.fresh e he) hnew
  · obtain rfl := Option.some.inj (he.symm.trans ha)
    refine ⟨by simpa using hc.chans, .inl ⟨by rw [hslot, hgen], fun a ha => ?_, fun hp => ?_⟩⟩
    · rw [hslot] at ha
      cases ha
    · exact removeEntry_shows hk reason (by simpa using hp)

theorem passing_queueKept (o : Cabin) (j : Fin 8) (g : Fin 16) (h : StationId) (b : Bool) : QueueKept (Passing o j g h b) where
  refresh := fun hc => hc.of_slots (by simp) (by simp) (refreshSound_undisturbed _).events (by simp)
  post := fun hc => hc.of_slots (by simp) (by simp) (postBoth_undisturbed ..).events (by simp)
  modify := fun {c} i t hc => by
    refine hc.of_slot (by simp) (by simp) (fun p k hk => by simpa using hk) ?_ ?_
    all_goals
      unfold modifyEntry
      split
      · rfl
      · next e he =>
        rw [setEntrySlot_entrySlot]
        split
        · next hj => simp [hj, he]
        · rfl
  put := fun i g' x t hc hfree hx => hc.putEntry t hfree hx
  displace := fun i e hc he hlow => by
    by_cases hji : j = i
    · subst hji
      exact hc.removeEntry_self he (fun hnew => by omega) .displaced b
    · exact hc.removeEntry_other hji e .displaced

theorem passing_uncarried (o : Cabin) (j : Fin 8) (g : Fin 16) (h : StationId) (b : Bool) :
    KeepsUncarried (Passing o j g h b) := by
  intro c i e h' x hc he hk hlost
  by_cases hji : j = i
  · subst hji
    refine hc.removeEntry_self he (fun ⟨_, g', y, hk', hcarried⟩ => ?_) .uncarried b
    rw [hk] at hk'
    obtain ⟨rfl, -⟩ := EntryKind.traffic.inj hk'
    exact absurd (hlost.symm.trans hcarried) (by decide)
  · exact hc.removeEntry_other hji e .uncarried

/-- At its own slot an uncarried bulletin ends. -/
theorem Passing.endIfUncarried_self (hc : Passing o j g h b c) (hlost : carried o h = false) :
    Passing o j g h false (endIfUncarried j c) := by
  have hkept := passing_queueKept o j g h false
  rcases hc.slot with hv | ⟨-, hgen, e, x, he, hk⟩
  · exact hkept.endIfUncarried (passing_uncarried o j g h false) ⟨hc.chans, .inl hv⟩ j
  · have hlost' : carried c h = false := by rwa [carried_of_chans hc.chans]
    have hremoved := hc.removeEntry_self he (fun ⟨_, g', y, hk', hcarried⟩ => by
      rw [hk] at hk'
      obtain ⟨rfl, -⟩ := EntryKind.traffic.inj hk'
      exact absurd (hlost'.symm.trans hcarried) (by decide)) .uncarried false
    have heq : endIfUncarried j c = testTraffic (refreshSound (removeEntry j e .uncarried c)) := by
      simp only [endIfUncarried, he, hk, hlost', endEntry]
      rfl
    rw [heq]
    exact hkept.testTraffic (hkept.refresh hremoved)

/-- After the UNCARRIED endings no uncarried bulletin stands. -/
theorem endUncarried_vacates (hs : Stands j g h o) (hlost : carried o h = false) :
    Passing o j g h false (endUncarried o) := by
  obtain ⟨pre, post, hsplit⟩ := List.append_of_mem (List.mem_finRange j)
  rw [endUncarried_eq, hsplit, List.foldl_append, List.foldl_cons]
  have hstart : Passing o j g h true o := ⟨rfl, .inr ⟨rfl, hs⟩⟩
  have hbefore := (passing_queueKept o j g h true).endUncarriedIn (passing_uncarried o j g h true) pre hstart
  exact (passing_queueKept o j g h false).endUncarriedIn (passing_uncarried o j g h false) post
    (hbefore.endIfUncarried_self hlost)

end Passing

theorem applyAssignment_vacates {n : Option StationId × Option StationId} {c : Cabin} {j : Fin 8} {e : Entry}
    {h : StationId} {x : Chan} (he : (c.entrySlot j).entry = some e) (hk : e.kind = .traffic h x)
    (hlost : carried (applyAssignment n c) h = false) : Vacated j (c.entrySlot j).gen (applyAssignment n c) := by
  have hslot := entrySlot_of_slots (c := c) (d := retunedCabin n c)
    (by simp [retunedCabin, supportedCabin, assignedCabin]) j
  have hstands : Stands j (c.entrySlot j).gen h (retunedCabin n c) :=
    ⟨by rw [hslot], e, x, by rw [hslot, he], hk⟩
  rw [carried_of_chans (c := retunedCabin n c) (by rw [applyAssignment_alloc])] at hlost
  have hkept := passing_queueKept (retunedCabin n c) j (c.entrySlot j).gen h false
  have htested := hkept.testTraffic (endUncarried_vacates hstands hlost)
  have hpassing := htested.of_slots (d := applyAssignment n c) (by simp [applyAssignment_eq]) (by simp [applyAssignment_eq])
    (fun p k hk => by simpa [applyAssignment_eq] using hk) (by simp [applyAssignment_eq])
  exact hpassing.slot.resolve_right fun ⟨hf, _⟩ => Bool.false_ne_true hf

/-! ## The traffic conditions (06 R116) -/

theorem applyAssignment_tested {c : Cabin} (hf : PrioritiesFit c) (n : Option StationId × Option StationId) :
    TrafficTested (applyAssignment n c) := by
  have hretuned : BulletinsCome c (retunedCabin n c) :=
    .of_queue (by simp [retunedCabin, supportedCabin, assignedCabin]) (by simp [retunedCabin, supportedCabin, assignedCabin])
  have htested := testTraffic_tested ((hretuned.only (endUncarried_onlyBulletins _)).prioritiesFit hf)
  exact htested.of_same (.of_eq (by simp [applyAssignment_eq]) (by simp [applyAssignment_eq]) (by simp [applyAssignment_eq]))
    (by simp [applyAssignment_eq]) (by simp [applyAssignment_eq])

/-! ## The zones that become stale (03 R44) -/

/-- Mark the zones of those of the stations whose channel has changed. -/
def staleIfMovedAll (old : Cabin) (hs : List (Option StationId)) (c : Cabin) : Cabin := hs.foldr (staleIfMoved old) c

theorem applyAssignment_eq_staleIfMovedAll (n : Option StationId × Option StationId) (c : Cabin) : applyAssignment n c =
    staleIfMovedAll c [n.1, n.2, (c.chan .pc0).station, (c.chan .pc1).station]
      (testTraffic (endUncarried (retunedCabin n c))) := by
  simp only [applyAssignment_eq, staleIfMovedAll, List.foldr_cons, List.foldr_nil]

/-- The zone is linked to a list with a present route that names the station. -/
def HearsStation (c : Cabin) (z : Zone) (h : StationId) : Prop :=
  ∃ l k r, (c.zone z).list = some l ∧ (c.route l k).record = some r ∧ r.present = true ∧ r.source = .station h

theorem HearsStation.of_dir {c d : Cabin} {z : Zone} {h : StationId} (hz : HearsStation c z h) (hd : d.dir = c.dir) :
    HearsStation d z h := by
  obtain ⟨l, k, r, hl, hr, hp, hs⟩ := hz
  exact ⟨l, k, r, by rw [← hl]; simp only [Cabin.zone, hd], by rw [← hr]; simp only [Cabin.route, hd], hp, hs⟩

theorem markStationStale_stale {c : Cabin} {z : Zone} {h : StationId} (hz : HearsStation c z h) :
    (markStationStale h c).builder.stale.get z = true := by
  obtain ⟨l, k, r, hl, hr, hp, hs⟩ := hz
  have hnames : listNames c l (.station h) = true := by
    simp only [listNames, duplicateIn, List.any_eq_true]
    exact ⟨k, List.mem_finRange k, by simp [hr, hp, hs]⟩
  rw [markStationStale, markStaleWhere_stale, hl]
  dsimp only
  rw [hnames, Bool.true_or]

theorem staleIfMoved_stale {old c : Cabin} {z : Zone} {h : StationId} (hmoved : chanOf old h ≠ chanOf c h)
    (hz : HearsStation c z h) : (staleIfMoved old (some h) c).builder.stale.get z = true := by
  rw [staleIfMoved, if_pos hmoved]
  exact markStationStale_stale hz

theorem staleIfMovedAll_kept (old : Cabin) (hs : List (Option StationId)) (c : Cabin) :
    (staleIfMovedAll old hs c).dir = c.dir ∧ (staleIfMovedAll old hs c).alloc = c.alloc := by
  induction hs with
  | nil => exact ⟨rfl, rfl⟩
  | cons a l ih =>
    obtain ⟨hdir, halloc⟩ := ih
    exact ⟨(staleIfMoved_dir ..).trans hdir, (staleIfMoved_alloc ..).trans halloc⟩

theorem staleIfMovedAll_stale {old c : Cabin} {hs : List (Option StationId)} {z : Zone} {h : StationId} (hmem : some h ∈ hs)
    (hmoved : chanOf old h ≠ chanOf c h) (hz : HearsStation c z h) :
    (staleIfMovedAll old hs c).builder.stale.get z = true := by
  induction hs with
  | nil => cases hmem
  | cons a l ih =>
    rcases List.mem_cons.mp hmem with rfl | hmem
    · obtain ⟨hdir, halloc⟩ := staleIfMovedAll_kept old l c
      have hchan : chanOf (staleIfMovedAll old l c) h = chanOf c h := by
        simp only [chanOf, chan_of_chans (congrArg Allocator.chans halloc)]
      exact staleIfMoved_stale (c := staleIfMovedAll old l c) (by rwa [hchan]) (hz.of_dir hdir)
    · exact staleIfMoved_staleKept old a (staleIfMovedAll old l c) z (ih hmem)

theorem applyAssignment_stale {n : Option StationId × Option StationId} {c : Cabin} {z : Zone} {h : StationId}
    (hmoved : chanOf (applyAssignment n c) h ≠ chanOf c h) (hz : HearsStation c z h) :
    (applyAssignment n c).builder.stale.get z = true := by
  have hchan : chanOf (applyAssignment n c) h = chanOf (testTraffic (endUncarried (retunedCabin n c))) h := by
    simp only [chanOf, chan_of_chans (d := applyAssignment n c) (c := testTraffic (endUncarried (retunedCabin n c)))
      (by simp [applyAssignment_eq])]
  have hstation := applyAssignment_station n c
  have hmem : some h ∈ [n.1, n.2, (c.chan .pc0).station, (c.chan .pc1).station] := by
    rw [← hstation]
    cases hnew : chanOf (applyAssignment n c) h with
    | some x =>
      have hx := chan_of_chanOf hnew
      cases x <;> simp [hx]
    | none =>
      rw [hnew] at hmoved
      obtain ⟨x, hx⟩ := Option.ne_none_iff_exists'.mp hmoved.symm
      have hx := chan_of_chanOf hx
      cases x <;> simp [hx]
  rw [hchan] at hmoved
  rw [applyAssignment_eq_staleIfMovedAll]
  exact staleIfMovedAll_stale hmem hmoved.symm (hz.of_dir (by simp [retunedCabin, supportedCabin, assignedCabin]))

end Sys2Proof.Machine
end

section
/-! SUPPORT. The arbitration of the two programme channels as a whole (05 R88 to R93). -/

namespace Sys2Proof.Machine

theorem arbitrate_idle {c : Cabin} (h : c.builder.hold ≠ .running ∨ c.ports.part = .liteReset) : arbitrate c = c :=
  if_neg fun ⟨hhold, hpart⟩ => h.elim (fun hn => hn hhold) hpart

section Running

variable {c : Cabin} (hhold : c.builder.hold = .running) (hpart : c.ports.part ≠ .liteReset)
include hhold hpart

/-- An arbitration that changes a channel's station applies the new assignment. -/
theorem arbitrate_of_changed {x : Chan} (hx : ((arbitrate c).chan x).station ≠ (c.chan x).station) :
    arbitrate c = applyAssignment (newAssignment c) c := by
  rcases arbitrate_cases hhold hpart with ⟨-, heq⟩ | ⟨-, heq⟩
  · rw [heq] at hx
    exact absurd rfl hx
  · exact heq

theorem arbitrate_of_uncarried {h : StationId} (hbefore : carried c h = true) (hafter : carried (arbitrate c) h = false) :
    arbitrate c = applyAssignment (newAssignment c) c := by
  rcases arbitrate_cases hhold hpart with ⟨-, heq⟩ | ⟨-, heq⟩
  · rw [heq, hbefore] at hafter
    cases hafter
  · exact heq

theorem arbitrate_rolesFit (hfit : RolesFit c) : RolesFit (arbitrate c) := by
  rcases arbitrate_cases hhold hpart with ⟨-, heq⟩ | ⟨-, heq⟩
  · rwa [heq]
  · rw [heq]
    exact applyAssignment_rolesFit hfit _

theorem arbitrate_sharesSame : SharesSame c (arbitrate c) := by
  rcases arbitrate_cases hhold hpart with ⟨-, heq⟩ | ⟨-, heq⟩
  · rw [heq]
    exact fun z => ⟨rfl, rfl, rfl⟩
  · rw [heq]
    exact applyAssignment_sharesSame _ c

/-! ## The winners -/

theorem arbitrate_demanded {h : StationId} (hdiff : ChannelsDiffer c) (hh : carried (arbitrate c) h = true) :
    (c.station h).isSome = true ∧ (demand c h).isSome = true := by
  obtain ⟨p, hp⟩ := (winners_winning c).demanded ((arbitrate_carried hhold hpart hdiff).mp hh)
  obtain ⟨hlive, hdemand⟩ := mem_demanded.mp hp
  exact ⟨hlive, by rw [hdemand]; rfl⟩

theorem arbitrate_ahead {g h : StationId} {q : Nat} (hdiff : ChannelsDiffer c) (hg : carried (arbitrate c) g = false)
    (hlive : (c.station g).isSome = true) (hq : demand c g = some q) (hh : carried (arbitrate c) h = true) :
    ∃ p, demand c h = some p ∧ RanksAhead c (h, p) (g, q) := by
  have hlost : g ∉ winners c := fun hw => by
    rw [(arbitrate_carried hhold hpart hdiff).mpr hw] at hg
    cases hg
  obtain ⟨-, hahead⟩ := (winners_winning c).ahead (mem_demanded.mpr ⟨hlive, hq⟩) hlost
  obtain ⟨p, hp, hrank⟩ := hahead h ((arbitrate_carried hhold hpart hdiff).mp hh)
  exact ⟨p, (mem_demanded.mp hp).2, hrank⟩

/-- While a channel is free every demanded station is carried: two winners take both. -/
theorem arbitrate_carried_of_free {g : StationId} {x : Chan} (hdiff : ChannelsDiffer c)
    (hx : ((arbitrate c).chan x).station = none) (hlive : (c.station g).isSome = true)
    (hdemand : (demand c g).isSome = true) : carried (arbitrate c) g = true := by
  rw [arbitrate_carried hhold hpart hdiff]
  by_contra hlost
  obtain ⟨q, hq⟩ := Option.isSome_iff_exists.mp hdemand
  obtain ⟨hlength, -⟩ := (winners_winning c).ahead (mem_demanded.mpr ⟨hlive, hq⟩) hlost
  obtain ⟨a, b, hws⟩ := List.length_eq_two.mp hlength
  have hab : a ≠ b := by
    have hnodup := (winners_winning c).nodup
    rw [hws] at hnodup
    simpa using hnodup
  obtain ⟨y, hy⟩ := assignedTo_of_winner hdiff (h := a) (by simp [hws])
  obtain ⟨z, hz⟩ := assignedTo_of_winner hdiff (h := b) (by simp [hws])
  rw [arbitrate_chan_station hhold hpart] at hx
  have hyx := (chan_eq_or_other y x).resolve_left fun he => by rw [he, hx] at hy; cases hy
  have hzx := (chan_eq_or_other z x).resolve_left fun he => by rw [he, hx] at hz; cases hz
  rw [hyx] at hy
  rw [hzx, hy] at hz
  exact hab (Option.some.inj hz)

/-! ## The channels -/

theorem arbitrate_freed {x : Chan} (hfit : RolesFit c) (hx : ((arbitrate c).chan x).station = none)
    (hbefore : (c.chan x).station ≠ none) : (arbitrate c).chan x =
      { freeChan with quality := (c.chan x).quality, measured := (c.chan x).measured } := by
  rw [arbitrate_of_changed hhold hpart (x := x) (by rw [hx]; exact hbefore.symm), applyAssignment_chan]
  rw [arbitrate_chan_station hhold hpart] at hx
  exact retunedCabin_freed hfit _ hx hbefore

theorem arbitrate_gained {x : Chan} {h : StationId} (hfit : RolesFit c) (hx : ((arbitrate c).chan x).station = some h)
    (hbefore : (c.chan x).station ≠ some h) : ∃ u, (arbitrate c).chan x = { freeChan with
      station := some h, serving := some u, retuning := true, quality := (c.chan x).quality } ∧
    ((arbitrate c).tuner u).role = .programme ∧ ((arbitrate c).tuner u).smoothed = none ∧
    ((arbitrate c).tuner u).acc = emptyAcceptance ∧
    ((arbitrate c).tuner u).tuned = if c.alloc.stopped then none else (c.station h).map (·.freq) := by
  have hroles := arbitrate_rolesFit hhold hpart hfit
  have heq := arbitrate_of_changed hhold hpart (x := x) (by rw [hx]; exact hbefore.symm)
  rw [arbitrate_chan_station hhold hpart] at hx
  obtain ⟨hchan, u, hu, htuner⟩ := retunedCabin_gained hfit _ hx hbefore
  rw [← applyAssignment_chan, ← heq, hu] at hchan
  rw [← applyAssignment_tuner, ← heq] at htuner
  obtain ⟨-, -, -, hdesired, -⟩ := hroles
  refine ⟨u, hchan, ?_, ?_, ?_, ?_⟩
  · rw [hdesired]
    exact desiredRole_serving (x := x) (by rw [hchan])
  all_goals
    rw [htuner]
    rfl

end Running

/-- Settles O32: the winners take the channels, and what an assignment changes is read off its steps. -/
theorem arbitrationAssignsTheWinners : Obligations.ArbitrationAssignsTheWinners := by
  refine ⟨fun c h => ⟨(demand_highest c h).eq_none_iff, (demand_highest c h).eq_some_iff⟩, fun c h => arbitrate_idle h,
    fun c hhold hpart hdiff hfit => ⟨arbitrate_differ hhold hpart hdiff, arbitrate_rolesFit hhold hpart hfit,
      fun h => arbitrate_demanded hhold hpart hdiff, fun h g q hg hlive hq hh => ?_,
      fun g x => arbitrate_carried_of_free hhold hpart hdiff, fun x h hx hh => ?_, fun g h q p hg hh h0 h1 hp hq => ?_,
      fun x hx hbefore => ?_, fun x h hx hbefore => ?_, fun h z l k r hmoved hl hr hp hs => ?_,
      fun j e h n he hk hbefore hafter => ?_, fun hchanged hf => ?_, arbitrate_dir c, arbitrate_slots c, arbitrate_watch c,
      arbitrate_channels c, arbitrate_sharesSame hhold hpart, arbitrate_hold c, arbitrate_stopped c⟩⟩
  · obtain ⟨p, hp, hrank⟩ := arbitrate_ahead hhold hpart hdiff hg hlive hq hh
    exact ⟨p, hp, hrank.imp id fun ⟨hqp, htie⟩ => ⟨hqp, htie⟩⟩
  · rw [arbitrate_chan_station hhold hpart]
    exact assignedTo_kept (keptStation_eq_some.mpr ⟨hx, (arbitrate_carried hhold hpart hdiff).mp hh⟩)
  · rw [arbitrate_chan_station hhold hpart] at h0 h1
    refine (newAssignment_order hg hh h0 h1 hp hq).imp id fun ⟨hqp, htie⟩ => ⟨hqp, ?_⟩
    simpa [hg, hh] using htie
  · rw [arbitrate_freed hhold hpart hfit hx hbefore]
    exact ⟨rfl, rfl, rfl, rfl, rfl, rfl⟩
  · obtain ⟨u, hchan, htuner⟩ := arbitrate_gained hhold hpart hfit hx hbefore
    rw [hchan]
    exact ⟨rfl, rfl, rfl, rfl, rfl, u, rfl, htuner⟩
  · rcases arbitrate_cases hhold hpart with ⟨-, heq⟩ | ⟨-, heq⟩
    · rw [heq] at hmoved
      exact absurd rfl hmoved
    · rw [heq] at hmoved ⊢
      exact applyAssignment_stale hmoved ⟨l, k, r, hl, hr, hp, hs⟩
  · have heq := arbitrate_of_uncarried hhold hpart hbefore hafter
    rw [heq] at hafter
    have hvacated := applyAssignment_vacates he hk hafter
    rw [← heq] at hvacated
    exact ⟨hvacated.gen, fun hposts => hvacated.shows (by rwa [arbitrate_part])⟩
  · rcases arbitrate_cases hhold hpart with ⟨hsame, -⟩ | ⟨-, heq⟩
    · exact absurd hsame hchanged
    · rw [heq]
      exact applyAssignment_tested hf _

end Sys2Proof.Machine
end
